-- ==== Sys2Proof/Word.lean ====
section
/-!
DEFINITION. The word types of the CI16 model.
The part is a block that speaks bytes on its serial lines and on the panel line (0.2, 1.10).
-/
namespace Sys2Proof

/-- One character of a serial line or of the panel line (1.1: a character on either port is one byte). -/
abbrev Byte := BitVec 8

end Sys2Proof
end

