-- ==== Sys2Proof/Syntax.lean ====
section
/-!
DEFINITION. The commands of the CI16, one constructor for each row of spec/opcode_table.json, in the
table's order.  A request row carries the port its frame is in service on and the frame's payload,
as received (R1): the operand fields of each request are read from those bytes by its meaning, so
that a wrong length or a field out of range is a command like any other (R6 step 4).
-/
namespace Sys2Proof

/-- The two serial ports (0.2). -/
inductive Port where
  | operations
  | content
  deriving DecidableEq, Repr

/-- The kinds of journey notice (7.1). -/
inductive JourneyKind where
  | nextStop
  | arriving
  | shortPlatform
  | divide
  | connections
  | welcome
  | finalStop
  deriving DecidableEq, Repr

/-- Names one notice wherever it stands: a posted notice by its tag (R137), a journey notice by its
kind and stop (R146). -/
inductive NoticeRef where
  | posted (tag : Nat)
  | journey (kind : JourneyKind) (stop : Nat)
  deriving DecidableEq, Repr

/-- The commands: what arrives from outside (bytes on a port, requests taken into service, edges of
the signal lines, acknowledgements) and the part's own timed and transmitter events. -/
inductive Instr where
  /-- FRAME_RECEIVED (R1, R2): the bytes given arrive on the port with no idle gap between them. -/
  | frameReceived (p : Port) (bytes : List Byte)
  /-- FRAME_IDLE_TIMEOUT (R1): the line falls idle for 4 character times inside a frame. -/
  | frameIdleTimeout (p : Port)
  /-- UNKNOWN_KIND_REQUEST (R6): a request in service whose kind is not in the catalogue. -/
  | unknownKindRequest (p : Port) (kind : Byte) (payload : List Byte)
  /-- REPLY_SEND (R4). -/
  | replySend (p : Port)
  /-- REPLY_COMPLETE (R3). -/
  | replyComplete (p : Port)
  /-- REPORT_SEND (R10). -/
  | reportSend (p : Port)
  /-- REPORT_COMPLETE (R11). -/
  | reportComplete (p : Port)
  /-- PORT_BREAK (R12). -/
  | portBreak (p : Port)
  /-- POWER_UP_RESET (R15). -/
  | powerUpReset
  /-- IDENTIFY (R13). -/
  | identify (p : Port) (payload : List Byte)
  /-- STATUS (R14). -/
  | status (p : Port) (payload : List Byte)
  /-- RESTART (R16). -/
  | restart (p : Port) (payload : List Byte)
  /-- RESTART_RESET (R16): the reset that follows the last byte of a Restart's reply. -/
  | restartReset
  /-- REST (R17). -/
  | rest (p : Port) (payload : List Byte)
  /-- WAKE (R19). -/
  | wake (p : Port) (payload : List Byte)
  /-- SET_CLOCK (R38). -/
  | setClock (p : Port) (payload : List Byte)
  /-- CLOCK_TICK (R37). -/
  | clockTick
  /-- LOAD_STOP (R21). -/
  | loadStop (p : Port) (payload : List Byte)
  /-- CLOSE_PLAN (R24). -/
  | closePlan (p : Port) (payload : List Byte)
  /-- START_JOURNEY (R26). -/
  | startJourney (p : Port) (payload : List Byte)
  /-- CLEAR_PLAN (R27). -/
  | clearPlan (p : Port) (payload : List Byte)
  /-- AMEND_STOP (R31). -/
  | amendStop (p : Port) (payload : List Byte)
  /-- SET_CALL (R32). -/
  | setCall (p : Port) (payload : List Byte)
  /-- READ_STOP (R35). -/
  | readStop (p : Port) (payload : List Byte)
  /-- READ_PLAN_SUMMARY (R36): a Read Stop whose payload is the one byte 0xFF. -/
  | readPlanSummary (p : Port)
  /-- SET_WHEEL (R42). -/
  | setWheel (p : Port) (payload : List Byte)
  /-- WHEEL_PULSE (R43). -/
  | wheelPulse
  /-- ODOMETER_WINDOW_END (R43). -/
  | odometerWindowEnd
  /-- MOTION_REPORT (R52). -/
  | motionReport (p : Port) (payload : List Byte)
  /-- SPEED_STALE (R53). -/
  | speedStale
  /-- POSITION_FIX (R55). -/
  | positionFix (p : Port) (payload : List Byte)
  /-- SET_APPROACH (R60). -/
  | setApproach (p : Port) (payload : List Byte)
  /-- DOOR_RELEASE_CHANGE (R65): the door release line takes the level given. -/
  | doorReleaseChange (active : Bool)
  /-- SET_STAGE (R69). -/
  | setStage (p : Port) (payload : List Byte)
  /-- READ_POSITION (R71). -/
  | readPosition (p : Port) (payload : List Byte)
  /-- STAGE_COACH (R73). -/
  | stageCoach (p : Port) (payload : List Byte)
  /-- CLEAR_STAGED (R74). -/
  | clearStaged (p : Port) (payload : List Byte)
  /-- APPLY_FORMATION (R81). -/
  | applyFormation (p : Port) (payload : List Byte)
  /-- SET_LEADING_END (R85). -/
  | setLeadingEnd (p : Port) (payload : List Byte)
  /-- WRITE_LAYOUT (R89). -/
  | writeLayout (p : Port) (payload : List Byte)
  /-- READ_FORMATION (R91). -/
  | readFormation (p : Port) (payload : List Byte)
  /-- DEFINE_SEAT (R94). -/
  | defineSeat (p : Port) (payload : List Byte)
  /-- REMOVE_SEAT (R95): a Define Seat whose action byte is 1. -/
  | removeSeat (p : Port) (payload : List Byte)
  /-- BLOCK_SEAT (R96). -/
  | blockSeat (p : Port) (payload : List Byte)
  /-- PUT_SEGMENT (R102). -/
  | putSegment (p : Port) (payload : List Byte)
  /-- REMOVE_SEGMENT (R105). -/
  | removeSegment (p : Port) (payload : List Byte)
  /-- CLEAR_SEAT (R106). -/
  | clearSeat (p : Port) (payload : List Byte)
  /-- MOVE_SEAT (R107). -/
  | moveSeat (p : Port) (payload : List Byte)
  /-- READ_SEAT (R119). -/
  | readSeat (p : Port) (payload : List Byte)
  /-- READ_BAY (R120). -/
  | readBay (p : Port) (payload : List Byte)
  /-- HELD_READ (R123). -/
  | heldRead (p : Port) (payload : List Byte)
  /-- COMMIT_SEAT (R126 to R130). -/
  | commitSeat (p : Port) (payload : List Byte)
  /-- TAKE_MARKS (R134). -/
  | takeMarks (p : Port) (payload : List Byte)
  /-- POST_NOTICE (R142, R143). -/
  | postNotice (p : Port) (payload : List Byte)
  /-- WITHDRAW_NOTICE (R144). -/
  | withdrawNotice (p : Port) (payload : List Byte)
  /-- CLEAR_ALARM (R145). -/
  | clearAlarm (p : Port) (payload : List Byte)
  /-- READ_NOTICES (R165). -/
  | readNotices (p : Port) (payload : List Byte)
  /-- DWELL_EXPIRY (R139). -/
  | dwellExpiry
  /-- NOTICE_VALIDITY_EXPIRY (R162): the time limit of the notice named runs out. -/
  | noticeValidityExpiry (ref : NoticeRef)
  /-- STORE_UNLOCK (R172). -/
  | storeUnlock (p : Port) (payload : List Byte)
  /-- WRITE_PHRASE (R173). -/
  | writePhrase (p : Port) (payload : List Byte)
  /-- PROGRAM_COMPLETE (R174). -/
  | programComplete
  /-- ERASE_SECTORS (R175). -/
  | eraseSectors (p : Port) (payload : List Byte)
  /-- SECTOR_ERASE_FINISH (R176). -/
  | sectorEraseFinish
  /-- HOLD_ERASE (R177). -/
  | holdErase (p : Port) (payload : List Byte)
  /-- RESUME_ERASE (R178). -/
  | resumeErase (p : Port) (payload : List Byte)
  /-- READ_PHRASE (R187). -/
  | readPhrase (p : Port) (payload : List Byte)
  /-- READ_STORE (R188). -/
  | readStore (p : Port) (payload : List Byte)
  /-- LOCK_SECTORS (R183). -/
  | lockSectors (p : Port) (payload : List Byte)
  /-- LOCK_FIXED_AREA (R184). -/
  | lockFixedArea (p : Port) (payload : List Byte)
  /-- DEFINE_PANEL (R192). -/
  | definePanel (p : Port) (payload : List Byte)
  /-- REMOVE_PANEL (R192): a Define Panel whose action byte is 1. -/
  | removePanel (p : Port) (payload : List Byte)
  /-- SET_LANGUAGES (R200). -/
  | setLanguages (p : Port) (payload : List Byte)
  /-- READ_PANELS (R209). -/
  | readPanels (p : Port) (payload : List Byte)
  /-- PAGE_SEND (R194, R195). -/
  | pageSend
  /-- PROBE_SEND (R198). -/
  | probeSend
  /-- PANEL_ACK (R196): the bytes of one frame received on the panel line. -/
  | panelAck (bytes : List Byte)
  /-- ACK_TIMEOUT (R196). -/
  | ackTimeout
  /-- PROBE_TIMER_EXPIRY (R198): the probe timer of the panel at the address runs out. -/
  | probeTimerExpiry (addr : Nat)
  /-- ROTATION_TIMER_EXPIRY (R199). -/
  | rotationTimerExpiry
  /-- BLANK_PAGE_SEND (R207). -/
  | blankPageSend
  /-- SET_LEVELS (R211). -/
  | setLevels (p : Port) (payload : List Byte)
  /-- SET_TUNNELS (R212). -/
  | setTunnels (p : Port) (payload : List Byte)
  /-- CABINET_EDGE (R213). -/
  | cabinetEdge
  /-- HEAT_WINDOW_END (R213). -/
  | heatWindowEnd
  /-- SET_HEAT_GUARD (R214). -/
  | setHeatGuard (p : Port) (payload : List Byte)
  /-- ENABLE_HEAT_GUARD (R215). -/
  | enableHeatGuard (p : Port) (payload : List Byte)
  /-- OVERHEAT_LINE_CHANGE (R217): the cabinet overheat line takes the level given. -/
  | overheatLineChange (active : Bool)
  /-- READ_BRIGHTNESS (R219). -/
  | readBrightness (p : Port) (payload : List Byte)
  /-- LINE_IDLE (R1). -/
  | lineIdle (p : Port)
  /-- POWER_LOSS (R186). -/
  | powerLoss
  deriving DecidableEq, Repr

end Sys2Proof
end

