-- ==== Sys2Proof/Decode.lean ====
section
/-!
DEFINITION. The commands that words spell.  spec/opcode_table.json gives no row any bits: a command
reaches the part as a frame, an edge of a line or a timer, never as an instruction word.
-/
namespace Sys2Proof

/-- The command that a word spells by the table's bits: the table gives none, so no word spells one. -/
def decodeTableWord (_nbits _w : Nat) : Option Instr := none

end Sys2Proof
end

