-- ==== Sys2Proof/Config.lean ====
section
/-!
DEFINITION. What the manual fixes for every part of this kind, and the one value it leaves free.
-/
namespace Sys2Proof

/-- The product code that Identify returns (R13). -/
def Config.productCode : Nat := 0x4C16

/-- The message-set revision that Identify returns (R13). -/
def Config.messageSetRevision : Nat := 1

/-- FREE VALUE (log entry 4). The time in ms that the internal reads of one event take, for the n-th
such event since power was first applied. R179: a read may take any time, and the remaining erasing
time of the sector under erase grows by exactly that time. -/
opaque Config.readTime : Nat → Nat

end Sys2Proof
end

