-- ==== Sys2Proof/Machine/State.lean ====
section
/-!
DEFINITION. The state of the CI16, block by block (0.3), as plain data; the reasons a step can stop;
and the state right after a power-up reset.  Each field names the rule that gives it.  Numbers that
the manual counts or compares are Nat; what it treats as bits (lock bits, marks, masks) is a bit
vector; what it names in capitals is an inductive type.
-/
namespace Sys2Proof.Machine

/-! ### Why a step can stop -/

/-- A fault stops the machine.  The manual gives every command of the table an effect in every state,
so no command raises one: the type has no constructor. -/
inductive Fault : Type
  deriving DecidableEq, Repr

/-- A refusal: no meaning for a command. -/
inductive Refusal where
  /-- Raised by exec alone, for a row of the table that has no meaning yet.  Safe: the machine stops
  where the part goes on.  Every row has its meaning, so no command raises it. -/
  | notModelled (mnemonic : String)
  deriving DecidableEq, Repr

/-! ### Link Unit (chapter 1) -/

/-- The status codes of a reply (R8). -/
inductive Status where
  | done
  | privilege
  | malformed
  | unknownKind
  | wrongState
  | notFound
  | noRoom
  | conflict
  | offRoute
  | stale
  | busy
  | locked
  | notEnabled
  | notErased
  | asleep
  deriving DecidableEq, Repr

/-- The rest state (1.9). -/
inductive RestState where
  | awake
  | resting
  deriving DecidableEq, Repr

/-- Why the part woke (R19). -/
inductive WakeReason where
  | wakeMessage
  | doorRelease
  | wheelPulses
  deriving DecidableEq, Repr

/-- A request frame that passed R2: its kind and its payload. -/
structure Request where
  kind : Byte
  payload : List Byte
  deriving DecidableEq, Repr

/-- A reply, before the port flags are added as its first byte is sent (R8, R4). -/
structure Reply where
  kind : Byte
  status : Status
  payload : List Byte
  deriving DecidableEq, Repr

/-- How far the request at the head of a port's queue has come (R3, R5). -/
inductive Service where
  /-- no request is in service, or the one at the head is about to be taken -/
  | untaken
  /-- a Read Phrase waits for the program under way (R187, R179) -/
  | deferred (phrase lang : Nat)
  /-- the request has been carried out or refused; its reply waits or is being sent -/
  | answered
  deriving DecidableEq, Repr

/-- The transmitter of a port (R11), with the whole frame it is sending. -/
inductive Transmitter where
  | free
  | reply (frame : List Byte)
  | report (frame : List Byte)
  deriving DecidableEq, Repr

/-- The receiver of a port (R1). -/
inductive Receiver where
  /-- every byte is ignored until the line has been idle for 4 character times -/
  | ignoring
  /-- the line has been idle for 4 character times; a byte 0xC3 starts a frame -/
  | listening
  /-- a frame is being received; the bytes after its start byte, in order -/
  | receiving (got : List Byte)
  deriving DecidableEq, Repr

/-- Whether a Restart has been carried out and its reset is still to come (R16). -/
inductive RestartPhase where
  | none
  /-- the reply to Restart waits or is being sent -/
  | replying
  /-- the reply's last byte has been sent; the reset is next -/
  | due
  deriving DecidableEq, Repr

/-! ### Values shared by several blocks -/

/-- A portion of the train (0.5). -/
inductive Portion where
  | a
  | b
  | c
  deriving DecidableEq, Repr

/-- The plan state (2.3). -/
inductive PlanState where
  | empty
  | loading
  | ready
  | running
  | ended
  deriving DecidableEq, Repr

/-- The odometer mode (3.1). -/
inductive Mode where
  | wheel
  | guarded
  | deadReckon
  | hold
  deriving DecidableEq, Repr

/-- The stage of the current stop (3.9). -/
inductive Stage where
  | cruise
  | announce
  | approach
  | berthing
  | atPlatform
  | departed
  deriving DecidableEq, Repr

/-- The facing of the coach (R77). -/
inductive Facing where
  | aLeads
  | bLeads
  deriving DecidableEq, Repr

/-- An end of the formation (R75). -/
inductive TrainEnd where
  | one
  | two
  deriving DecidableEq, Repr

/-- An end of the coach body: seats face it, door maps stand at it (0.5). -/
inductive CoachEnd where
  | a
  | b
  deriving DecidableEq, Repr

/-- The heat state (R216). -/
inductive HeatState where
  | off
  | cool
  | warm
  | hot
  | lost
  deriving DecidableEq, Repr

/-- The class of a notice (7.1). -/
inductive NoticeClass where
  | alarm
  | service
  | journey
  | information
  deriving DecidableEq, Repr

/-- Why a notice was dropped (7.8). -/
inductive DropReason where
  | displaced
  | expired
  | replaced
  deriving DecidableEq, Repr

/-- An event awaiting report, with its data (R9, the event entries of 1.10). -/
inductive Event where
  | stage (stop : Nat) (stage : Stage) (passed : Bool)
  | mode (mode : Mode)
  | fixJump (jump : Int)
  | doorUnscheduled (stop : Option Nat) (stage : Stage)
  | formation (reversed attached : Bool) (position : Nat) (portion : Option Portion) (facing : Facing)
  | noticeLevel (old new : Nat)
  | noticeDropped (cls : NoticeClass) (tag : Nat) (kind : Option JourneyKind) (stop : Option Nat)
      (reason : DropReason)
  | panel (addr : Nat) (failed : Bool)
  | heat (state : HeatState) (ceiling : Nat)
  | overheat (active : Bool)
  | woke (reason : WakeReason)
  | storeDamage (torn incomplete : Nat)
  | journeyEnd
  | stranded (count : Nat)
  | marks (bays : BitVec 24)
  | storeDone (erase : Bool) (which : Nat)
  deriving DecidableEq, Repr

/-- One port of the Link Unit. -/
structure PortState where
  /-- receive queue, head first (R3) -/
  queue : List Request
  service : Service
  /-- the reply waiting for the transmitter (R11) -/
  reply : Option Reply
  tx : Transmitter
  rx : Receiver
  /-- pending event set, in ascending event code (R9) -/
  events : List Event
  /-- port flag FRAME_ERROR (R4) -/
  frameError : Bool
  /-- port flag OVERRUN (R4) -/
  overrun : Bool
  deriving DecidableEq, Repr

/-- The Link Unit. -/
structure Link where
  rest : RestState
  restart : RestartPhase
  operations : PortState
  content : PortState
  deriving DecidableEq, Repr

/-! ### Journey Plan and clock (chapter 2) -/

/-- What a portion does at a stop (2.1). -/
inductive Call where
  | noCall
  | pass
  | call
  | cancelled
  deriving DecidableEq, Repr

/-- The side on which doors open, relative to the direction of travel (2.1). -/
inductive DoorSide where
  | left
  | right
  | both
  deriving DecidableEq, Repr

/-- The train operation made at a stop (2.1). -/
inductive StopEvent where
  | noEvent
  | divide
  | join
  | reverse
  deriving DecidableEq, Repr

/-- A stop record (2.1); its stop number is its place in the stop table (R20). -/
structure StopRecord where
  name : Nat
  line : Nat
  arrival : Option Nat
  departure : Option Nat
  delay : Int
  platform : Option Nat
  doorSide : DoorSide
  /-- platform length in coach lengths; none is WHOLE -/
  length : Option Nat
  callA : Call
  callB : Call
  callC : Call
  event : StopEvent
  connections : List Nat
  deriving DecidableEq, Repr

/-- The Journey Plan. -/
structure Plan where
  state : PlanState
  stops : List StopRecord
  deriving DecidableEq, Repr

/-- The journey clock (R37). -/
structure Clock where
  set : Bool
  second : Nat
  /-- ms of the second under way, timed from the Set Clock that last set it -/
  phase : Nat
  deriving DecidableEq, Repr

/-! ### Odometer and Approach Monitor (chapter 3) -/

/-- The wheel channel (3.1). -/
inductive Channel where
  | healthy
  | failed
  deriving DecidableEq, Repr

/-- The Odometer (3.1). -/
structure Odometer where
  diameter : Nat
  pulsesPerRev : Nat
  /-- P, travel per pulse in µm -/
  travelPerPulse : Nat
  /-- S, line position of the train front in m -/
  position : Nat
  /-- distance travelled and not yet carried into S, in µm -/
  remainder : Nat
  /-- v, mm/s -/
  speed : Nat
  /-- v_prev, mm/s -/
  prevSpeed : Nat
  mode : Mode
  channel : Channel
  /-- r, 0.1 km/h -/
  reported : Nat
  fresh : Bool
  /-- ms left of the 10 s freshness time; 0 when it does not run (R53) -/
  freshLeft : Nat
  /-- travel since fix, m -/
  sinceFix : Nat
  suspectRun : Nat
  failureRun : Nat
  disagreementRun : Nat
  agreementRun : Nat
  zeroRun : Nat
  exemption : Bool
  /-- n, pulses of the window under way (R43) -/
  count : Nat
  /-- ms gone of the 200 ms window under way -/
  windowMs : Nat
  /-- whether a pulse was counted during the rest (R57) -/
  pulseInRest : Bool
  deriving DecidableEq, Repr

/-- The Approach Monitor (R59), with the standstill flag that R54 keeps with it. -/
structure Approach where
  /-- C, the current stop -/
  current : Option Nat
  /-- L, the last departed stop -/
  last : Option Nat
  stage : Option Stage
  /-- passed-without-call flag of L -/
  passed : Bool
  departureRun : Nat
  /-- the door release line as last taken -/
  doorTaken : Bool
  annTime : Nat
  annDist : Nat
  appTime : Nat
  standstill : Bool
  /-- ETA minutes formed at the last evaluation; none is not shown (R62) -/
  eta : Option Nat
  deriving DecidableEq, Repr

/-! ### Formation Table (chapter 4) -/

/-- A formation entry (4.1); endATo2 is orientation END_A_TO_2. -/
structure CoachEntry where
  unit : BitVec 64
  coach : Nat
  portion : Portion
  endATo2 : Bool
  deriving DecidableEq, Repr

/-- The arrow of a layout entry (R88). -/
inductive Arrow where
  | absent
  | towardEndA
  | towardEndB
  deriving DecidableEq, Repr

/-- One panel's entry in a layout bank (R88); firstRight is map order FIRST_STOP_RIGHT. -/
structure LayoutEntry where
  arrow : Arrow
  firstRight : Bool
  deriving DecidableEq, Repr

/-- The Formation Table; the derived values of R76 and R77 are formed at each use. -/
structure Formation where
  staged : List CoachEntry
  active : List CoachEntry
  lead : TrainEnd
  arrival : Option TrainEnd
  /-- layout bank A, the entry of address n at place n − 1 -/
  bankA : List LayoutEntry
  bankB : List LayoutEntry
  deriving DecidableEq, Repr

/-! ### Seat Table and Hold and Mark Unit (chapters 5 and 6) -/

/-- The kind of a segment (5.2). -/
inductive SegmentKind where
  | booked
  | group
  | staff
  deriving DecidableEq, Repr

/-- A segment record (5.2). -/
structure Segment where
  fromStop : Nat
  toStop : Nat
  kind : SegmentKind
  tag : Nat
  label : Option Nat
  stranded : Bool
  deriving DecidableEq, Repr

/-- The category of a seat (5.1). -/
inductive SeatCategory where
  | standard
  | priority
  | wheelchairSpace
  deriving DecidableEq, Repr

/-- The display state of a seat (5.6). -/
inductive DisplayState where
  | free
  | freeUntil
  | reserved
  | releasing
  | underReview
  | outOfUse
  | noService
  deriving DecidableEq, Repr

/-- A seat's display: state, boundary stop, label phrase (R109, R110). -/
structure Display where
  state : DisplayState
  boundary : Option Nat
  label : Option Nat
  deriving DecidableEq, Repr

/-- A seat record (5.1). -/
structure Seat where
  number : Nat
  bay : Nat
  category : SeatCategory
  seatEnd : CoachEnd
  blocked : Bool
  segments : List Segment
  /-- the display most recently formed; none for a seat just created (R111) -/
  lastDisplay : Option Display
  deriving DecidableEq, Repr

/-- The Seat Table: seats in definition order, free records of the pool (R93, R98). -/
structure SeatTable where
  seats : List Seat
  free : Nat
  deriving DecidableEq, Repr

/-- The hold of a port (6.1). -/
inductive Hold where
  | absent
  | standing (seat : Nat)
  | broken (seat : Nat)
  deriving DecidableEq, Repr

/-- The Hold and Mark Unit: a hold per port, 24 bay marks, the unreported marks (R122, R132, R135). -/
structure Holds where
  operations : Hold
  content : Hold
  marks : BitVec 24
  unreported : BitVec 24
  deriving DecidableEq, Repr

/-! ### Notice Sequencer (chapter 7) -/

/-- An item of a notice (R140). -/
inductive Item where
  | phrase (n : Nat)
  | stopName (stop : Nat)
  | minutes (n : Nat)
  | coach (n : Nat)
  | platform (stop : Nat)
  | doorSide (side : DoorSide)
  | doorSideOf (stop : Nat)
  | destination (portion : Portion)
  deriving DecidableEq, Repr

/-- When a notice stops being worth showing (7.1). -/
inductive Validity where
  | unlimited
  /-- a time limit, with the ms that remain -/
  | limit (ms : Nat)
  | stage (stage : Stage)
  deriving DecidableEq, Repr

/-- A notice record (7.1). -/
structure Notice where
  cls : NoticeClass
  /-- 0 for a journey notice, which has no tag -/
  tag : Nat
  kind : Option JourneyKind
  stop : Option Nat
  items : List Item
  repeats : Nat
  dwell : Nat
  /-- bit i for language i -/
  mask : BitVec 4
  validity : Validity
  cycles : Nat
  lang : Nat
  deriving DecidableEq, Repr

/-- The Notice Sequencer (R137); the level is formed from the active notice (R155). -/
structure Sequencer where
  queue : List Notice
  active : Option Notice
  slot1 : Option Notice
  slot2 : Option Notice
  /-- ms left of the active notice's dwell (R138) -/
  dwellLeft : Nat
  deriving DecidableEq, Repr

/-! ### Phrase Store (chapter 8) -/

/-- A place of the store that is not ERASED (R167). -/
inductive Entry where
  | valid (text : List Byte)
  | torn
  deriving DecidableEq, Repr

/-- An erase under way (R170): its range, its current sector, the ms that sector still needs. -/
structure Erase where
  first : Nat
  last : Nat
  current : Nat
  left : Nat
  deriving DecidableEq, Repr

/-- A program under way (R170): its entry, its text, the ms it still needs. -/
structure Program where
  phrase : Nat
  lang : Nat
  text : List Byte
  left : Nat
  deriving DecidableEq, Repr

/-- The store state with what R170 holds with it (8.2). -/
inductive StoreOp where
  | idle
  | programming (pr : Program)
  | erasing (er : Erase)
  | eraseHeld (er : Erase)
  | heldProgramming (er : Erase) (pr : Program)
  deriving DecidableEq, Repr

/-- The Phrase Store.  entries lists the places that are not ERASED, by key 4 × phrase + language,
keys strictly rising (log entry 7). -/
structure Store where
  entries : List (Nat × Entry)
  /-- sectors without their erase-complete marker (R168) -/
  incomplete : BitVec 128
  /-- sector lock bits (R169) -/
  locks : BitVec 128
  fixedLock : Bool
  /-- write-enable latch (R171) -/
  latch : Bool
  op : StoreOp
  /-- kept counts (R185) -/
  tornCount : Nat
  incompleteCount : Nat
  deriving DecidableEq, Repr

/-! ### Panel Line Controller (chapter 9) -/

/-- The kind of a panel (9.1). -/
inductive PanelKind where
  | seatStrip
  | doorMap
  | banner
  deriving DecidableEq, Repr

/-- The state of a defined panel (R191); an address without a record is ABSENT. -/
inductive PanelState where
  | idle
  | sending
  | failed
  deriving DecidableEq, Repr

/-- The probe timer of a panel (R198). -/
inductive ProbeTimer where
  | stopped
  | running (ms : Nat)
  | due
  deriving DecidableEq, Repr

/-- A panel record (9.1). -/
structure Panel where
  addr : Nat
  kind : PanelKind
  /-- bay of a seat strip; 0 for coach end A or 1 for B of a door map; 0 for a banner -/
  param : Nat
  state : PanelState
  stale : Bool
  miss : Nat
  incomplete : Bool
  bright : Option Nat
  probe : ProbeTimer
  deriving DecidableEq, Repr

/-- A part of a TEXT cell: a phrase still to be read, or bytes that are not read from the store
(R141, 9.6). -/
inductive TextPart where
  | phrase (n : Nat)
  | bytes (b : List Byte)
  deriving DecidableEq, Repr

/-- A cell of a page body (1.10), its phrases not yet read. -/
inductive Cell where
  | text (parts : List TextPart)
  | seat (number : Nat) (category : SeatCategory) (state : DisplayState) (arrow : Arrow)
  | stop (number : Nat) (planned forecast : Option Nat)
  | marker (between : Bool)
  | splitJoin (join : Bool) (portion : Option Portion)
  | coach (coach position : Nat)
  | doors (side : Nat)
  | clock (minute : Option Nat)
  | mapOrder (firstRight : Bool)
  | minutes (n : Nat)
  deriving DecidableEq, Repr

/-- What frame is in flight on the panel line (R209). -/
inductive FrameKind where
  | page
  | probe
  | blank
  deriving DecidableEq, Repr

/-- The frame in flight: a page waiting for a program (R195), or the bytes being sent. -/
inductive FrameBody where
  | waiting (cells : List Cell)
  | sent (bytes : List Byte)
  deriving DecidableEq, Repr

/-- The frame in flight (9.3). -/
structure Frame where
  kind : FrameKind
  addr : Nat
  /-- the kind of the panel when the frame began, for its brightness -/
  panelKind : PanelKind
  lang : Nat
  body : FrameBody
  /-- the panel was removed meanwhile: the answer is discarded (R197, R198) -/
  discard : Bool
  /-- ms left of the 20 ms wait (R196) -/
  ackLeft : Nat
  deriving DecidableEq, Repr

/-- The Panel Line Controller. -/
structure PanelLine where
  /-- defined panels, addresses rising (R191) -/
  panels : List Panel
  /-- the frame in flight; none is a free line (9.3) -/
  flight : Option Frame
  lastBanner : Option Nat
  lastDoorMap : Option Nat
  lastStrip : Option Nat
  rotation : List Nat
  /-- language dwell in s (R199) -/
  dwell : Nat
  /-- rotation position, from 0 -/
  place : Nat
  /-- ms left of the rotation timer; 0 when it does not run -/
  rotationLeft : Nat
  /-- after rest entry: the lowest address still to be sent its blank page (R207) -/
  blankFrom : Option Nat
  deriving DecidableEq, Repr

/-! ### Brightness Unit with Heat Guard (chapter 10) -/

/-- The three levels of a panel kind (R210). -/
structure Levels where
  day : Nat
  night : Nat
  tunnel : Nat
  deriving DecidableEq, Repr

/-- The heat guard configuration with its flags (R214); falling is polarity FALLING. -/
structure HeatGuard where
  lo : Nat
  hi : Nat
  falling : Bool
  warmCeiling : Nat
  hotCeiling : Nat
  configured : Bool
  enabled : Bool
  deriving DecidableEq, Repr

/-- The Brightness Unit; ambient levels, ceilings and brightness are formed at each use. -/
structure Brightness where
  strip : Levels
  doorMap : Levels
  banner : Levels
  dusk : Nat
  dawn : Nat
  /-- tunnel ranges (from, to) in the order loaded (R212) -/
  tunnels : List (Nat × Nat)
  guard : HeatGuard
  /-- edges of the heat window under way (R213) -/
  count : Nat
  /-- ms gone of the 1 s heat window -/
  windowMs : Nat
  /-- f, Hz -/
  freq : Nat
  zeroRun : Nat
  heat : HeatState
  /-- the overheat flag (R217) -/
  overheat : Bool
  deriving DecidableEq, Repr

/-! ### The whole part -/

/-- The state of one CI16 and the commands waiting for it. -/
structure State where
  /-- whether power is applied (R186, log entry 8) -/
  powered : Bool
  /-- the factory identity of the part (R13) -/
  unitId : BitVec 64
  /-- level of the door release line (0.2) -/
  doorLine : Bool
  /-- level of the cabinet overheat line (0.2) -/
  overheatLine : Bool
  link : Link
  plan : Plan
  clock : Clock
  odo : Odometer
  appr : Approach
  form : Formation
  table : SeatTable
  holds : Holds
  seq : Sequencer
  store : Store
  line : PanelLine
  bright : Brightness
  /-- the model's own: how many free read times have been used (log entry 4) -/
  freeCount : Nat
  /-- the model's own: the commands waiting, first in first out -/
  pending : List Instr
  deriving DecidableEq, Repr

/-! ### Reset values -/

/-- A port after a reset (R3, R4, R9, R15), before any event of the reset is placed in it. -/
def PortState.reset : PortState where
  queue := []
  service := .untaken
  reply := none
  tx := .free
  rx := .ignoring
  events := []
  frameError := false
  overrun := false

/-- The Odometer after a reset (R41). -/
def Odometer.reset : Odometer where
  diameter := 920
  pulsesPerRev := 100
  travelPerPulse := 28902
  position := 0
  remainder := 0
  speed := 0
  prevSpeed := 0
  mode := .wheel
  channel := .healthy
  reported := 0
  fresh := false
  freshLeft := 0
  sinceFix := 0
  suspectRun := 0
  failureRun := 0
  disagreementRun := 0
  agreementRun := 0
  zeroRun := 0
  exemption := false
  count := 0
  windowMs := 0
  pulseInRest := false

/-- The Approach Monitor after a reset with the door release line inactive (R59, R54). -/
def Approach.reset : Approach where
  current := none
  last := none
  stage := none
  passed := false
  departureRun := 0
  doorTaken := false
  annTime := 180
  annDist := 6000
  appTime := 45
  standstill := false
  eta := none

/-- A layout bank after a reset (R88). -/
def bankReset : List LayoutEntry := List.replicate 24 ⟨.absent, false⟩

/-- The Notice Sequencer after a reset (R137). -/
def Sequencer.reset : Sequencer := ⟨[], none, none, none, 0⟩

/-- The store as a part leaves manufacture (R168), IDLE with the latch clear (R170, R171). -/
def Store.manufactured : Store where
  entries := []
  incomplete := 0
  locks := 0
  fixedLock := false
  latch := false
  op := .idle
  tornCount := 0
  incompleteCount := 0

/-- The Panel Line Controller after a reset (R191, R199). -/
def PanelLine.reset : PanelLine where
  panels := []
  flight := none
  lastBanner := none
  lastDoorMap := none
  lastStrip := none
  rotation := [0]
  dwell := 8
  place := 0
  rotationLeft := 0
  blankFrom := none

/-- The heat guard after a power-up reset (R214). -/
def HeatGuard.reset : HeatGuard := ⟨0, 0, false, 10, 4, false, false⟩

/-- The Brightness Unit after a power-up reset with the overheat line inactive (R210, R212, R213,
R216, R217). -/
def Brightness.reset : Brightness where
  strip := ⟨12, 6, 8⟩
  doorMap := ⟨12, 6, 8⟩
  banner := ⟨12, 6, 8⟩
  dusk := 1200
  dawn := 360
  tunnels := []
  guard := HeatGuard.reset
  count := 0
  windowMs := 0
  freq := 0
  zeroRun := 0
  heat := .off
  overheat := false

/-- The Hold and Mark Unit after a reset (R122, R133, R135). -/
def Holds.reset : Holds := ⟨.absent, .absent, BitVec.allOnes 24, BitVec.allOnes 24⟩

/-- The part right after a power-up reset, its store as it left manufacture and both signal lines
inactive (log entries 5, 6, 7).  MARKS with all 24 bays is pending on the Content port (R135). -/
def State.reset : State where
  powered := true
  unitId := 0
  doorLine := false
  overheatLine := false
  link :=
    { rest := .awake
      restart := .none
      operations := PortState.reset
      content := { PortState.reset with events := [.marks (BitVec.allOnes 24)] } }
  plan := ⟨.empty, []⟩
  clock := ⟨false, 0, 0⟩
  odo := Odometer.reset
  appr := Approach.reset
  form := ⟨[], [], .one, none, bankReset, bankReset⟩
  table := ⟨[], 256⟩
  holds := Holds.reset
  seq := Sequencer.reset
  store := Store.manufactured
  line := PanelLine.reset
  bright := Brightness.reset
  freeCount := 0
  pending := []

end Sys2Proof.Machine
end

