-- ==== Sys2Proof/Machine/Operands.lean ====
section
/-!
DEFINITION. The operand forms of the commands: how payload bytes are read as fields, how fields are
written as bytes (1.10: most significant byte first, signed numbers in two's complement), the CRC of
R2, UTF-8, and the value codes of 1.10.
-/
namespace Sys2Proof.Machine

/-! ### Bytes to numbers and back -/

/-- n bytes of v, most significant first (1.10). -/
def be : Nat → Nat → List Byte
  | 0, _ => []
  | n + 1, v => BitVec.ofNat 8 (v / 256 ^ n) :: be n v

/-- n bytes of a signed number in two's complement (1.10). -/
def beInt (n : Nat) (i : Int) : List Byte := be n (i % (256 ^ n : Nat)).toNat

/-- The byte at offset i as a number; 0 beyond the end, which a length check rules out. -/
def u8 (bs : List Byte) (i : Nat) : Nat := (bs.getD i 0).toNat

/-- The 2-byte number at offset i. -/
def u16 (bs : List Byte) (i : Nat) : Nat := 256 * u8 bs i + u8 bs (i + 1)

/-- The 3-byte number at offset i. -/
def u24 (bs : List Byte) (i : Nat) : Nat := 256 * u16 bs i + u8 bs (i + 2)

/-- The 4-byte number at offset i. -/
def u32 (bs : List Byte) (i : Nat) : Nat := 65536 * u16 bs i + u16 bs (i + 2)

/-- The 8-byte number at offset i. -/
def u64 (bs : List Byte) (i : Nat) : Nat := 4294967296 * u32 bs i + u32 bs (i + 4)

/-- The signed 2-byte number at offset i. -/
def i16 (bs : List Byte) (i : Nat) : Int :=
  if u16 bs i < 32768 then (u16 bs i : Int) else (u16 bs i : Int) - 65536

/-- A byte that is 1 for set and 0 for clear. -/
def flag (b : Bool) : List Byte := [if b then 1 else 0]

/-- A 1-byte number, 0xFF for none. -/
def orFF (o : Option Nat) : List Byte := be 1 (o.getD 0xFF)

/-- A 2-byte number, 0xFFFF for absent. -/
def orFFFF (o : Option Nat) : List Byte := be 2 (o.getD 0xFFFF)

/-- A number read from a field in which the given value stands for absent. -/
def unlessEq (absent v : Nat) : Option Nat := if v = absent then none else some v

/-- A value brought into a range (0.5: clamped). -/
def clampInt (lo hi i : Int) : Int := max lo (min hi i)

/-! ### CRC (R2) -/

/-- One bit of the CRC with generator 0x1021. -/
def crcBit (c : BitVec 16) : BitVec 16 :=
  if c.msb then (c <<< 1) ^^^ 0x1021#16 else c <<< 1

/-- One byte of the CRC, its bits most significant first. -/
def crcByte (c : BitVec 16) (b : Byte) : BitVec 16 :=
  crcBit (crcBit (crcBit (crcBit (crcBit (crcBit (crcBit (crcBit (c ^^^ (b.zeroExtend 16 <<< 8)))))))))

/-- The CRC of a sequence of bytes, initial value 0xFFFF, no final inversion (R2). -/
def crc (bs : List Byte) : BitVec 16 := bs.foldl crcByte 0xFFFF#16

/-- The bytes after a start byte, followed by their CRC. -/
def withCrc (bs : List Byte) : List Byte := bs ++ be 2 (crc bs).toNat

/-! ### UTF-8 (log entry 16) -/

/-- A UTF-8 continuation byte. -/
def isCont (b : Byte) : Bool := 0x80 ≤ b.toNat && b.toNat ≤ 0xBF

/-- Well-formed UTF-8: no overlong form, no surrogate, nothing above U+10FFFF (log entry 16). -/
def utf8 : List Byte → Bool
  | [] => true
  | a :: rest =>
    if a.toNat < 0x80 then utf8 rest
    else if 0xC2 ≤ a.toNat && a.toNat ≤ 0xDF then
      match rest with
      | b :: rest' => isCont b && utf8 rest'
      | [] => false
    else if 0xE0 ≤ a.toNat && a.toNat ≤ 0xEF then
      match rest with
      | b :: c :: rest' =>
        isCont b && isCont c && (a.toNat != 0xE0 || 0xA0 ≤ b.toNat)
          && (a.toNat != 0xED || b.toNat ≤ 0x9F) && utf8 rest'
      | _ => false
    else if 0xF0 ≤ a.toNat && a.toNat ≤ 0xF4 then
      match rest with
      | b :: c :: d :: rest' =>
        isCont b && isCont c && isCont d && (a.toNat != 0xF0 || 0x90 ≤ b.toNat)
          && (a.toNat != 0xF4 || b.toNat ≤ 0x8F) && utf8 rest'
      | _ => false
    else false

/-- The last place at or before n at which a character of the text begins. -/
def charStart (text : List Byte) : Nat → Nat
  | 0 => 0
  | n + 1 => if isCont (text.getD (n + 1) 0) then charStart text n else n + 1

/-- A text cut to 120 bytes at the last character boundary within them (R141). -/
def cutText (text : List Byte) : List Byte :=
  if text.length ≤ 120 then text else text.take (charStart text 120)

/-- The decimal digits of a number, with enough fuel for all of them. -/
def digitsAux : Nat → Nat → List Byte
  | 0, _ => []
  | fuel + 1, n =>
    if n < 10 then [BitVec.ofNat 8 (48 + n)]
    else digitsAux fuel (n / 10) ++ [BitVec.ofNat 8 (48 + n % 10)]

/-- The decimal digits of a number as characters (R140). -/
def digits (n : Nat) : List Byte := digitsAux (n + 1) n

/-- The joining space of a composite text (R141). -/
def space : List Byte := [0x20]

/-! ### Value codes (1.10) -/

/-- Status codes (R8). -/
def Status.code : Status → Byte
  | .done => 0x00
  | .privilege => 0x01
  | .malformed => 0x02
  | .unknownKind => 0x03
  | .wrongState => 0x04
  | .notFound => 0x05
  | .noRoom => 0x06
  | .conflict => 0x07
  | .offRoute => 0x08
  | .stale => 0x09
  | .busy => 0x0A
  | .locked => 0x0B
  | .notEnabled => 0x0C
  | .notErased => 0x0D
  | .asleep => 0x0E

/-- Rest state codes (1.10). -/
def RestState.code : RestState → Nat
  | .awake => 0
  | .resting => 1

/-- Wake reason codes (1.10, WOKE). -/
def WakeReason.code : WakeReason → Nat
  | .wakeMessage => 0
  | .doorRelease => 1
  | .wheelPulses => 2

/-- Plan state codes (1.10). -/
def PlanState.code : PlanState → Nat
  | .empty => 0
  | .loading => 1
  | .ready => 2
  | .running => 3
  | .ended => 4

/-- Odometer mode codes (1.10). -/
def Mode.code : Mode → Nat
  | .wheel => 0
  | .guarded => 1
  | .deadReckon => 2
  | .hold => 3

/-- Stage codes (1.10), which are also the order of the stages (3.9). -/
def Stage.code : Stage → Nat
  | .cruise => 0
  | .announce => 1
  | .approach => 2
  | .berthing => 3
  | .atPlatform => 4
  | .departed => 5

/-- Portion codes (1.10). -/
def Portion.code : Portion → Nat
  | .a => 0
  | .b => 1
  | .c => 2

/-- The portion a code names (1.10). -/
def Portion.ofCode : Nat → Portion
  | 0 => .a
  | 1 => .b
  | _ => .c

/-- Facing codes (1.10). -/
def Facing.code : Facing → Nat
  | .aLeads => 0
  | .bLeads => 1

/-- Formation ends as numbers (R75). -/
def TrainEnd.code : TrainEnd → Nat
  | .one => 1
  | .two => 2

/-- The formation end a number names (R81). -/
def TrainEnd.ofCode (n : Nat) : TrainEnd := if n = 1 then .one else .two

/-- The other formation end. -/
def TrainEnd.flip : TrainEnd → TrainEnd
  | .one => .two
  | .two => .one

/-- The other facing. -/
def Facing.flip : Facing → Facing
  | .aLeads => .bLeads
  | .bLeads => .aLeads

/-- Heat state codes (1.10). -/
def HeatState.code : HeatState → Nat
  | .off => 0
  | .cool => 1
  | .warm => 2
  | .hot => 3
  | .lost => 4

/-- Notice class codes (1.10). -/
def NoticeClass.code : NoticeClass → Nat
  | .alarm => 0
  | .service => 1
  | .journey => 2
  | .information => 3

/-- Drop reason codes (1.10, NOTICE_DROPPED). -/
def DropReason.code : DropReason → Nat
  | .displaced => 0
  | .expired => 1
  | .replaced => 2

/-- Internal kind codes, 0 for a posted notice (7.1). -/
def kindCode : Option JourneyKind → Nat
  | none => 0
  | some .nextStop => 1
  | some .arriving => 2
  | some .shortPlatform => 3
  | some .divide => 4
  | some .connections => 5
  | some .welcome => 6
  | some .finalStop => 7

/-- Call state codes (R21). -/
def Call.code : Call → Nat
  | .noCall => 0
  | .pass => 1
  | .call => 2
  | .cancelled => 3

/-- The call state a code names (R21). -/
def Call.ofCode : Nat → Call
  | 0 => .noCall
  | 1 => .pass
  | 2 => .call
  | _ => .cancelled

/-- Door side codes (R21). -/
def DoorSide.code : DoorSide → Nat
  | .left => 0
  | .right => 1
  | .both => 2

/-- The door side a code names (R21). -/
def DoorSide.ofCode : Nat → DoorSide
  | 0 => .left
  | 1 => .right
  | _ => .both

/-- Stop event codes (R21). -/
def StopEvent.code : StopEvent → Nat
  | .noEvent => 0
  | .divide => 1
  | .join => 2
  | .reverse => 3

/-- The stop event a code names (R21). -/
def StopEvent.ofCode : Nat → StopEvent
  | 0 => .noEvent
  | 1 => .divide
  | 2 => .join
  | _ => .reverse

/-- Arrow codes (R89; the SEAT cell of 1.10 codes them alike). -/
def Arrow.code : Arrow → Nat
  | .absent => 0
  | .towardEndA => 1
  | .towardEndB => 2

/-- The arrow a code names (R89). -/
def Arrow.ofCode : Nat → Arrow
  | 0 => .absent
  | 1 => .towardEndA
  | _ => .towardEndB

/-- Segment kind codes (5.2). -/
def SegmentKind.code : SegmentKind → Nat
  | .booked => 0
  | .group => 1
  | .staff => 2

/-- The segment kind a code names (5.2). -/
def SegmentKind.ofCode : Nat → SegmentKind
  | 0 => .booked
  | 1 => .group
  | _ => .staff

/-- Seat category codes (5.1). -/
def SeatCategory.code : SeatCategory → Nat
  | .standard => 0
  | .priority => 1
  | .wheelchairSpace => 2

/-- The seat category a code names (5.1). -/
def SeatCategory.ofCode : Nat → SeatCategory
  | 0 => .standard
  | 1 => .priority
  | _ => .wheelchairSpace

/-- Coach end codes (5.1). -/
def CoachEnd.code : CoachEnd → Nat
  | .a => 0
  | .b => 1

/-- The coach end a code names (5.1). -/
def CoachEnd.ofCode (n : Nat) : CoachEnd := if n = 0 then .a else .b

/-- Display state codes (5.6). -/
def DisplayState.code : DisplayState → Nat
  | .free => 0
  | .freeUntil => 1
  | .reserved => 2
  | .releasing => 3
  | .underReview => 4
  | .outOfUse => 5
  | .noService => 6

/-- Panel kind codes (9.1). -/
def PanelKind.code : PanelKind → Nat
  | .seatStrip => 0
  | .doorMap => 1
  | .banner => 2

/-- The panel kind a code names (9.1). -/
def PanelKind.ofCode : Nat → PanelKind
  | 0 => .seatStrip
  | 1 => .doorMap
  | _ => .banner

/-- Panel state codes; ABSENT, 0, has no record (9.1). -/
def PanelState.code : PanelState → Nat
  | .idle => 1
  | .sending => 2
  | .failed => 3

/-- Store state codes (1.10). -/
def StoreOp.code : StoreOp → Nat
  | .idle => 0
  | .programming _ => 1
  | .erasing _ => 2
  | .eraseHeld _ => 3
  | .heldProgramming _ _ => 4

/-- The notice class a code names (1.10). -/
def NoticeClass.ofCode : Nat → NoticeClass
  | 0 => .alarm
  | 1 => .service
  | 2 => .journey
  | _ => .information

/-- Item codes and values on the wire (R140). -/
def Item.encode : Item → List Byte
  | .phrase n => be 1 0 ++ be 2 n
  | .stopName s => be 1 1 ++ be 2 s
  | .minutes n => be 1 2 ++ be 2 n
  | .coach n => be 1 3 ++ be 2 n
  | .platform s => be 1 4 ++ be 2 s
  | .doorSide d => be 1 5 ++ be 2 d.code
  | .doorSideOf s => be 1 5 ++ be 2 (0x100 + s)
  | .destination p => be 1 6 ++ be 2 p.code

/-- The item that a code and a value stand for; none where either is outside R140's ranges. -/
def Item.decode (code v : Nat) : Option Item :=
  if code = 0 then if v < 1024 then some (.phrase v) else none
  else if code = 1 then if v < 48 then some (.stopName v) else none
  else if code = 2 then if v < 1000 then some (.minutes v) else none
  else if code = 3 then if 1 ≤ v ∧ v ≤ 99 then some (.coach v) else none
  else if code = 4 then if v < 48 then some (.platform v) else none
  else if code = 5 then
    if v < 3 then some (.doorSide (DoorSide.ofCode v))
    else if 0x100 ≤ v ∧ v < 0x100 + 48 then some (.doorSideOf (v - 0x100))
    else none
  else if code = 6 then if v < 3 then some (.destination (Portion.ofCode v)) else none
  else none

/-! ### Frames (1.10) -/

/-- A reply frame, with the port-flags byte of R4. -/
def replyFrame (r : Reply) (frameError overrun resting : Bool) : List Byte :=
  0xC3 :: withCrc (be 2 r.payload.length ++ [r.kind, r.status.code]
    ++ be 1 (frameError.toNat + 2 * overrun.toNat + 4 * resting.toNat) ++ r.payload)

/-- Event codes (1.10). -/
def Event.code : Event → Nat
  | .stage .. => 0x01
  | .mode .. => 0x02
  | .fixJump .. => 0x03
  | .doorUnscheduled .. => 0x04
  | .formation .. => 0x05
  | .noticeLevel .. => 0x06
  | .noticeDropped .. => 0x07
  | .panel .. => 0x08
  | .heat .. => 0x09
  | .overheat .. => 0x0A
  | .woke .. => 0x0B
  | .storeDamage .. => 0x0C
  | .journeyEnd => 0x0D
  | .stranded .. => 0x0E
  | .marks .. => 0x10
  | .storeDone .. => 0x11

/-- Event data (1.10). -/
def Event.data : Event → List Byte
  | .stage stop st passed => be 1 stop ++ be 1 st.code ++ flag passed
  | .mode m => be 1 m.code
  | .fixJump j => beInt 4 j
  | .doorUnscheduled stop st => orFF stop ++ be 1 st.code
  | .formation rev att pos po fa =>
    flag rev ++ flag att ++ be 1 pos ++ orFF (po.map Portion.code) ++ be 1 fa.code
  | .noticeLevel old new => be 1 old ++ be 1 new
  | .noticeDropped cls tag kind stop why =>
    be 1 cls.code ++ be 2 tag ++ be 1 (kindCode kind) ++ orFF stop ++ be 1 why.code
  | .panel addr failed => be 1 addr ++ flag failed
  | .heat st ceiling => be 1 st.code ++ be 1 ceiling
  | .overheat active => flag active
  | .woke why => be 1 why.code
  | .storeDamage torn inc => be 2 torn ++ be 1 inc
  | .journeyEnd => []
  | .stranded n => be 2 n
  | .marks bays => be 3 bays.toNat
  | .storeDone erase which => flag erase ++ be 2 which

/-- An entry of a report: event code, data length, data (1.10). -/
def Event.encode (e : Event) : List Byte := be 1 e.code ++ be 1 e.data.length ++ e.data

/-- A report frame (1.10): its payload length counts the number byte and the entries. -/
def reportFrame (es : List Event) : List Byte :=
  let entries := es.flatMap Event.encode
  0xC3 :: withCrc (be 2 (1 + entries.length) ++ [0xFF] ++ be 1 es.length ++ entries)

/-- The kind byte of a reply (R8). -/
def replyKind (kind : Byte) : Byte := if kind = 0x7F ∨ 0x80 ≤ kind.toNat then 0x80 else kind ||| 0x80

/-- Panel line frame types (1.10). -/
def FrameKind.type : FrameKind → Nat
  | .page => 1
  | .blank => 2
  | .probe => 3

/-- A frame to a panel (1.10). -/
def panelFrame (kind : FrameKind) (addr bright lang : Nat) (body : List Byte) : List Byte :=
  0x5A :: withCrc (be 1 addr ++ be 1 kind.type ++ be 1 bright ++ be 1 lang ++ be 2 body.length ++ body)

end Sys2Proof.Machine
end

