-- ==== Sys2Proof/Machine/Flags.lean ====
section
/-!
DEFINITION. The flags that commands raise in common: event entries in the ports' pending sets (R9),
stale flags of the panels (R193), bay marks (R132, R135) and the breaking of holds (R124, R125).
-/
namespace Sys2Proof.Machine

/-! ### Pending event sets (R9) -/

/-- Whether the Operations port receives the kind of the event (R9). -/
def Event.toOperations : Event → Bool
  | .marks .. | .storeDone .. => false
  | _ => true

/-- Whether the Content port receives the kind of the event (R9). -/
def Event.toContent : Event → Bool
  | .storeDamage .. | .journeyEnd | .stranded .. | .marks .. | .storeDone .. => true
  | _ => false

/-- An event placed in a pending set kept in event code order: an entry of its kind is replaced
(R9, R10). -/
def insertEvent (e : Event) : List Event → List Event
  | [] => [e]
  | x :: xs =>
    if x.code = e.code then e :: xs
    else if e.code < x.code then e :: x :: xs
    else x :: insertEvent e xs

/-- A port's pending set after an event that may concern it (R9). -/
def PortState.receive (concerned : Bool) (e : Event) (ps : PortState) : PortState :=
  if concerned then { ps with events := insertEvent e ps.events } else ps

/-- The Link Unit places an event in the set of every port that receives its kind (R9). -/
def State.raise (e : Event) (s : State) : State :=
  { s with link := { s.link with
      operations := s.link.operations.receive e.toOperations e
      content := s.link.content.receive e.toContent e } }

/-! ### Stale flags (R193) -/

/-- Sets the stale flag of every defined panel that the trigger names, in every state (R193). -/
def State.staleWhere (named : Panel → Bool) (s : State) : State :=
  { s with line := { s.line with
      panels := s.line.panels.map fun x => if named x then { x with stale := true } else x } }

/-- Marks every panel stale. -/
def State.staleAll (s : State) : State := s.staleWhere fun _ => true

/-- Marks the door maps stale. -/
def State.staleDoorMaps (s : State) : State := s.staleWhere (·.kind = .doorMap)

/-- Marks the banners stale. -/
def State.staleBanners (s : State) : State := s.staleWhere (·.kind = .banner)

/-- Marks stale every seat strip of the bays given (R111). -/
def State.staleStrips (bays : List Nat) (s : State) : State :=
  s.staleWhere fun x => x.kind = .seatStrip && bays.contains x.param

/-- Marks stale the panels that the rotation drives: seat strips and door maps, and banners when no
notice is active (R199, R200). -/
def State.staleRotation (s : State) : State :=
  s.staleWhere fun x => x.kind != .banner || s.seq.active.isNone

/-! ### Holds (R122 to R125) -/

/-- A hold that the event given breaks becomes BROKEN and keeps its seat (R122). -/
def Hold.breakIf (named : Nat → Bool) : Hold → Hold
  | .standing n => if named n then .broken n else .standing n
  | h => h

/-- The hold of a port. -/
def Holds.get (h : Holds) : Port → Hold
  | .operations => h.operations
  | .content => h.content

/-- Sets the hold of a port. -/
def Holds.put (h : Holds) (p : Port) (x : Hold) : Holds :=
  match p with
  | .operations => { h with operations := x }
  | .content => { h with content := x }

/-- Sets the hold of a port and nothing else. -/
def State.setHold (p : Port) (x : Hold) (s : State) : State := { s with holds := s.holds.put p x }

/-- Breaks, on both ports, every STANDING hold on a named seat (R124). -/
def State.breakHolds (named : Nat → Bool) (s : State) : State :=
  { s with holds := { s.holds with
      operations := s.holds.operations.breakIf named
      content := s.holds.content.breakIf named } }

/-! ### Bay marks (R132, R135) -/

/-- The mark of one bay. -/
def bayBit (bay : Nat) : BitVec 24 := 1#24 <<< bay

/-- Sets the marks given.  The bays whose mark goes from clear to set join the unreported set, and
MARKS is raised with the whole set when there is one (R135). -/
def State.setMarks (bays : BitVec 24) (s : State) : State :=
  let fresh := bays &&& ~~~s.holds.marks
  let s1 := { s with holds := { s.holds with
    marks := s.holds.marks ||| bays
    unreported := s.holds.unreported ||| fresh } }
  if fresh = 0 then s1 else s1.raise (.marks s1.holds.unreported)

/-- Seat changes handed to the Hold and Mark Unit (R99): each pair is a seat number and a bay. -/
def State.handSeats (changed : List (Nat × Nat)) (s : State) : State :=
  (s.breakHolds fun n => changed.any (·.1 = n)).setMarks
    (changed.foldl (fun m x => m ||| bayBit x.2) 0)

/-- An event that breaks every hold and sets all 24 marks (R28, R30). -/
def State.breakAndMarkAll (s : State) : State :=
  (s.breakHolds fun _ => true).setMarks (BitVec.allOnes 24)

end Sys2Proof.Machine
end

