-- ==== Sys2Proof/Machine/Ops.lean ====
section
/-!
DEFINITION. Named operations that several blocks share: routes and effective stops (R22, R23), the
values derived from the formation (R76 to R80), the reference stop (R100), standstill and mode
(R51, R54), the clock's minute (R37), and the brightness with the ceiling in force (R210 to R218).
-/
namespace Sys2Proof.Machine

/-! ### Journey Plan: routes and effective stops -/

/-- The call state of one portion in a stop record (2.1). -/
def StopRecord.callOf (r : StopRecord) : Portion → Call
  | .a => r.callA
  | .b => r.callB
  | .c => r.callC

/-- A stop record with one portion's call state replaced. -/
def StopRecord.withCall (r : StopRecord) (po : Portion) (c : Call) : StopRecord :=
  match po with
  | .a => { r with callA := c }
  | .b => { r with callB := c }
  | .c => { r with callC := c }

/-- What a portion does at a stop; NONE where the stop table has no such stop. -/
def Plan.callAt (pl : Plan) (po : Portion) (n : Nat) : Call :=
  match pl.stops[n]? with
  | some r => r.callOf po
  | none => .noCall

/-- The line position of a stop. -/
def Plan.lineAt (pl : Plan) (n : Nat) : Nat :=
  match pl.stops[n]? with
  | some r => r.line
  | none => 0

/-- The route of a portion, in increasing stop number (R22). -/
def Plan.route (pl : Plan) (po : Portion) : List Nat :=
  (List.range pl.stops.length).filter fun n => pl.callAt po n ≠ .noCall

/-- The calling stops of a portion, in increasing stop number (R22). -/
def Plan.calls (pl : Plan) (po : Portion) : List Nat :=
  (List.range pl.stops.length).filter fun n => pl.callAt po n = .call

/-- The effective stop of a stop on a portion's route; none for a stop off it (R23), and none on a route
without a calling stop, where R23 gives no value (log entry 45). -/
def Plan.eff (pl : Plan) (po : Portion) (n : Nat) : Option Nat :=
  if pl.callAt po n = .noCall then none
  else
    match (pl.calls po).find? fun c => n ≤ c with
    | some c => some c
    | none => ((pl.calls po).filter fun c => c < n).getLast?

/-- A planned minute plus the forecast delay, clamped to 0..2879 (R35, R203). -/
def forecastOf (planned : Option Nat) (delay : Int) : Option Nat :=
  planned.map fun m => (clampInt 0 2879 ((m : Int) + delay)).toNat

/-! ### Formation Table: derived values -/

/-- The index of this coach's entry in a list of entries (R76). -/
def State.indexIn (s : State) (es : List CoachEntry) : Option Nat :=
  es.findIdx? fun e => e.unit = s.unitId

/-- This coach's entry in a list of entries (R76). -/
def State.entryIn (s : State) (es : List CoachEntry) : Option CoachEntry :=
  es.find? fun e => e.unit = s.unitId

/-- This coach's entry in the active formation; none while DETACHED (R76). -/
def State.entry (s : State) : Option CoachEntry := s.entryIn s.form.active

/-- Whether this coach is attached (R76). -/
def State.attached (s : State) : Bool := s.entry.isSome

/-- This coach's portion, none while DETACHED: the portion view (R76, 4.4). -/
def State.portion (s : State) : Option Portion := s.entry.map CoachEntry.portion

/-- The position from the front under a leading end, 0 while DETACHED (R76). -/
def State.positionUnder (s : State) (e : TrainEnd) : Nat :=
  match s.indexIn s.form.active with
  | none => 0
  | some i =>
    match e with
    | .one => i + 1
    | .two => s.form.active.length - i

/-- The position from the front, 0 while DETACHED (R76). -/
def State.position (s : State) : Nat := s.positionUnder s.form.lead

/-- The facing of an entry under a leading end (R77). -/
def CoachEntry.facing (x : CoachEntry) : TrainEnd → Facing
  | .one => if x.endATo2 then .bLeads else .aLeads
  | .two => if x.endATo2 then .aLeads else .bLeads

/-- The facing under a leading end, none while DETACHED (R77). -/
def State.facingUnder (s : State) (e : TrainEnd) : Option Facing := s.entry.map (·.facing e)

/-- The facing taken for bank choice and for FORMATION: A_LEADS while DETACHED (R77).  It is also the facing
byte of the replies to Apply Formation and Read Formation (R82, R91, log entry 40). -/
def State.facing (s : State) : Facing := (s.facingUnder s.form.lead).getD .aLeads

/-- The coach number, 0 while DETACHED (R76). -/
def State.coachNumber (s : State) : Nat := (s.entry.map CoachEntry.coach).getD 0

/-- The active layout bank (R77, R88). -/
def State.bank (s : State) : List LayoutEntry :=
  match s.facing with
  | .aLeads => s.form.bankA
  | .bLeads => s.form.bankB

/-- The layout entry of a panel address in the active bank (R88). -/
def State.layout (s : State) (addr : Nat) : LayoutEntry := s.bank.getD (addr - 1) ⟨.absent, false⟩

/-- The reference end of a stop: the arrival end when the stop is C and it is present (R78). -/
def State.refEnd (s : State) (stop : Nat) : TrainEnd :=
  if s.appr.current = some stop then s.form.arrival.getD s.form.lead else s.form.lead

/-- The body side of a door side under a facing: 1, 2, or 3 for both (R79). -/
def bodySide (d : DoorSide) (f : Facing) : Nat :=
  match d, f with
  | .left, .aLeads => 1
  | .left, .bLeads => 2
  | .right, .aLeads => 2
  | .right, .bLeads => 1
  | .both, _ => 3

/-- The coach number of the entry at a position under an end, counted from 1 (R80). -/
def Formation.coachAt (f : Formation) (e : TrainEnd) (pos : Nat) : Option Nat :=
  let i := match e with
    | .one => pos - 1
    | .two => f.active.length - pos
  (f.active[i]?).map CoachEntry.coach

/-- The target coach at a stop, when this coach is off the platform there (R80). -/
def State.target (s : State) (stop : Nat) : Option Nat :=
  match s.plan.stops[stop]? with
  | none => none
  | some r =>
    match r.length with
    | none => none
    | some k =>
      if k < s.form.active.length ∧ k < s.positionUnder (s.refEnd stop) then
        s.form.coachAt (s.refEnd stop) k
      else none

/-- FORMATION with the derived values of the moment (R82, R86). -/
def State.raiseFormation (reversed : Bool) (s : State) : State :=
  s.raise (.formation reversed s.attached s.position s.portion s.facing)

/-! ### This coach's route, and the reference stop -/

/-- This coach's route; empty while DETACHED (R22). -/
def State.coachRoute (s : State) : List Nat :=
  match s.portion with
  | none => []
  | some po => s.plan.route po

/-- Whether this coach has a route (R22). -/
def State.hasRoute (s : State) : Bool := !s.coachRoute.isEmpty

/-- This coach's calling stops (R22). -/
def State.coachCalls (s : State) : List Nat :=
  match s.portion with
  | none => []
  | some po => s.plan.calls po

/-- The effective stop for this coach; none off its route (R23). -/
def State.eff (s : State) (n : Nat) : Option Nat :=
  match s.portion with
  | none => none
  | some po => s.plan.eff po n

/-- The next calling stop of this coach's route after a stop (R67). -/
def State.nextCall (s : State) (n : Nat) : Option Nat := s.coachCalls.find? fun c => n < c

/-- The reference stop R (R100). -/
def State.refStop (s : State) : Option Nat :=
  if s.hasRoute then
    match s.plan.state with
    | .ready => s.coachCalls.head?
    | .running =>
      if s.appr.stage = some .atPlatform then s.appr.current
      else
        match s.appr.last with
        | some l => some l
        | none => s.coachCalls.head?
    | .ended =>
      match s.appr.current with
      | some c => some c
      | none => s.appr.last
    | _ => none
  else none

/-! ### Mode and standstill -/

/-- The standstill judgement of R54. -/
def standstillOf (o : Odometer) : Bool :=
  match o.mode with
  | .wheel | .guarded => 10 ≤ o.zeroRun
  | .deadReckon => o.reported = 0
  | .hold => o.reported = 0 || !o.fresh

/-- Judges standstill (R54). -/
def State.judgeStandstill (s : State) : State :=
  { s with appr := { s.appr with standstill := standstillOf s.odo } }

/-- Gives the Odometer a mode.  A change of mode raises MODE and judges standstill (R51, R54). -/
def State.setMode (m : Mode) (s : State) : State :=
  if s.odo.mode = m then s
  else ({ s with odo := { s.odo with mode := m } }.raise (.mode m)).judgeStandstill

/-! ### The clock -/

/-- The journey minute of the clock, none while it is unset (R37). -/
def Clock.minute (c : Clock) : Option Nat := if c.set then some (c.second / 60) else none

/-- A change of the clock's minute marks door maps and banners stale (R39, log entry 22). -/
def State.minuteChange (s before : State) : State :=
  if before.clock.minute = s.clock.minute then s else s.staleDoorMaps.staleBanners

/-! ### Brightness -/

/-- The levels of a panel kind (R210). -/
def Brightness.levels (b : Brightness) : PanelKind → Levels
  | .seatStrip => b.strip
  | .doorMap => b.doorMap
  | .banner => b.banner

/-- Whether S lies within at least one tunnel range (R210, R212). -/
def State.inTunnel (s : State) : Bool :=
  s.bright.tunnels.any fun t => t.1 ≤ s.odo.position && s.odo.position < t.2

/-- Whether a minute of the day lies in the night span (R210). -/
def nightSpan (dusk dawn m : Nat) : Bool :=
  if dusk < dawn then dusk ≤ m && m < dawn
  else if dawn < dusk then dusk ≤ m || m < dawn
  else false

/-- Whether the clock is set and in the night span (R210). -/
def State.atNight (s : State) : Bool :=
  match s.clock.minute with
  | none => false
  | some m => nightSpan s.bright.dusk s.bright.dawn (m % 1440)

/-- The ambient level of a panel kind (R210). -/
def State.ambient (s : State) (k : PanelKind) : Nat :=
  if s.inTunnel then (s.bright.levels k).tunnel
  else if s.atNight then (s.bright.levels k).night
  else (s.bright.levels k).day

/-- The ambient source on the wire: 0 day, 1 night, 2 tunnel (R219). -/
def State.ambientSource (s : State) : Nat :=
  if s.inTunnel then 2 else if s.atNight then 1 else 0

/-- The heat state that the table of R216 gives. -/
def heatTable (g : HeatGuard) (freq zeroRun : Nat) : HeatState :=
  if zeroRun = 3 then .lost
  else if freq < g.lo then (if g.falling then .hot else .cool)
  else if freq < g.hi then .warm
  else (if g.falling then .cool else .hot)

/-- The guard ceiling of a heat state (R216). -/
def HeatGuard.ceiling (g : HeatGuard) : HeatState → Nat
  | .off | .cool => 15
  | .warm => g.warmCeiling
  | .hot | .lost => g.hotCeiling

/-- The ceiling in force (R217). -/
def Brightness.ceiling (b : Brightness) : Nat :=
  if b.overheat then min 1 (b.guard.ceiling b.heat) else b.guard.ceiling b.heat

/-- The brightness of a panel kind (R218). -/
def State.brightness (s : State) (k : PanelKind) : Nat := min (s.ambient k) s.bright.ceiling

/-- Compares the heat state, the ceiling in force and the brightness with those before the event:
raises HEAT, marks every panel stale (R218). -/
def State.settleBrightness (s before : State) : State :=
  let s1 :=
    if before.bright.heat = s.bright.heat ∧ before.bright.ceiling = s.bright.ceiling then s
    else s.raise (.heat s.bright.heat s.bright.ceiling)
  if before.bright.ceiling = s.bright.ceiling
      ∧ before.brightness .seatStrip = s.brightness .seatStrip
      ∧ before.brightness .doorMap = s.brightness .doorMap
      ∧ before.brightness .banner = s.brightness .banner then s1
  else s1.staleAll

end Sys2Proof.Machine
end

