-- ==== Sys2Proof/Machine/NoticeOps.lean ====
section
/-!
DEFINITION. The shared operations of the Notice Sequencer: language cycles (R138, R139), the queue
(R152 to R154), placement, levels and returns (R155 to R161), endings of validity (R150, R162), and
the notices the part posts itself (R146 to R149).
-/
namespace Sys2Proof.Machine

/-! ### Masks and languages -/

/-- The languages of a mask in ascending order (7.2). -/
def maskLangs (m : BitVec 4) : List Nat := (List.range 4).filter fun i => m.getLsbD i

/-- The lowest language of a mask (R138). -/
def lowestLang (m : BitVec 4) : Nat := (maskLangs m).headD 0

/-- The next language of a mask, from the highest back to the lowest (R139). -/
def nextLang (m : BitVec 4) (cur : Nat) : Nat :=
  match (maskLangs m).find? fun i => cur < i with
  | some i => i
  | none => lowestLang m

/-- The set of languages of the rotation list (R147). -/
def rotationMask (langs : List Nat) : BitVec 4 := langs.foldl (fun m i => m ||| (1#4 <<< i)) 0

/-! ### Levels -/

/-- The level that a notice in the active place gives (R155). -/
def levelOf : Option Notice → Nat
  | none => 0
  | some n =>
    match n.cls with
    | .alarm => 2
    | .service => 1
    | _ => 0

/-- The notice level (R155). -/
def State.level (s : State) : Nat := levelOf s.seq.active

/-- At the end of an event: NOTICE_LEVEL where the level differs from that before it (R155). -/
def State.settleLevel (s before : State) : State :=
  if before.level = s.level then s else s.raise (.noticeLevel before.level s.level)

/-- The end of an event that may change the level, the ceiling or a brightness. -/
def State.settle (s before : State) : State := (s.settleBrightness before).settleLevel before

/-! ### The active place -/

/-- A notice starts (R138). -/
def State.startNotice (n : Notice) (s : State) : State :=
  { s with seq := { s.seq with
      active := some { n with cycles := 0, lang := lowestLang n.mask }
      dwellLeft := 1000 * n.dwell } }.staleBanners

/-- A saved notice resumes, with its cycles and its language (R138, R161). -/
def State.resumeNotice (n : Notice) (s : State) : State :=
  { s with seq := { s.seq with active := some n, dwellLeft := 1000 * n.dwell } }.staleBanners

/-- The head of the queue starts, when there is one (R160). -/
def State.startHead (s : State) : State :=
  match s.seq.queue with
  | [] => s
  | n :: rest => { s with seq := { s.seq with queue := rest } }.startNotice n

/-- The return of R160, to an empty active place. -/
def State.returnLower (s : State) : State :=
  match s.seq.slot1 with
  | some n => { s with seq := { s.seq with slot1 := none } }.resumeNotice n
  | none => s.startHead

/-- Whether the head of the queue is a SERVICE notice (R159). -/
def Sequencer.headIsService (q : Sequencer) : Bool :=
  match q.queue with
  | [] => false
  | n :: _ => n.cls = .service

/-- The return of R159, to an active place that an ALARM has left. -/
def State.returnFromAlarm (s : State) : State :=
  match s.seq.slot2 with
  | none => s.returnLower
  | some n =>
    if n.cls ≠ .service ∧ s.seq.headIsService then
      { s with seq := { s.seq with slot2 := none, slot1 := some n } }.startHead
    else { s with seq := { s.seq with slot2 := none } }.resumeNotice n

/-- The active notice leaves the active place with no return (R158, R164, R166). -/
def State.dropActive (s : State) : State :=
  if s.seq.active.isSome then
    { s with seq := { s.seq with active := none, dwellLeft := 0 } }.staleBanners
  else s

/-- The active notice ends and the return is made at once (R158). -/
def State.endActive (s : State) : State :=
  match s.seq.active with
  | none => s
  | some n => if n.cls = .alarm then s.dropActive.returnFromAlarm else s.dropActive.returnLower

/-! ### The queue -/

/-- The rank of a class in the queue (R152). -/
def NoticeClass.rank : NoticeClass → Nat
  | .alarm => 0
  | .service => 0
  | .journey => 1
  | .information => 2

/-- A notice joins after every queued notice of its class and of higher rank (R152). -/
def joinQueue (n : Notice) : List Notice → List Notice
  | [] => [n]
  | x :: xs => if n.cls.rank < x.cls.rank then n :: x :: xs else x :: joinQueue n xs

/-- How many journey and information notices a queue holds (R152). -/
def lowerCount (q : List Notice) : Nat := q.countP fun n => n.cls ≠ .service

/-- Whether the queue is full for a journey or information notice (R153, R154). -/
def queueFull (q : List Notice) : Bool := 16 ≤ q.length || 12 ≤ lowerCount q

/-- Whether a notice is of a class. -/
def Notice.isClass (c : NoticeClass) (n : Notice) : Bool := n.cls = c

/-- NOTICE_DROPPED for a notice (7.8). -/
def State.raiseDropped (why : DropReason) (n : Notice) (s : State) : State :=
  s.raise (.noticeDropped n.cls n.tag n.kind n.stop why)

/-- Displaces the oldest INFORMATION notice of the queue, or if there is none the oldest JOURNEY
notice, with NOTICE_DROPPED; none when every queued notice is SERVICE (R153, R154). -/
def State.displace (s : State) : Option State :=
  match s.seq.queue.find? fun n => n.isClass .information with
  | some n =>
    some (({ s with seq := { s.seq with
      queue := s.seq.queue.eraseP fun n => n.isClass .information } }).raiseDropped .displaced n)
  | none =>
    match s.seq.queue.find? fun n => n.isClass .journey with
    | some n =>
      some (({ s with seq := { s.seq with
        queue := s.seq.queue.eraseP fun n => n.isClass .journey } }).raiseDropped .displaced n)
    | none => none

/-- Whether a notice that is to join the queue must displace another first (R153, R154). -/
def mustDisplace (c : NoticeClass) (q : List Notice) : Bool :=
  match c with
  | .service => 16 ≤ q.length
  | .journey => queueFull q
  | _ => false

/-- A notice joins the queue, with the displacement of R153 or R154.  A notice that can displace
nothing is itself dropped (R153). -/
def State.enqueue (n : Notice) (s : State) : State :=
  if mustDisplace n.cls s.seq.queue then
    match s.displace with
    | some s1 => { s1 with seq := { s1.seq with queue := joinQueue n s1.seq.queue } }
    | none => s.raiseDropped .displaced n
  else { s with seq := { s.seq with queue := joinQueue n s.seq.queue } }

/-- Whether a notice of a class would go to the queue (R156). -/
def State.goesToQueue (s : State) (c : NoticeClass) : Bool :=
  match s.seq.active with
  | none => false
  | some _ =>
    match c with
    | .alarm => false
    | .service => s.level ≠ 0
    | _ => true

/-- A notice that arrives is placed by its class and the state of the active place (R156). -/
def State.place (n : Notice) (s : State) : State :=
  match s.seq.active with
  | none => s.startNotice n
  | some a =>
    match n.cls with
    | .alarm =>
      if a.cls = .alarm then (s.raiseDropped .replaced a).startNotice n
      else { s with seq := { s.seq with slot2 := some a } }.startNotice n
    | .service =>
      if s.level = 0 then { s with seq := { s.seq with slot1 := some a } }.startNotice n
      else s.enqueue n
    | _ => s.enqueue n

/-! ### Endings -/

/-- The saved and queued notices that end: slot 1, slot 2, then the queue (log entry 14). -/
def Sequencer.saved (q : Sequencer) (ends : Notice → Bool) : List Notice :=
  (q.slot1.toList ++ q.slot2.toList ++ q.queue).filter ends

/-- Notices in the queue and the slots that come to their end are discarded, each with NOTICE_DROPPED
reason expired (R150, R162, R163). -/
def State.dropSaved (ends : Notice → Bool) (s : State) : State :=
  (s.seq.saved ends).foldl (fun t n => t.raiseDropped .expired n)
    { s with seq := { s.seq with
        slot1 := s.seq.slot1.filter fun n => !ends n
        slot2 := s.seq.slot2.filter fun n => !ends n
        queue := s.seq.queue.filter fun n => !ends n } }

/-- Notices that come to their end, wherever they stand: those saved or queued are discarded, then an
active one ends as at completion (R150, R162, log entry 14). -/
def State.endNotices (ends : Notice → Bool) (s : State) : State :=
  let s1 := s.dropSaved ends
  match s1.seq.active with
  | some n => if ends n then s1.endActive else s1
  | none => s1

/-- A notice of the stop whose stage validity is at or before the stage reached (R150). -/
def Notice.endsAt (stop : Nat) (st : Stage) (n : Notice) : Bool :=
  n.stop = some stop && match n.validity with
    | .stage v => v.code ≤ st.code
    | _ => false

/-- A notice of the stop whose validity is a stage, whichever (R150). -/
def Notice.awaitsStage (stop : Nat) (n : Notice) : Bool := n.endsAt stop .departed

/-- Applies a change to every notice held, wherever it stands. -/
def Sequencer.mapNotices (f : Notice → Notice) (q : Sequencer) : Sequencer :=
  { q with active := q.active.map f, slot1 := q.slot1.map f, slot2 := q.slot2.map f, queue := q.queue.map f }

/-- Every notice held, wherever it stands. -/
def Sequencer.all (q : Sequencer) : List Notice :=
  q.active.toList ++ q.slot1.toList ++ q.slot2.toList ++ q.queue

/-- A SHORT_PLATFORM notice (R151). -/
def Notice.isShort (n : Notice) : Bool := n.kind = some .shortPlatform

/-- The target coach at a notice's stop (R80, R151). -/
def State.noticeTarget (s : State) (n : Notice) : Option Nat := n.stop.bind s.target

/-- A SHORT_PLATFORM notice with its COACH item naming the target of the moment (R151). -/
def State.retarget (s : State) (n : Notice) : Notice :=
  if n.isShort then
    match s.noticeTarget n with
    | some t => { n with items := n.items.map fun i => match i with
        | .coach _ => .coach t
        | i => i }
    | none => n
  else n

/-- The re-test of short-platform targets after a change of formation or leading end (R151). -/
def State.retestShort (s : State) : State :=
  let s1 := s.endNotices fun n => n.isShort && (s.noticeTarget n).isNone
  let s2 := { s1 with seq := s1.seq.mapNotices s1.retarget }
  if s1.seq.active = s2.seq.active then s2 else s2.staleBanners

/-! ### Journey notices -/

/-- A journey notice (R147). -/
def State.journeyNotice (s : State) (k : JourneyKind) (stop : Nat) (items : List Item) (v : Validity) : Notice where
  cls := .journey
  tag := 0
  kind := some k
  stop := some stop
  items := items
  repeats := 2
  dwell := 8
  mask := rotationMask s.line.rotation
  validity := v
  cycles := 0
  lang := 0

/-- Posts a journey notice, unless the coach is DETACHED (R147). -/
def State.postJourney (n : Notice) (s : State) : State := if s.attached then s.place n else s

/-- The DESTINATION item of this coach's portion (R146, R147). -/
def State.ownDestination (s : State) : List Item :=
  match s.portion with
  | some po => [.destination po]
  | none => []

/-- The stage notices of the table of R146, in the order of R148, for C and the stage last reached. -/
def State.stageNotices (s : State) (c : Nat) (st : Stage) : List Notice :=
  match s.plan.stops[c]? with
  | none => []
  | some r =>
    match st with
    | .announce =>
      [s.journeyNotice .nextStop c [.phrase 0, .stopName c, .platform c] (.stage .atPlatform)]
    | .approach =>
      [s.journeyNotice .arriving c [.phrase 1, .stopName c, .doorSideOf c] (.stage .departed)]
      ++ (match s.target c with
        | some t =>
          [s.journeyNotice .shortPlatform c [.phrase 5, .phrase 6, .coach t] (.stage .departed)]
        | none => [])
      ++ (if r.event = .divide then
          [s.journeyNotice .divide c ([.phrase 7, .stopName c, .phrase 8] ++ s.ownDestination)
            (.stage .departed)]
        else [])
    | .atPlatform =>
      if r.connections.isEmpty then []
      else
        [s.journeyNotice .connections c ([.phrase 9, .stopName c] ++ r.connections.map Item.phrase)
          (.stage .departed)]
    | _ => []

/-- Posts the stage notices (R148). -/
def State.postStage (c : Nat) (st : Stage) (s : State) : State :=
  (s.stageNotices c st).foldl (fun t n => t.postJourney n) s

/-- Posts WELCOME with the origin as its stop (R146, R149). -/
def State.postWelcome (c : Nat) (s : State) : State :=
  s.postJourney (s.journeyNotice .welcome c
    ([.phrase 10, .phrase 11] ++ s.ownDestination ++ [.coach s.coachNumber]) (.stage .departed))

/-- A journey notice whose validity is a stage is given a time limit of 60 s instead (R149). -/
def Notice.limited (n : Notice) : Notice :=
  match n.cls, n.validity with
  | .journey, .stage _ => { n with validity := .limit 60000 }
  | _, _ => n

/-- The Notice Sequencer's part of the end of the journey at a final calling stop (R149). -/
def State.postFinalStop (c : Nat) (s : State) : State :=
  let s1 := { s with seq := s.seq.mapNotices Notice.limited }
  s1.postJourney (s1.journeyNotice .finalStop c [.phrase 12, .stopName c, .phrase 13] (.limit 60000))

/-! ### Notice entries (7.9) -/

/-- Validity type and value: a time limit's seconds are rounded up (R165). -/
def Validity.encode : Validity → List Byte
  | .unlimited => be 1 0 ++ be 2 0
  | .limit ms => be 1 1 ++ be 2 ((ms + 999) / 1000)
  | .stage st => be 1 2 ++ be 2 st.code

/-- A notice entry; cycles and language are 0 and 0xFF in the queue (7.9). -/
def Notice.encode (queued : Bool) (n : Notice) : List Byte :=
  be 1 n.cls.code ++ be 2 n.tag ++ be 1 (kindCode n.kind) ++ orFF n.stop ++ be 1 n.repeats
    ++ be 1 n.dwell ++ be 1 n.mask.toNat ++ n.validity.encode
    ++ (if queued then be 1 0 ++ be 1 0xFF else be 1 n.cycles ++ be 1 n.lang)
    ++ be 1 n.items.length ++ n.items.flatMap Item.encode

/-- A place of one notice: a presence byte, then its entry (R165). -/
def encodePlace : Option Notice → List Byte
  | none => flag false
  | some n => flag true ++ n.encode false

end Sys2Proof.Machine
end

