-- ==== Sys2Proof/Machine/SeatOps.lean ====
section
/-!
DEFINITION. The shared operations of the Seat Table: segment lists and their classes (R97, R101), the
pool (R98), seat changes (R99), displays (R109 to R111), and the changes the journey makes (R112,
R113, R115, R116, R118).
-/
namespace Sys2Proof.Machine

/-! ### Segments and lists -/

/-- Two segments overlap when the from stop of each is below the to stop of the other (R97). -/
def Segment.overlaps (x y : Segment) : Bool := x.fromStop < y.toStop && y.fromStop < x.toStop

/-- A segment joins a list at the place its from stop gives it (R97). -/
def insertSegment (x : Segment) : List Segment → List Segment
  | [] => [x]
  | y :: ys => if x.fromStop < y.fromStop then x :: y :: ys else y :: insertSegment x ys

/-- A seat by its number. -/
def State.seat? (s : State) (num : Nat) : Option Seat := s.table.seats.find? fun x => x.number = num

/-- The seats of one bay in definition order (R93). -/
def State.seatsOfBay (s : State) (bay : Nat) : List Seat := s.table.seats.filter fun x => x.bay = bay

/-- How many segments all seat lists hold together. -/
def segmentsHeld (seats : List Seat) : Nat := (seats.map fun x => x.segments.length).sum

/-- Replaces the segment list of every seat by the list given for it: the records of the old lists
return to the pool, those of the new ones are taken from it (R98). -/
def State.relist (f : Seat → List Segment) (s : State) : State :=
  let seats := s.table.seats.map fun x => { x with segments := f x }
  { s with table := ⟨seats, s.table.free + segmentsHeld s.table.seats - segmentsHeld seats⟩ }

/-- Replaces the segment list of one seat (R98). -/
def State.setSegments (num : Nat) (segs : List Segment) (s : State) : State :=
  s.relist fun x => if x.number = num then segs else x.segments

/-! ### Segments against the journey -/

/-- eff(to) ≤ R (R101). -/
def State.isPast (s : State) (x : Segment) : Bool :=
  match s.eff x.toStop, s.refStop with
  | some t, some r => t ≤ r
  | _, _ => false

/-- eff(from) ≤ R < eff(to) (R101). -/
def State.isCurrent (s : State) (x : Segment) : Bool :=
  match s.eff x.fromStop, s.eff x.toStop, s.refStop with
  | some f, some t, some r => f ≤ r && r < t
  | _, _, _ => false

/-- eff(from) > R (R101). -/
def State.isLater (s : State) (x : Segment) : Bool :=
  match s.eff x.fromStop, s.refStop with
  | some f, some r => r < f
  | _, _ => false

/-- eff(from) = eff(to), both stops on the route (R113, R116). -/
def State.collapsed (s : State) (x : Segment) : Bool :=
  match s.eff x.fromStop, s.eff x.toStop with
  | some f, some t => f = t
  | _, _ => false

/-- A from stop whose effective stop is below R becomes R (R103). -/
def State.clampFrom (s : State) (n : Nat) : Nat :=
  match s.eff n, s.refStop with
  | some f, some r => if f < r then r else n
  | _, _ => n

/-! ### Displays -/

/-- The fixed phrase for a segment's kind (R110, R190). -/
def SegmentKind.fixedPhrase : SegmentKind → Nat
  | .booked => 18
  | .group => 19
  | .staff => 20

/-- The label of a segment in force (R110). -/
def Segment.labelShown (x : Segment) : Nat := x.label.getD x.kind.fixedPhrase

/-- Whether the stage of C is ANNOUNCE, APPROACH or BERTHING (R109). -/
def State.nearingC (s : State) : Bool :=
  s.appr.stage = some .announce || s.appr.stage = some .approach || s.appr.stage = some .berthing

/-- The display of a seat at this moment (R109, R110). -/
def State.display (s : State) (x : Seat) : Display :=
  if s.plan.state = .empty ∨ s.plan.state = .loading ∨ s.plan.state = .ended ∨ ¬ s.attached then
    ⟨.noService, none, none⟩
  else if x.blocked then ⟨.outOfUse, none, none⟩
  else if x.segments.any Segment.stranded then ⟨.underReview, none, none⟩
  else
    match x.segments.find? s.isCurrent with
    | some g =>
      if s.eff g.toStop = s.appr.current ∧ s.nearingC then
        ⟨.releasing, s.eff g.toStop, some g.labelShown⟩
      else ⟨.reserved, s.eff g.toStop, some g.labelShown⟩
    | none =>
      match x.segments.find? s.isLater with
      | some g => ⟨.freeUntil, s.eff g.fromStop, none⟩
      | none => ⟨.free, none, none⟩

/-- The travel direction of a seat on the wire: 0 FORWARD, 1 BACKWARD, 2 UNKNOWN (R110, 5.8). -/
def State.direction (s : State) (x : Seat) : Nat :=
  match s.facingUnder s.form.lead with
  | none => 2
  | some f => if (x.seatEnd == .a) == (f == .aLeads) then 0 else 1

/-- Re-forms the displays of the seats named.  Where the display state, the boundary or the label
differs from the seat's last display, the strips of its bay are marked stale (R111). -/
def State.reform (named : Seat → Bool) (s : State) : State :=
  let changed := s.table.seats.filter fun x => named x && x.lastDisplay ≠ some (s.display x)
  ({ s with table := { s.table with
      seats := s.table.seats.map fun x =>
        if named x then { x with lastDisplay := some (s.display x) } else x } }).staleStrips
    (changed.map Seat.bay)

/-- Re-forms every display (R111). -/
def State.reformAll (s : State) : State := s.reform fun _ => true

/-! ### Seat changes -/

/-- The seats, with their bays, whose segment lists differ from those before the event (R99). -/
def State.relisted (before s : State) : List (Nat × Nat) :=
  (s.table.seats.filter fun x =>
    (before.seat? x.number).map Seat.segments ≠ some x.segments).map fun x => (x.number, x.bay)

/-- Replaces the segment lists of every seat and hands on each seat whose list changes (R99). -/
def State.relistAndHand (f : Seat → List Segment) (s : State) : State :=
  (s.relist f).handSeats (State.relisted s (s.relist f))

/-- Removes every segment of every seat; seats and blocked flags are kept (R118). -/
def State.clearSegments (s : State) : State := s.relistAndHand fun _ => []

/-- Expiry at DEPARTED: removes every non-stranded segment whose eff(to) is at or before L (R112). -/
def State.expire (l : Nat) (s : State) : State :=
  s.relistAndHand fun x => x.segments.filter fun g =>
    g.stranded || match s.eff g.toStop with
      | some t => l < t
      | none => true

/-- The segments of a seat that a cancellation leaves in its list (R113). -/
def State.unvoided (s : State) (x : Seat) : List Segment :=
  x.segments.filter fun g => g.stranded || !s.collapsed g

/-- Whether an effective stop of a non-stranded segment of the seat differs between two states
(R99, R124). -/
def effMoved (before s : State) (x : Seat) : Bool :=
  x.segments.any fun g =>
    !g.stranded && (before.eff g.fromStop ≠ s.eff g.fromStop || before.eff g.toStop ≠ s.eff g.toStop)

/-- How many stranded segments the coach holds (R116). -/
def State.strandedCount (s : State) : Nat :=
  (s.table.seats.map fun x => x.segments.countP Segment.stranded).sum

/-- A segment with its stranded flag evaluated for this coach's portion: whether either of its stops is off
this coach's route (R115). -/
def State.restrand (s : State) (g : Segment) : Segment :=
  { g with stranded := !(s.coachRoute.contains g.fromStop && s.coachRoute.contains g.toStop) }

/-- A seat's list after a portion change that names a portion: flags re-evaluated, then the
non-stranded segments that are past or collapsed removed (R115, R116). -/
def State.restranded (s : State) (x : Seat) : List Segment :=
  (x.segments.map s.restrand).filter fun g => g.stranded || !(s.isPast g || s.collapsed g)

/-- The Seat Table's part of a portion change to a portion (R115, R116). -/
def State.portionSeats (s : State) : State :=
  let s1 := s.relistAndHand s.restranded
  if s.strandedCount < s1.strandedCount then s1.raise (.stranded s1.strandedCount) else s1

/-! ### Seat entries (5.8) -/

/-- One segment of a seat entry (5.8). -/
def State.encodeSegment (s : State) (g : Segment) : List Byte :=
  be 1 g.fromStop ++ be 1 g.toStop ++ orFF (s.eff g.fromStop) ++ orFF (s.eff g.toStop)
    ++ be 1 g.kind.code ++ be 2 g.tag ++ orFFFF g.label ++ flag g.stranded

/-- A seat entry (5.8). -/
def State.seatEntry (s : State) (x : Seat) : List Byte :=
  be 2 x.number ++ be 1 x.bay ++ be 1 x.category.code ++ be 1 x.seatEnd.code ++ flag x.blocked
    ++ be 1 (s.display x).state.code ++ orFF (s.display x).boundary ++ orFFFF (s.display x).label
    ++ be 1 (s.direction x) ++ be 1 x.segments.length ++ x.segments.flatMap s.encodeSegment

/-- The end of every seat read: free records and R (R119, R120). -/
def State.seatTail (s : State) : List Byte := be 2 s.table.free ++ orFF s.refStop

end Sys2Proof.Machine
end

