-- ==== Sys2Proof/Machine/ApproachOps.lean ====
section
/-!
DEFINITION. The evaluation of the stage of C (R61 to R68): distance and time to go, the stage table,
what each stage reached hands on, the departure, the end of the journey, and the ETA minutes.
-/
namespace Sys2Proof.Machine

/-! ### Distance, time and minutes -/

/-- d, the distance to go to a stop in metres (R61). -/
def State.distance (s : State) (c : Nat) : Nat := s.plan.lineAt c - s.odo.position

/-- t, the time to go in seconds, for a distance and a speed (R61). -/
def timeToGo (d v : Nat) : Nat :=
  if d = 0 then 0 else if v = 0 then 65535 else min 65535 (d * 1000 / v)

/-- The time to go to a stop (R61). -/
def State.timeTo (s : State) (c : Nat) : Nat := timeToGo (s.distance c) s.odo.speed

/-- Whether a stage is below AT_PLATFORM. -/
def Stage.isBelow (st : Stage) : Bool := st.code < 4

/-- The ETA minutes of C at this moment; none when they are not shown (R62). -/
def State.etaNow (s : State) : Option Nat :=
  match s.appr.current, s.appr.stage with
  | some c, some st =>
    if s.timeTo c = 65535 ∨ s.odo.mode = .hold ∨ ¬ st.isBelow then none
    else some (max 1 (min 99 ((s.timeTo c + 59) / 60)))
  | _, _ => none

/-- Forms the ETA minutes at an evaluation; a difference marks banners stale (R62). -/
def State.formEta (s : State) : State :=
  let s1 := { s with appr := { s.appr with eta := s.etaNow } }
  if s.appr.eta = s.etaNow then s1 else s1.staleBanners

/-! ### The stage table (R64) -/

/-- The row of the stage table that applies: the stage after it and, for DEPARTED, whether L is
flagged passed without call (R64). -/
def State.stageRow (act : Bool) (s : State) : Option (Stage × Bool) :=
  match s.appr.current, s.appr.stage with
  | some c, some st =>
    let beyond := decide (s.plan.lineAt c + 400 < s.odo.position)
    let moving := decide (s.odo.mode ≠ .hold)
    let d := s.distance c
    let t := s.timeTo c
    let early := decide (st = .cruise) || decide (st = .announce)
    if st.isBelow && beyond then some (.departed, true)
    else if decide (st = .cruise) && moving && (decide (t ≤ s.appr.annTime) || decide (d ≤ s.appr.annDist)) then
      some (.announce, false)
    else if early && moving && decide (t ≤ s.appr.appTime) && decide (d ≤ 3000) then some (.approach, false)
    else if (early || decide (st = .approach)) && moving && decide (d ≤ 600) && decide (s.odo.speed ≤ 4166) then
      some (.berthing, false)
    else if (decide (st = .approach) || decide (st = .berthing)) && act then some (.atPlatform, false)
    else if early && !moving && act then some (.atPlatform, false)
    else if decide (st = .berthing) && s.appr.standstill && decide (d ≤ 150) then some (.atPlatform, false)
    else if decide (st = .atPlatform) && (beyond || decide (s.appr.departureRun = 3)) then
      some (.departed, false)
    else none
  | _, _ => none

/-! ### What a stage hands on (R67, R68) -/

/-- Automatic reversal (R86): the leading end flips, every panel is marked stale, FORMATION is raised
with cause 1, and short-platform targets are tested again (R151). -/
def State.autoReverse (s : State) : State :=
  (({ s with form := { s.form with lead := s.form.lead.flip } }.staleAll).raiseFormation true).retestShort

/-- The Formation Table at AT_PLATFORM of a stop: the arrival end is taken (R78), then a REVERSE stop
reverses the coach (R86). -/
def State.arriveFormation (c : Nat) (s : State) : State :=
  let s1 := { s with form := { s.form with arrival := some s.form.lead } }
  match s.plan.stops[c]? with
  | some r => if r.event = .reverse then s1.autoReverse else s1
  | none => s1

/-- C reaches a stage other than DEPARTED, handed on as R68 states.  AT_PLATFORM of the final calling
stop ends the plan (R29, R67). -/
def State.reachStage (c : Nat) (st : Stage) (s : State) : State :=
  let s1 := ({ s with appr := { s.appr with stage := some st } }.raise (.stage c st false)).endNotices
    (Notice.endsAt c st)
  let s2 :=
    if st = .atPlatform then
      let s3 := { s1 with appr := { s1.appr with departureRun := 0 } }.arriveFormation c
      if s.coachCalls.getLast? = some c then { s3 with plan := { s3.plan with state := .ended } } else s3
    else s1
  s2.staleDoorMaps

/-- Gives the Approach Monitor a new C at CRUISE, or none; the arrival end becomes none (R67, R70,
R78). -/
def State.giveC (next : Option Nat) (s : State) : State :=
  let s1 := { s with
    appr := { s.appr with
      current := next
      stage := next.map fun _ => .cruise
      departureRun := 0 }
    form := { s.form with arrival := none } }
  match next with
  | some c => (s1.raise (.stage c .cruise false)).staleDoorMaps.staleBanners
  | none => s1.staleDoorMaps.staleBanners

/-- C reaches DEPARTED (R67): L takes it with its flag, notices end, segments expire (R112), C becomes
the next calling stop; without one the plan ends (R29). -/
def State.depart (c : Nat) (passed : Bool) (s : State) : State :=
  let s1 := { s with appr := { s.appr with last := some c, passed := passed } }
  let s2 := ((s1.raise (.stage c .departed passed)).endNotices (Notice.endsAt c .departed)).expire c
  let s3 := s2.giveC (s2.nextCall c)
  match s2.nextCall c with
  | some _ => s3
  | none => { s3 with plan := { s3.plan with state := .ended } }

/-! ### Evaluation (R63, R64, R148) -/

/-- An evaluation under way: the state, the last stage that the present C reached in it, and whether
any row has applied. -/
structure Evaluation where
  st : State
  reached : Option Stage
  moved : Bool

/-- Carries out one row (R64). -/
def Evaluation.apply (c : Nat) (row : Stage × Bool) (e : Evaluation) : Evaluation :=
  if row.1 = .departed then ⟨e.st.depart c row.2, none, true⟩
  else ⟨e.st.reachStage c row.1, some row.1, true⟩

/-- The passes of R64, until no row applies or the plan has ended.  act is the C for which a door
activation holds.  Each C reaches at most 6 stages and stop numbers only grow, so the fuel given by
evaluate is enough. -/
def passes (act : Option Nat) : Nat → Evaluation → Evaluation
  | 0, e => e
  | n + 1, e =>
    match e.st.appr.current, e.st.stageRow (e.st.appr.current.isSome && act == e.st.appr.current) with
    | some c, some row =>
      let e1 := e.apply c row
      if e1.st.plan.state = .running then passes act n e1 else e1
    | _, _ => e

/-- The effects of the plan becoming ENDED (R30, R149). -/
def State.endJourney (s : State) : State :=
  let s1 := s.clearSegments.breakAndMarkAll
  let s2 :=
    match s1.appr.current, s1.appr.last with
    | some c, _ => s1.postFinalStop c
    | none, some l => s1.postFinalStop l
    | none, none => s1
  s2.raise .journeyEnd

/-- The end of an evaluation: stage notices for the last stage that C reached (R148), the end of the
journey (R30), the ETA minutes (R62), and the displays (R111). -/
def Evaluation.conclude (e : Evaluation) : State :=
  let s1 :=
    match e.st.appr.current, e.reached with
    | some c, some st => e.st.postStage c st
    | _, _ => e.st
  let s2 := if e.st.plan.state = .ended then s1.endJourney else s1
  let s3 := s2.formEta
  if e.moved then s3.reformAll else s3

/-- Whether an evaluation is made (R63). -/
def State.evaluates (s : State) : Bool :=
  decide (s.plan.state = .running) && decide (s.link.rest = .awake) && s.appr.current.isSome && s.hasRoute

/-- Fuel for the passes. -/
def State.passFuel (s : State) : Nat := 6 * (s.plan.stops.length + 1)

/-- An evaluation of the stage of C, with the C for which a door activation holds (R63, R64). -/
def State.evaluate (act : Option Nat) (s : State) : State :=
  if s.evaluates then (passes act s.passFuel ⟨s, none, false⟩).conclude else s

/-- The departure run at a window end (R66, log entry 13). -/
def State.countDeparture (s : State) : State :=
  if s.evaluates && decide (s.appr.stage = some .atPlatform) then
    { s with appr := { s.appr with
      departureRun :=
        if ¬ s.appr.doorTaken ∧ 1389 < s.odo.speed then min 3 (s.appr.departureRun + 1) else 0 } }
  else s

end Sys2Proof.Machine
end

