-- ==== Sys2Proof/Machine/StoreOps.lean ====
section
/-!
DEFINITION. The shared operations of the Phrase Store: its places (R167), usable entries and internal
reads (R167, R179, R180), the start and finish of a sector's erase with the kept counts (R168, R185),
and what is left of an operation that is cut short (R186).
-/
namespace Sys2Proof.Machine

/-! ### Places -/

/-- The key of a language entry. -/
def entryKey (phrase lang : Nat) : Nat := 4 * phrase + lang

/-- The sector of a phrase (8.1). -/
def sectorOf (phrase : Nat) : Nat := phrase / 8

/-- The sector of a key. -/
def keySector (key : Nat) : Nat := key / 32

/-- Reads one place: none is ERASED (R167). -/
def getEntry : List (Nat × Entry) → Nat → Option Entry
  | [], _ => none
  | (j, e) :: rest, k => if j = k then some e else getEntry rest k

/-- Writes one place, keeping the keys strictly rising. -/
def putEntry (k : Nat) (e : Entry) : List (Nat × Entry) → List (Nat × Entry)
  | [] => [(k, e)]
  | (j, x) :: rest =>
    if j = k then (k, e) :: rest
    else if k < j then (k, e) :: (j, x) :: rest
    else (j, x) :: putEntry k e rest

/-- Every entry of a sector becomes ERASED (R176). -/
def eraseEntries (sector : Nat) (es : List (Nat × Entry)) : List (Nat × Entry) :=
  es.filter fun x => keySector x.1 ≠ sector

/-- The canonical form of the list of places: keys strictly rising. -/
def entriesWf : List (Nat × Entry) → Bool
  | [] => true
  | [_] => true
  | (j, _) :: (k, e) :: rest => j < k && entriesWf ((k, e) :: rest)

/-- The canonical form of the store's memory. -/
def Store.wf (st : Store) : Bool := entriesWf st.entries

/-- The condition of one language entry (R167). -/
def Store.get (st : Store) (phrase lang : Nat) : Option Entry := getEntry st.entries (entryKey phrase lang)

/-! ### Sectors -/

/-- The bit of a sector. -/
def sectorBit (sector : Nat) : BitVec 128 := 1#128 <<< sector

/-- The erase under way, running or held (8.2). -/
def StoreOp.erase? : StoreOp → Option Erase
  | .erasing er => some er
  | .eraseHeld er => some er
  | .heldProgramming er _ => some er
  | _ => none

/-- The program under way (8.2). -/
def StoreOp.program? : StoreOp → Option Program
  | .programming pr => some pr
  | .heldProgramming _ pr => some pr
  | _ => none

/-- Whether a sector is still to be erased by the erase under way (R173, R176). -/
def Store.underErase (st : Store) (sector : Nat) : Bool :=
  match st.op.erase? with
  | some er => er.current ≤ sector && sector ≤ er.last
  | none => false

/-- How many sectors an erase has still to erase, the current one included (R177). -/
def Erase.toGo (er : Erase) : Nat := er.last + 1 - er.current

/-- Whether a sector is INCOMPLETE (R168). -/
def Store.isIncomplete (st : Store) (sector : Nat) : Bool := st.incomplete.getLsbD sector

/-- Whether a sector is protected (R169). -/
def Store.isProtected (st : Store) (sector : Nat) : Bool :=
  st.locks.getLsbD sector || (decide (sector < 8) && st.fixedLock)

/-- How many TORN entries a sector holds. -/
def tornIn (sector : Nat) (es : List (Nat × Entry)) : Nat :=
  es.countP fun x => decide (keySector x.1 = sector) && decide (x.2 = .torn)

/-- The start of a sector's erase removes its marker.  It counts the sector as INCOMPLETE, unless it
was counted already, and no longer counts its TORN entries (R168, R185). -/
def Store.startSector (sector : Nat) (st : Store) : Store :=
  if st.isIncomplete sector then st
  else
    { st with
      incomplete := st.incomplete ||| sectorBit sector
      incompleteCount := st.incompleteCount + 1
      tornCount := st.tornCount - tornIn sector st.entries }

/-- The finish of a sector's erase: its entries ERASED, its marker programmed, the sector out of the
INCOMPLETE count (R176, R185). -/
def Store.finishSector (sector : Nat) (st : Store) : Store :=
  { st with
    entries := eraseEntries sector st.entries
    incomplete := st.incomplete &&& ~~~(sectorBit sector)
    incompleteCount := st.incompleteCount - 1 }

/-! ### Reads -/

/-- The text of a language entry when it is usable (R167). -/
def Store.usable (st : Store) (phrase lang : Nat) : Option (List Byte) :=
  match st.get phrase lang with
  | some (.valid text) =>
    if st.isIncomplete (sectorOf phrase) || st.underErase (sectorOf phrase) then none else some text
  | _ => none

/-- An internal read: the language asked for, then language 0, then a blank item (R180). -/
def Store.read (st : Store) (phrase lang : Nat) : List Byte :=
  match st.usable phrase lang with
  | some text => text
  | none =>
    match st.usable phrase 0 with
    | some text => text
    | none => []

/-- A running erase is suspended for the reads of one event: the current sector's time grows by the
time they take, which is a free value (R179, log entry 4). -/
def State.suspendErase (s : State) : State :=
  match s.store.op with
  | .erasing er =>
    { s with
      store := { s.store with op := .erasing { er with left := er.left + Config.readTime s.freeCount } }
      freeCount := s.freeCount + 1 }
  | _ => s

/-- The condition code that Read Phrase reports (R187). -/
def Store.condition (st : Store) (phrase lang : Nat) : Nat :=
  if st.underErase (sectorOf phrase) then 4
  else if st.isIncomplete (sectorOf phrase) then 3
  else
    match st.get phrase lang with
    | none => 0
    | some (.valid _) => 1
    | some .torn => 2

/-- The payload of Read Phrase's reply (R187). -/
def Store.readPayload (st : Store) (phrase lang : Nat) : List Byte :=
  let text := (st.usable phrase lang).getD []
  be 1 (st.condition phrase lang) ++ flag (st.isProtected (sectorOf phrase)) ++ be 1 text.length ++ text

/-! ### Damage -/

/-- The TORN entries in COMPLETE sectors (R185). -/
def Store.scanTorn (st : Store) : Nat :=
  st.entries.countP fun x => decide (x.2 = .torn) && !st.isIncomplete (keySector x.1)

/-- The INCOMPLETE sectors (R185). -/
def Store.scanIncomplete (st : Store) : Nat := (List.range 128).countP fun i => st.isIncomplete i

/-- The volatile part of the store lost with power; the places, markers and locks stay (R186).  The
entry of a program under way holds data without its written marker, and the sector of an erase under
way has no marker, from the start of either (R167, R168, log entry 29). -/
def Store.lose (st : Store) : Store :=
  { st with latch := false, op := .idle, tornCount := 0, incompleteCount := 0 }

/-- The power-up scan (R185). -/
def Store.scan (st : Store) : Store :=
  { st with tornCount := st.scanTorn, incompleteCount := st.scanIncomplete }

/-- Restart abandons the operation in flight: the entry being programmed is TORN and joins the count;
the current sector of an erase is INCOMPLETE and already counted (R186). -/
def Store.abandon (st : Store) : Store :=
  { st with
    latch := false
    op := .idle
    tornCount := st.tornCount + (if st.op.program?.isSome then 1 else 0) }

/-- STORE_DAMAGE when either kept count is above 0 (R185, R186). -/
def State.raiseDamage (s : State) : State :=
  if 0 < s.store.tornCount ∨ 0 < s.store.incompleteCount then
    s.raise (.storeDamage s.store.tornCount s.store.incompleteCount)
  else s

/-- A completion of a program or an erase marks stale every incomplete panel (R182). -/
def State.restaleIncomplete (s : State) : State := s.staleWhere (·.incomplete)

end Sys2Proof.Machine
end

