-- ==== Sys2Proof/Machine/PanelOps.lean ====
section
/-!
DEFINITION. The shared operations of the Panel Line Controller and the Page Composer: the arbiter
(R194), the composition of each page kind (R141, R201 to R205), blank items (R181, R206), the start of
frames (R195, R198, R207), and what an acknowledgement or its absence does (R196 to R198).
-/
namespace Sys2Proof.Machine

/-! ### Records -/

/-- A panel record by its address. -/
def PanelLine.panel? (l : PanelLine) (addr : Nat) : Option Panel := l.panels.find? fun x => x.addr = addr

/-- Changes the record of one address. -/
def State.updatePanel (addr : Nat) (f : Panel → Panel) (s : State) : State :=
  { s with line := { s.line with panels := s.line.panels.map fun x => if x.addr = addr then f x else x } }

/-- A record placed in the table at its address (9.1). -/
def insertPanel (x : Panel) : List Panel → List Panel
  | [] => [x]
  | y :: ys => if x.addr < y.addr then x :: y :: ys else y :: insertPanel x ys

/-- The rotation language (R199). -/
def PanelLine.language (l : PanelLine) : Nat := l.rotation.getD l.place 0

/-- The rotation timer started for the full dwell when the list holds two or more entries (R199). -/
def PanelLine.startRotation (l : PanelLine) : PanelLine :=
  { l with rotationLeft := if 2 ≤ l.rotation.length then 1000 * l.dwell else 0 }

/-! ### The arbiter (R194) -/

/-- The last-served address of a kind (R194). -/
def PanelLine.lastServed (l : PanelLine) : PanelKind → Option Nat
  | .banner => l.lastBanner
  | .doorMap => l.lastDoorMap
  | .seatStrip => l.lastStrip

/-- Notes an address as the last served of its kind (R194). -/
def PanelLine.serve (l : PanelLine) (k : PanelKind) (addr : Nat) : PanelLine :=
  match k with
  | .banner => { l with lastBanner := some addr }
  | .doorMap => { l with lastDoorMap := some addr }
  | .seatStrip => { l with lastStrip := some addr }

/-- The panels of a kind that may be sent a page, in address order (R194). -/
def PanelLine.ready (l : PanelLine) (k : PanelKind) : List Panel :=
  l.panels.filter fun x => decide (x.kind = k) && x.stale && decide (x.state = .idle)

/-- Within a kind: the first address above the last served, wrapping (R194). -/
def PanelLine.roundRobin (l : PanelLine) (k : PanelKind) : Option Panel :=
  match (l.ready k).find? fun x => (l.lastServed k).getD 0 < x.addr with
  | some x => some x
  | none => (l.ready k).head?

/-- The lowest-numbered FAILED panel whose probe is due (R194, R198). -/
def PanelLine.probeDue (l : PanelLine) : Option Panel :=
  l.panels.find? fun x => decide (x.state = .failed) && decide (x.probe = .due)

/-- The panel chosen for a page when no probe is due: banners, door maps, seat strips (R194). -/
def PanelLine.pageDue (l : PanelLine) : Option Panel :=
  match l.roundRobin .banner with
  | some x => some x
  | none =>
    match l.roundRobin .doorMap with
    | some x => some x
    | none => l.roundRobin .seatStrip

/-! ### Cells -/

/-- A TEXT cell of one phrase (9.6). -/
def phraseCell (n : Nat) : Cell := .text [.phrase n]

/-- The name phrase of a stop (R202, R203). -/
def State.nameOf (s : State) (stop : Nat) : Nat :=
  match s.plan.stops[stop]? with
  | some r => r.name
  | none => 0

/-- "Platform", a space and a stop's platform phrase, when it is present (R141, R203). -/
def platformCells (r : StopRecord) : List Cell :=
  match r.platform with
  | some p => [.text [.phrase 15, .bytes space, .phrase p]]
  | none => []

/-- "Coach", a space and a number (R140). -/
def coachCell (n : Nat) : Cell := .text [.phrase 14, .bytes (space ++ digits n)]

/-- The fixed phrase for a body side (R140, R190). -/
def sidePhrase (side : Nat) : Nat := if side = 1 then 2 else if side = 2 then 3 else 4

/-- The cells of one item of a notice (R140, R141).  A DOOR_SIDE item of a stop that is not below the count
gives no cell (log entry 42). -/
def State.itemCells (s : State) : Item → List Cell
  | .phrase n => [phraseCell n]
  | .stopName stop =>
    match s.plan.stops[stop]? with
    | some r => [phraseCell r.name]
    | none => []
  | .minutes n => [.text [.bytes (digits n ++ space), .phrase 16]]
  | .coach n => [coachCell n]
  | .platform stop =>
    match s.plan.stops[stop]? with
    | some r => platformCells r
    | none => []
  | .doorSide d =>
    match s.facingUnder s.form.lead with
    | some f => [phraseCell (sidePhrase (bodySide d f))]
    | none => []
  | .doorSideOf stop =>
    match s.plan.stops[stop]?, s.facingUnder (s.refEnd stop) with
    | some r, some f => [phraseCell (sidePhrase (bodySide r.doorSide f))]
    | _, _ => []
  | .destination po =>
    match (s.plan.calls po).getLast? with
    | some n => [phraseCell (s.nameOf n)]
    | none => []

/-! ### Pages (R202 to R205) -/

/-- The cells of one seat on a strip (R202). -/
def State.seatCells (s : State) (arrow : Arrow) (x : Seat) : List Cell :=
  let d := s.display x
  let boundary := match d.boundary with
    | some b => [phraseCell (s.nameOf b)]
    | none => []
  let label := match d.label with
    | some l => [phraseCell l]
    | none => []
  .seat x.number x.category d.state arrow ::
    match d.state with
    | .reserved | .releasing => phraseCell 21 :: (boundary ++ label)
    | .freeUntil => phraseCell 22 :: boundary
    | _ => []

/-- A seat strip page (R202). -/
def State.stripPage (s : State) (x : Panel) : List Cell :=
  (s.seatsOfBay x.param).flatMap (s.seatCells (s.layout x.addr).arrow)

/-- The planned minute of a stop: the arrival, or the departure where it is absent (R203). -/
def StopRecord.planned (r : StopRecord) : Option Nat :=
  match r.arrival with
  | some m => some m
  | none => r.departure

/-- The STOP cell of a stop (R203). -/
def stopCell (n : Nat) (r : StopRecord) : Cell := .stop n r.planned (forecastOf r.planned r.delay)

/-- "expected", when the delay is not 0 and a planned minute is present (R203). -/
def expectedCells (r : StopRecord) : List Cell :=
  if r.delay ≠ 0 ∧ r.planned.isSome then [phraseCell 23] else []

/-- The cells of a DIVIDE or JOIN stop: this coach's portion and its destination (R203). -/
def State.splitCells (s : State) (r : StopRecord) : List Cell :=
  if r.event = .divide ∨ r.event = .join then
    .splitJoin (decide (r.event = .join)) s.portion :: (match s.coachCalls.getLast? with
      | some n => [phraseCell (s.nameOf n)]
      | none => [])
  else []

/-- The stop before which the position marker stands, and its value (R203). -/
def State.markerAt (s : State) : Option (Nat × Bool) :=
  match s.appr.current, s.appr.stage with
  | some c, some st =>
    if st.code < 4 then some (c, true) else s.refStop.map fun r => (r, false)
  | _, _ => s.refStop.map fun r => (r, false)

/-- The cells of one shown stop (R203). -/
def State.shownStop (s : State) (n : Nat) : List Cell :=
  match s.plan.stops[n]? with
  | none => []
  | some r =>
    (match s.markerAt with
      | some (m, between) => if m = n then [.marker between] else []
      | none => [])
    ++ [stopCell n r, phraseCell r.name] ++ platformCells r ++ expectedCells r ++ s.splitCells r

/-- The shown stops: calling stops from R onward, at most 8 (R203). -/
def State.shownStops (s : State) : List Nat :=
  match s.refStop with
  | some r => (s.coachCalls.filter fun n => r ≤ n).take 8
  | none => []

/-- The cells of a door map that concern C (R204). -/
def State.cellsOfC (s : State) (x : Panel) : List Cell :=
  match s.appr.current with
  | none => []
  | some c =>
    match s.plan.stops[c]?, s.facingUnder (s.refEnd c) with
    | some r, some f =>
      [.doors (bodySide r.doorSide f), phraseCell (sidePhrase (bodySide r.doorSide f))]
      ++ (match s.target c with
        | some t =>
          if x.param = f.code then [phraseCell 5, phraseCell 6, coachCell t] else []
        | none => [])
    | _, _ => []

/-- A door map page, in one of its two forms (R203, R204). -/
def State.mapPage (s : State) (x : Panel) : List Cell :=
  let order := Cell.mapOrder (s.layout x.addr).firstRight
  let clock := Cell.clock s.clock.minute
  if s.plan.state = .empty ∨ s.plan.state = .loading ∨ ¬ s.attached then
    [order, clock, phraseCell 17]
  else
    [order, .coach s.coachNumber s.position, clock] ++ s.shownStops.flatMap s.shownStop ++ s.cellsOfC x

/-- The next-stop view of a banner with no active notice (R205). -/
def State.nextStopView (s : State) : List Cell :=
  match s.appr.current, s.appr.stage with
  | some c, some st =>
    match s.plan.stops[c]? with
    | none => []
    | some r =>
      if ¬ s.attached then []
      else if st.code < 4 then
        [phraseCell 0, phraseCell r.name]
        ++ (match s.appr.eta with
          | some m => [.minutes m, phraseCell 16]
          | none => stopCell c r :: expectedCells r)
      else phraseCell r.name :: platformCells r
  | _, _ => []

/-- A banner page (R205). -/
def State.bannerPage (s : State) : List Cell :=
  match s.seq.active with
  | some n => n.items.flatMap s.itemCells
  | none => s.nextStopView

/-- The page composed for a panel (R195). -/
def State.compose (s : State) (x : Panel) : List Cell :=
  match x.kind with
  | .seatStrip => s.stripPage x
  | .doorMap => s.mapPage x
  | .banner => s.bannerPage

/-- The page language (R201). -/
def State.pageLang (s : State) (k : PanelKind) : Nat :=
  match k, s.seq.active with
  | .banner, some n => n.lang
  | _, _ => s.line.language

/-! ### Texts and bodies -/

/-- One part of a text, read in a language (R180). -/
def TextPart.render (st : Store) (lang : Nat) : TextPart → List Byte
  | .phrase n => st.read n lang
  | .bytes b => b

/-- Whether a part is a phrase whose read is blank (R206). -/
def TextPart.blank (st : Store) (lang : Nat) : TextPart → Bool
  | .phrase n => (st.read n lang).isEmpty
  | .bytes _ => false

/-- The text of a TEXT cell: blank when a phrase part reads blank (log entry 15), else its parts
joined and cut to 120 bytes (R141). -/
def renderText (st : Store) (lang : Nat) (parts : List TextPart) : List Byte :=
  if parts.any (TextPart.blank st lang) then []
  else cutText (parts.flatMap (TextPart.render st lang))

/-- Whether a cell is a TEXT cell whose read gave a blank item (R206). -/
def Cell.blank (st : Store) (lang : Nat) : Cell → Bool
  | .text parts => parts.any (TextPart.blank st lang)
  | _ => false

/-- The cell's code and data on the wire (1.10). -/
def Cell.encode (st : Store) (lang : Nat) (c : Cell) : List Byte :=
  let cell (code : Nat) (data : List Byte) : List Byte := be 1 code ++ be 1 data.length ++ data
  match c with
  | .text parts => cell 0x01 (renderText st lang parts)
  | .seat n cat d a => cell 0x02 (be 2 n ++ be 1 cat.code ++ be 1 d.code ++ be 1 a.code)
  | .stop n p f => cell 0x03 (be 1 n ++ orFFFF p ++ orFFFF f)
  | .marker b => cell 0x04 (flag b)
  | .splitJoin j po => cell 0x05 (flag j ++ orFF (po.map Portion.code))
  | .coach n p => cell 0x06 (be 1 n ++ be 1 p)
  | .doors side => cell 0x07 (be 1 side)
  | .clock m => cell 0x08 (orFFFF m)
  | .mapOrder r => cell 0x09 (flag r)
  | .minutes n => cell 0x0A (be 1 n)

/-- The body of a page (9.6). -/
def pageBody (st : Store) (lang : Nat) (cells : List Cell) : List Byte :=
  cells.flatMap (Cell.encode st lang)

/-- Whether a page makes an internal read. -/
def readsStore (cells : List Cell) : Bool :=
  cells.any fun c => match c with
    | .text _ => true
    | _ => false

/-! ### Frames -/

/-- The page's phrases are read and its first byte is sent: the incomplete flag is formed (R206), the
brightness is taken (R195), a running erase is suspended for the reads (R179). -/
def State.launchPage (fr : Frame) (cells : List Cell) (s : State) : State :=
  let bright := s.brightness fr.panelKind
  let bytes := panelFrame .page fr.addr bright fr.lang (pageBody s.store fr.lang cells)
  let s1 :=
    if fr.discard then s
    else s.updatePanel fr.addr fun x =>
      { x with incomplete := cells.any (Cell.blank s.store fr.lang), bright := some bright }
  let s2 := { s1 with line := { s1.line with flight := some { fr with body := .sent bytes, ackLeft := 20 } } }
  if readsStore cells then s2.suspendErase else s2

/-- The start of a page to the panel chosen (R195).  While a program runs the page waits for its
completion (log entry 17). -/
def State.startPage (x : Panel) (s : State) : State :=
  let cells := s.compose x
  let fr : Frame := ⟨.page, x.addr, x.kind, s.pageLang x.kind, .waiting cells, false, 0⟩
  let s1 := s.updatePanel x.addr fun y => { y with stale := false, state := .sending }
  let s2 := { s1 with line := { (s1.line.serve x.kind x.addr) with flight := some fr } }
  if s.store.op.program?.isSome then s2 else s2.launchPage fr cells

/-- A page that waited for a program is sent (R195). -/
def State.launchWaiting (s : State) : State :=
  match s.line.flight with
  | some fr =>
    match fr.body with
    | .waiting cells => s.launchPage fr cells
    | .sent _ => s
  | none => s

/-- The start of a probe (R198). -/
def State.startProbe (x : Panel) (s : State) : State :=
  let s1 := s.updatePanel x.addr fun y => { y with probe := .stopped }
  { s1 with line := { s1.line with
      flight := some ⟨.probe, x.addr, x.kind, 0, .sent (panelFrame .probe x.addr 0 0 []), false, 20⟩ } }

/-- The start of a blank page (R207). -/
def State.startBlank (x : Panel) (s : State) : State :=
  { s with line := { s.line with
      flight := some ⟨.blank, x.addr, x.kind, 0, .sent (panelFrame .blank x.addr 0 0 []), false, 20⟩
      blankFrom := some (x.addr + 1) } }

/-- The probe timer of a panel that stays or becomes FAILED: 10 s, but not in rest (R198, log entry
19). -/
def State.probeRestart (s : State) : ProbeTimer :=
  if s.link.rest = .awake then .running 10000 else .stopped

/-- The answer to the frame in flight: OK, FAULT, or none within 20 ms (R196). -/
inductive AckOutcome where
  | ok
  | fault
  | missing
  deriving DecidableEq, Repr

/-- A panel becomes FAILED (R196). -/
def State.failPanel (addr miss : Nat) (s : State) : State :=
  (s.updatePanel addr fun x =>
    { x with state := .failed, stale := true, miss := miss, probe := s.probeRestart }).raise (.panel addr true)

/-- The outcome of a page (R196). -/
def State.pageOutcome (x : Panel) (o : AckOutcome) (s : State) : State :=
  match o with
  | .ok => s.updatePanel x.addr fun y => { y with state := .idle, miss := 0 }
  | .fault => s.failPanel x.addr x.miss
  | .missing =>
    if x.miss < 2 then
      s.updatePanel x.addr fun y => { y with state := .idle, stale := true, miss := x.miss + 1 }
    else s.failPanel x.addr 3

/-- The outcome of a probe (R198). -/
def State.probeOutcome (x : Panel) (o : AckOutcome) (s : State) : State :=
  match o with
  | .ok =>
    (s.updatePanel x.addr fun y =>
      { y with state := .idle, miss := 0, stale := true, probe := .stopped }).raise (.panel x.addr false)
  | _ => s.updatePanel x.addr fun y => { y with probe := s.probeRestart }

/-- The line becomes free, and the outcome is taken by the record of the frame's panel, unless it was
removed meanwhile (R196 to R198).  A blank page's outcome changes nothing (R207). -/
def State.answerFrame (fr : Frame) (o : AckOutcome) (s : State) : State :=
  let s1 := { s with line := { s.line with flight := none } }
  if fr.discard then s1
  else
    match s1.line.panel? fr.addr with
    | none => s1
    | some x =>
      match fr.kind with
      | .page => s1.pageOutcome x o
      | .probe => s1.probeOutcome x o
      | .blank => s1

/-- The answer that the bytes of a received frame make to the page addressed: its CRC right, its
address that of the page with the top bit set, its result OK or FAULT (R196, 1.10, log entry 18). -/
def ackOf (addr : Nat) (bytes : List Byte) : Option AckOutcome :=
  if bytes = 0x5A :: withCrc [BitVec.ofNat 8 (0x80 + addr), 0x00] then some .ok
  else if bytes = 0x5A :: withCrc [BitVec.ofNat 8 (0x80 + addr), 0x01] then some .fault
  else none

end Sys2Proof.Machine
end

