-- ==== Sys2Proof/Machine/Service.lean ====
section
/-!
DEFINITION. How the Link Unit takes a request (R3, R5 to R8, R18): when a request is in service, the
catalogue of kinds, the checks of steps 1 to 3, and the reply.  A block's part of a request is a
function from the state to an Answer.
-/
namespace Sys2Proof.Machine

/-! ### Ports -/

/-- The state of a port. -/
def Link.port (l : Link) : Port → PortState
  | .operations => l.operations
  | .content => l.content

/-- Sets the state of a port. -/
def Link.setPort (l : Link) (p : Port) (ps : PortState) : Link :=
  match p with
  | .operations => { l with operations := ps }
  | .content => { l with content := ps }

/-- The state of a port. -/
def State.port (s : State) (p : Port) : PortState := s.link.port p

/-- Changes the state of a port. -/
def State.onPort (p : Port) (f : PortState → PortState) (s : State) : State :=
  { s with link := s.link.setPort p (f (s.link.port p)) }

/-! ### The catalogue (1.10) -/

/-- A row of the message catalogue: its kind, whether it is for the Operations port only, and on which
ports it is allowed in rest. -/
structure CatalogueRow where
  kind : Byte
  opsOnly : Bool
  restOps : Bool
  restContent : Bool

/-- The message catalogue (1.10), with R18. -/
def catalogue : List CatalogueRow :=
  [⟨0x01, false, true, true⟩, ⟨0x02, false, true, true⟩, ⟨0x03, true, true, false⟩,
   ⟨0x04, true, false, false⟩, ⟨0x05, true, true, false⟩, ⟨0x06, true, false, false⟩]
  ++ ([0x10, 0x11, 0x12, 0x13, 0x14, 0x15, 0x20, 0x21, 0x22, 0x23, 0x24, 0x30, 0x31, 0x32, 0x33, 0x35,
       0x41, 0x52, 0x67, 0x68, 0x70, 0x71, 0x73, 0x74, 0x75, 0x76].map fun k => ⟨k, true, false, false⟩)
  ++ ([0x16, 0x25, 0x34, 0x40, 0x42, 0x43, 0x44, 0x45, 0x46, 0x47, 0x48, 0x49, 0x4A, 0x50, 0x51, 0x53,
       0x60, 0x61, 0x62, 0x63, 0x64, 0x65, 0x66, 0x72, 0x77].map fun k => ⟨k, false, false, false⟩)

/-- The catalogue's row for a kind (R6 step 1). -/
def catalogueRow (kind : Byte) : Option CatalogueRow := catalogue.find? fun r => r.kind = kind

/-- Whether a kind is allowed in rest on a port (R18). -/
def CatalogueRow.inRest (r : CatalogueRow) : Port → Bool
  | .operations => r.restOps
  | .content => r.restContent

/-- The port restriction by content: a Post Notice on the Content port whose class field holds any
value other than INFORMATION (R7). -/
def classRestricted (p : Port) (kind : Byte) (payload : List Byte) : Bool :=
  decide (p = .content) && decide (kind = 0x50) && decide (0 < payload.length) && decide (u8 payload 0 ≠ 3)

/-- Steps 1 to 3 of R6: the status of the first that fails. -/
def State.linkRefusal (s : State) (p : Port) (kind : Byte) (payload : List Byte) : Option Status :=
  match catalogueRow kind with
  | none => some .unknownKind
  | some r =>
    if (r.opsOnly && decide (p = .content)) || classRestricted p kind payload then some .privilege
    else if decide (s.link.rest = .resting) && !r.inRest p then some .asleep
    else none

/-! ### Answers -/

/-- What a block makes of a request that passed steps 1 to 3. -/
inductive Answer where
  /-- the state after the request, its status and its reply's payload -/
  | reply (st : State) (status : Status) (payload : List Byte)
  /-- a Read Phrase that waits for the program under way (R187) -/
  | defer (st : State) (phrase lang : Nat)

/-- A request carried out (R8). -/
def done (s : State) (payload : List Byte) : Answer := .reply s .done payload

/-- A request refused with no effect and an empty payload (R6, R8). -/
def refuse (s : State) (st : Status) : Answer := .reply s st []

/-- A request refused with no effect and a refusal payload (R8). -/
def refuseWith (s : State) (st : Status) (payload : List Byte) : Answer := .reply s st payload

/-! ### Service -/

/-- Whether the request given can be the one in service on the port: it is the head of the receive
queue and has not been taken, or the queue is empty and it enters service as it arrives (R3, log
entry 1).  Nothing is taken without power or between a Restart's reply and its reset (log entries 8,
28). -/
def State.inService (s : State) (p : Port) (kind : Byte) (payload : List Byte) : Bool :=
  s.powered && decide (s.link.restart ≠ .due) && decide ((s.port p).service = .untaken)
    && match (s.port p).queue with
      | [] => true
      | r :: _ => decide (r = ⟨kind, payload⟩)

/-- The request enters service: it is the head of the queue (R3). -/
def State.enter (p : Port) (kind : Byte) (payload : List Byte) (s : State) : State :=
  s.onPort p fun ps => { ps with queue := if ps.queue.isEmpty then [⟨kind, payload⟩] else ps.queue }

/-- The reply to the request in service waits for the transmitter (R8, R11). -/
def State.answer (p : Port) (kind : Byte) (st : Status) (payload : List Byte) (s : State) : State :=
  s.onPort p fun ps => { ps with service := .answered, reply := some ⟨replyKind kind, st, payload⟩ }

/-- Takes the request in service on a port: the checks of R6 in order, then the block's part, then
always, and the reply (R5 to R8).  always is what happens to a request of this kind whatever step
refuses it (R6: Write Phrase, Erase Sectors and Commit Seat).  A request that cannot be in service is
no event (log entry 2). -/
def serve (p : Port) (kind : Byte) (payload : List Byte) (always : State → State)
    (block : State → Answer) (s : State) : State :=
  if s.inService p kind payload then
    match (s.enter p kind payload).linkRefusal p kind payload with
    | some st => (always (s.enter p kind payload)).answer p kind st []
    | none =>
      match block (s.enter p kind payload) with
      | .reply s2 st body => (always s2).answer p kind st body
      | .defer s2 phrase lang => (always s2).onPort p fun ps => { ps with service := .deferred phrase lang }
  else s

/-- Runs an event of the part itself; without power there is none (log entry 8). -/
def live (f : State → State) (s : State) : State := if s.powered then f s else s

end Sys2Proof.Machine
end

