-- ==== Sys2Proof/Machine/PowerOps.lean ====
section
/-!
DEFINITION. Entering and leaving rest in every block (R17, R19, R57, R58, R125, R166, R171, R207,
R208), the two resets (R15, R16) and the loss of power (R186).
-/
namespace Sys2Proof.Machine

/-! ### Rest entry -/

/-- The Notice Sequencer at rest entry: queue emptied, active notice ended without a return (R166).
The slots are empty at level 0, and are left as they are. -/
def State.restNotices (s : State) : State :=
  { s with seq := { s.seq with queue := [] } }.dropActive

/-- The Panel Line Controller at rest entry: timers stopped, the blank pages begun (R207, R198). -/
def PanelLine.enterRest (l : PanelLine) : PanelLine :=
  { l with
    panels := l.panels.map fun x => { x with probe := .stopped }
    rotationLeft := 0
    blankFrom := some 1 }

/-- Rest entry in every block (R17). -/
def State.enterRest (s : State) : State :=
  let s1 := (s.restNotices).breakHolds fun _ => true
  { s1 with
    link := { s1.link with rest := .resting }
    odo := { s1.odo with pulseInRest := false }
    store := { s1.store with latch := false }
    line := s1.line.enterRest }

/-! ### Wake -/

/-- The odometer mode after wake (R58). -/
def wakeMode (pulsed : Bool) (m : Mode) : Mode :=
  if pulsed then .hold
  else
    match m with
    | .deadReckon => .hold
    | m => m

/-- The Odometer and the Approach Monitor at wake (R58). -/
def State.wakeOdometer (s : State) : State :=
  let s1 := { s with
    odo := { s.odo with
      fresh := false
      freshLeft := 0
      zeroRun := 0
      suspectRun := 0
      failureRun := 0
      disagreementRun := 0
      agreementRun := 0
      exemption := false
      speed := 0
      prevSpeed := 0 }
    appr := { s.appr with doorTaken := s.doorLine } }
  (s1.setMode (wakeMode s.odo.pulseInRest s.odo.mode)).judgeStandstill

/-- A panel record at wake: stale, and a FAILED panel's probe timer started for 10 s (R208). -/
def Panel.wake (x : Panel) : Panel :=
  { x with stale := true, probe := if x.state = .failed then .running 10000 else x.probe }

/-- The Panel Line Controller at wake (R208). -/
def PanelLine.wake (l : PanelLine) : PanelLine :=
  PanelLine.startRotation { l with panels := l.panels.map Panel.wake, blankFrom := none }

/-- The part wakes: every block carries out its wake and WOKE is raised (R19). -/
def State.wakeUp (why : WakeReason) (s : State) : State :=
  let s1 := { s with link := { s.link with rest := .awake } }.wakeOdometer
  { s1 with line := s1.line.wake }.raise (.woke why)

/-! ### Resets -/

/-- The values that every block takes at either reset, over what survives both: the identity, the
signal lines, the store's places, markers and locks, and the model's own fields (R15, R16, log entries
8, 9).  The overheat flag and the door release line as last taken follow the lines (R59, R217). -/
def State.resetBlocks (st : Store) (s : State) : State :=
  { State.reset with
    unitId := s.unitId
    doorLine := s.doorLine
    overheatLine := s.overheatLine
    appr := { Approach.reset with doorTaken := s.doorLine }
    bright := { Brightness.reset with overheat := s.overheatLine }
    store := st
    freeCount := s.freeCount
    pending := s.pending }

/-- OVERHEAT with 1 when the line is active at the end of a reset (R217). -/
def State.raiseOverheat (s : State) : State := if s.bright.overheat then s.raise (.overheat true) else s

/-- A power-up reset (R15): the store is scanned, and STORE_DAMAGE and OVERHEAT are raised where they
apply, after the pending sets have been emptied (R9, R185, R217). -/
def State.powerUp (s : State) : State :=
  (s.resetBlocks s.store.lose.scan).raiseDamage.raiseOverheat

/-- The reset of Restart (R16): as a power-up reset, but the clock, the heat guard configuration and
the damage counts are kept, the marks of an abandoned operation are recorded (R186), and with the
guard enabled the heat state is HOT (R216).  HEAT is raised where the heat state or the ceiling in
force differs from its value before (R218, log entry 23). -/
def State.restartReset (s : State) : State :=
  let s1 := s.resetBlocks s.store.abandon
  let s2 := { s1 with
    clock := s.clock
    bright := { s1.bright with
      guard := s.bright.guard
      heat := if s.bright.guard.enabled then .hot else .off } }
  (s2.raiseDamage.raiseOverheat).settleBrightness s

/-- Loss of power (R186): what is volatile is lost; nothing happens until power is applied (log entry
8). -/
def State.losePower (s : State) : State :=
  let s1 := s.resetBlocks s.store.lose
  { s1 with powered := false, link := { s1.link with content := PortState.reset } }

end Sys2Proof.Machine
end

