-- ==== Sys2Proof/Machine/Link.lean ====
section
/-!
DEFINITION. The commands of the Link Unit (chapter 1): characters and line events on a port, the
transmitters, port break, the resets and the loss of power, Identify, Status, Restart, Rest and Wake.
-/
namespace Sys2Proof.Machine

/-! ### Receiving (R1 to R3) -/

/-- A frame that passed R2 is offered to the receive queue (R3). -/
def PortState.offer (r : Request) (ps : PortState) : PortState :=
  if ps.queue.length < 4 then { ps with queue := ps.queue ++ [r] } else { ps with overrun := true }

/-- A complete frame has its CRC checked (R2); got is every byte after the start byte. -/
def PortState.complete (got : List Byte) (ps : PortState) : PortState :=
  let n := got.length - 2
  if (crc (got.take n)).toNat = u16 got n then
    ps.offer ⟨got.getD 2 0, (got.take n).drop 3⟩
  else { ps with frameError := true }

/-- One character on a port (R1, R2). -/
def PortState.char (ps : PortState) (b : Byte) : PortState :=
  match ps.rx with
  | .ignoring => ps
  | .listening => if b = 0xC3 then { ps with rx := .receiving [] } else { ps with rx := .ignoring }
  | .receiving got =>
    let got1 := got ++ [b]
    if got1.length < 2 then { ps with rx := .receiving got1 }
    else if 1024 < u16 got1 0 then { ps with rx := .ignoring, frameError := true }
    else if got1.length < u16 got1 0 + 5 then { ps with rx := .receiving got1 }
    else ({ ps with rx := .ignoring }).complete got1

/-- FRAME_RECEIVED (R1 to R3): characters arrive on a port with no idle gap between them. -/
def execFrameReceived (p : Port) (bytes : List Byte) (s : State) : Host.Outcome State Fault Refusal :=
  .next (live (State.onPort p fun ps => bytes.foldl PortState.char ps) s)

/-- The line falls idle inside a frame: it is discarded, FRAME_ERROR is set, and the next 0xC3 starts a
new frame (R1). -/
def PortState.idleTimeout (ps : PortState) : PortState :=
  match ps.rx with
  | .receiving _ => { ps with rx := .listening, frameError := true }
  | _ => ps

/-- FRAME_IDLE_TIMEOUT (R1). -/
def execFrameIdleTimeout (p : Port) (s : State) : Host.Outcome State Fault Refusal :=
  .next (live (State.onPort p PortState.idleTimeout) s)

/-- The line has been idle: after ignored characters the receiver listens again, and a frame not complete
is discarded (R1, log entry 31). -/
def PortState.lineIdle (ps : PortState) : PortState :=
  match ps.rx with
  | .ignoring => { ps with rx := .listening }
  | _ => ps.idleTimeout

/-- LINE_IDLE (R1). -/
def execLineIdle (p : Port) (s : State) : Host.Outcome State Fault Refusal :=
  .next (live (State.onPort p PortState.lineIdle) s)

/-- UNKNOWN_KIND_REQUEST (R6 step 1, R8): a request whose kind is in the catalogue is no such event. -/
def execUnknownKindRequest (p : Port) (kind : Byte) (payload : List Byte) (s : State) :
    Host.Outcome State Fault Refusal :=
  .next (if (catalogueRow kind).isNone then serve p kind payload id (fun t => done t []) s else s)

/-! ### Transmitting (R4, R10, R11) -/

/-- A reply's first byte is sent: the port flags are copied into it and cleared (R4). -/
def PortState.startReply (resting : Bool) (r : Reply) (ps : PortState) : PortState :=
  { ps with
    tx := .reply (replyFrame r ps.frameError ps.overrun resting)
    reply := none
    frameError := false
    overrun := false }

/-- Whether an event is a MARKS entry. -/
def Event.isMarks : Event → Bool
  | .marks _ => true
  | _ => false

/-- A report's first byte is sent: it carries every entry, and the set is emptied (R10).  A report that
carries MARKS empties the unreported marks (R135). -/
def State.startReport (p : Port) (s : State) : State :=
  let s1 := s.onPort p fun ps => { ps with tx := .report (reportFrame ps.events), events := [] }
  if (s.port p).events.any Event.isMarks then { s1 with holds := { s1.holds with unreported := 0 } } else s1

/-- The waiting reply starts (R11). -/
def State.startReply (p : Port) (r : Reply) (s : State) : State :=
  s.onPort p (PortState.startReply (decide (s.link.rest = .resting)) r)

/-- A free transmitter starts the waiting reply, or else a report of a set that is not empty (R11).  None
starts while the reset of a Restart is due (log entry 28). -/
def State.startNext (p : Port) (s : State) : State :=
  if s.link.restart = .due then s
  else
    match (s.port p).reply with
    | some r => s.startReply p r
    | none => if (s.port p).events.isEmpty then s else s.startReport p

/-- REPLY_SEND (R4, R11). -/
def execReplySend (p : Port) (s : State) : Host.Outcome State Fault Refusal :=
  .next (live (fun s =>
    match (s.port p).tx, (s.port p).reply with
    | .free, some _ => s.startNext p
    | _, _ => s) s)

/-- A reply's last byte has been sent: its request leaves the queue and the transmitter is free (R3,
R11).  A request that waits becomes the head and its reply goes first again, so that a report starts
here only when none waits (log entry 43).  After the reply to Restart the reset is due (R16). -/
def State.finishReply (p : Port) (s : State) : State :=
  let s1 := s.onPort p fun ps => { ps with queue := ps.queue.tail, service := .untaken, tx := .free }
  if p = .operations ∧ s.link.restart = .replying then { s1 with link := { s1.link with restart := .due } }
  else if (s1.port p).queue.isEmpty then s1.startNext p
  else s1

/-- REPLY_COMPLETE (R3, R11). -/
def execReplyComplete (p : Port) (s : State) : Host.Outcome State Fault Refusal :=
  .next (live (fun s =>
    match (s.port p).tx with
    | .reply _ => s.finishReply p
    | _ => s) s)

/-- REPORT_SEND (R10). -/
def execReportSend (p : Port) (s : State) : Host.Outcome State Fault Refusal :=
  .next (live (fun s =>
    match (s.port p).tx, (s.port p).reply with
    | .free, none => s.startNext p
    | _, _ => s) s)

/-- REPORT_COMPLETE (R11). -/
def execReportComplete (p : Port) (s : State) : Host.Outcome State Fault Refusal :=
  .next (live (fun s =>
    match (s.port p).tx with
    | .report _ => (s.onPort p fun ps => { ps with tx := .free }).startNext p
    | _ => s) s)

/-! ### Port break (R12) -/

/-- The port's part of a break (R12).  A report under way goes on (log entry 11); a frame under reception
is dropped with the break, without FRAME_ERROR (log entry 38). -/
def PortState.broken (ps : PortState) : PortState :=
  { ps with
    queue := []
    service := .untaken
    reply := none
    tx := match ps.tx with
      | .reply _ => .free
      | t => t
    rx := .ignoring
    events := []
    frameError := false
    overrun := false }

/-- What a break on the Content port does besides: the latch (R171) and the unreported marks (R135). -/
def State.contentBreak (s : State) : State :=
  { s with
    store := { s.store with latch := false }
    holds := { s.holds with unreported := 0 } }

/-- A break is recognised on a port (R12).  One that abandons the reply to Restart resets the part
(R16). -/
def State.breakPort (p : Port) (s : State) : State :=
  let s1 := (s.onPort p PortState.broken).setHold p ((s.holds.get p).breakIf fun _ => true)
  match p with
  | .content => s1.contentBreak
  | .operations => if s.link.restart = .none then s1 else s1.restartReset

/-- PORT_BREAK (R12). -/
def execPortBreak (p : Port) (s : State) : Host.Outcome State Fault Refusal :=
  .next (live (State.breakPort p) s)

/-! ### Resets and power -/

/-- POWER_UP_RESET (R15). -/
def execPowerUpReset (s : State) : Host.Outcome State Fault Refusal := .next s.powerUp

/-- RESTART_RESET (R16): due once the last byte of the Restart's reply has been sent. -/
def execRestartReset (s : State) : Host.Outcome State Fault Refusal :=
  .next (live (fun s => if s.link.restart = .due then s.restartReset else s) s)

/-- POWER_LOSS (R186). -/
def execPowerLoss (s : State) : Host.Outcome State Fault Refusal := .next s.losePower

/-! ### Requests of the Link Unit -/

/-- A request with an empty payload (R6 step 4). -/
def emptyPayload (payload : List Byte) (block : State → Answer) (s : State) : Answer :=
  if payload.isEmpty then block s else refuse s .malformed

/-- The payload of Identify's reply (R13). -/
def State.identity (s : State) : List Byte :=
  be 8 s.unitId.toNat ++ be 2 Config.productCode ++ be 1 Config.messageSetRevision

/-- IDENTIFY (R13). -/
def execIdentify (p : Port) (payload : List Byte) (s : State) : Host.Outcome State Fault Refusal :=
  .next (serve p 0x01 payload id (emptyPayload payload fun s => done s s.identity) s)

/-- How many panels are FAILED (R14). -/
def State.failedPanels (s : State) : Nat := s.line.panels.countP fun x => x.state = .failed

/-- The payload of Status's reply (R14). -/
def State.snapshot (s : State) : List Byte :=
  be 1 s.link.rest.code ++ be 1 s.plan.state.code ++ flag s.clock.set ++ be 4 s.clock.second
    ++ be 1 s.odo.mode.code ++ flag s.appr.standstill ++ be 4 s.odo.position
    ++ orFF s.appr.current ++ orFF (s.appr.stage.map Stage.code) ++ flag s.attached
    ++ be 1 s.store.op.code ++ be 1 s.level ++ be 1 s.bright.heat.code ++ be 1 s.bright.ceiling
    ++ flag s.overheatLine ++ be 1 s.failedPanels

/-- STATUS (R14). -/
def execStatus (p : Port) (payload : List Byte) (s : State) : Host.Outcome State Fault Refusal :=
  .next (serve p 0x02 payload id (emptyPayload payload fun s => done s s.snapshot) s)

/-- RESTART (R16): the reset follows the reply. -/
def execRestart (p : Port) (payload : List Byte) (s : State) : Host.Outcome State Fault Refusal :=
  .next (serve p 0x03 payload id
    (emptyPayload payload fun s => done { s with link := { s.link with restart := .replying } } []) s)

/-- The own checks of Rest, and rest entry (R17). -/
def restBlock (s : State) : Answer :=
  if s.store.op ≠ .idle then refuse s .busy
  else if s.level ≠ 0 then refuse s .wrongState
  else if s.plan.state = .running ∧ ¬ s.appr.standstill then refuse s .wrongState
  else done s.enterRest []

/-- REST (R17). -/
def execRest (p : Port) (payload : List Byte) (s : State) : Host.Outcome State Fault Refusal :=
  .next (serve p 0x04 payload id (emptyPayload payload restBlock) s)

/-- The own check of Wake, and the wake (R19). -/
def wakeBlock (s : State) : Answer :=
  if s.link.rest = .resting then done (s.wakeUp .wakeMessage) [] else refuse s .wrongState

/-- WAKE (R19). -/
def execWake (p : Port) (payload : List Byte) (s : State) : Host.Outcome State Fault Refusal :=
  .next (serve p 0x05 payload id (emptyPayload payload wakeBlock) s)

end Sys2Proof.Machine
end

