-- ==== Sys2Proof/Machine/Plan.lean ====
section
/-!
DEFINITION. The commands of the Journey Plan and of the clock (chapter 2).
-/
namespace Sys2Proof.Machine

/-! ### Load Stop (R21) -/

/-- A planned time on the wire: a journey minute, or 0xFFFF for absent (R21). -/
def minuteOk (v : Nat) : Bool := decide (v < 2880) || decide (v = 0xFFFF)

/-- A phrase number on the wire, or 0xFFFF for absent (R21). -/
def phraseOk (v : Nat) : Bool := decide (v < 1024) || decide (v = 0xFFFF)

/-- The connections of a Load Stop payload (R21). -/
def connectionsOf (b : List Byte) : List Nat := (List.range (u8 b 21)).map fun i => u16 b (22 + 2 * i)

/-- Whether a Load Stop payload has its length and its fields within their codings (R21). -/
def loadStopOk (b : List Byte) : Bool :=
  decide (22 ≤ b.length) && decide (u8 b 21 ≤ 4) && decide (b.length = 22 + 2 * u8 b 21)
    && (decide (u8 b 0 < 48) || decide (u8 b 0 = 0xFF)) && decide (u16 b 1 < 1024)
    && decide (u32 b 3 ≤ 4000000) && minuteOk (u16 b 7) && minuteOk (u16 b 9) && phraseOk (u16 b 13)
    && decide (u8 b 15 ≤ 2) && decide (u8 b 16 ≤ 16) && decide (u8 b 17 ≤ 3) && decide (u8 b 18 ≤ 3)
    && decide (u8 b 19 ≤ 3) && decide (u8 b 20 ≤ 3) && (connectionsOf b).all fun c => decide (c < 1024)

/-- The stop record of a Load Stop payload, its delay clamped (R21). -/
def loadStopRecord (b : List Byte) : StopRecord where
  name := u16 b 1
  line := u32 b 3
  arrival := unlessEq 0xFFFF (u16 b 7)
  departure := unlessEq 0xFFFF (u16 b 9)
  delay := clampInt (-15) 720 (i16 b 11)
  platform := unlessEq 0xFFFF (u16 b 13)
  doorSide := DoorSide.ofCode (u8 b 15)
  length := unlessEq 0 (u8 b 16)
  callA := Call.ofCode (u8 b 17)
  callB := Call.ofCode (u8 b 18)
  callC := Call.ofCode (u8 b 19)
  event := StopEvent.ofCode (u8 b 20)
  connections := connectionsOf b

/-- Gives the plan a state.  A change of the plan state re-forms every display (R111). -/
def State.setPlanState (st : PlanState) (s : State) : State :=
  if s.plan.state = st then s else ({ s with plan := { s.plan with state := st } }).reformAll

/-- Writes a record at a stop number below the count, or appends it (R21). -/
def Plan.write (pl : Plan) (n : Nat) (r : StopRecord) : Plan :=
  if n < pl.stops.length then { pl with stops := pl.stops.set n r }
  else { pl with stops := pl.stops ++ [r] }

/-- The own checks of Load Stop, and the write (R21).  A return from READY marks every panel stale. -/
def loadStopBlock (b : List Byte) (s : State) : Answer :=
  if ¬ loadStopOk b then refuse s .malformed
  else if s.plan.state = .running ∨ s.plan.state = .ended then refuse s .wrongState
  else if s.plan.state = .ready ∧ segmentsHeld s.table.seats ≠ 0 then refuse s .conflict
  else if u8 b 0 ≠ 0xFF ∧ s.plan.stops.length < u8 b 0 then refuse s .notFound
  else if s.plan.stops.length ≤ u8 b 0 ∧ 48 ≤ s.plan.stops.length then refuse s .noRoom
  else
    let s1 := { s with plan := s.plan.write (u8 b 0) (loadStopRecord b) }
    let s2 := if s.plan.state = .ready then s1.staleAll else s1
    done (s2.setPlanState .loading)
      (be 1 (min (u8 b 0) s.plan.stops.length) ++ be 1 s1.plan.stops.length)

/-- LOAD_STOP (R21). -/
def execLoadStop (p : Port) (payload : List Byte) (s : State) : Host.Outcome State Fault Refusal :=
  .next (serve p 0x10 payload id (loadStopBlock payload) s)

/-! ### Close Plan (R24, R25) -/

/-- Why a plan does not validate: stop, portion and reason, as the CONFLICT payload carries them
(R24). -/
structure PlanFault where
  stop : Nat
  portion : Nat
  reason : Nat
  deriving DecidableEq, Repr

/-- Whether a time, where present, is at least the latest time before it, where there is one (R25). -/
def notBefore (latest time : Option Nat) : Bool :=
  match latest, time with
  | some l, some t => l ≤ t
  | _, _ => true

/-- Whether the times of a stop keep order after the latest time before them (R25). -/
def timesOk (latest : Option Nat) (r : StopRecord) : Bool :=
  notBefore latest r.arrival && notBefore (r.arrival <|> latest) r.departure

/-- The latest time once a stop has been walked (R25). -/
def latestAfter (latest : Option Nat) (r : StopRecord) : Option Nat := r.departure <|> r.arrival <|> latest

/-- The walk from the second stop of a route to its last: the first stop at which the line position
(reason 3) or a time (reason 4) fails (R25). -/
def walkRoute (prevLine : Nat) (latest : Option Nat) : List (Nat × StopRecord) → Option (Nat × Nat)
  | [] => none
  | (n, r) :: rest =>
    if r.line ≤ prevLine then some (n, 3)
    else if ¬ timesOk latest r then some (n, 4)
    else walkRoute r.line (latestAfter latest r) rest

/-- A portion's route with its records. -/
def Plan.routeRecords (pl : Plan) (po : Portion) : List (Nat × StopRecord) :=
  (pl.route po).filterMap fun n => (pl.stops[n]?).map fun r => (n, r)

/-- The tests of one portion: the first that fails, as stop and reason (R25).  The first stop's own times
are tested after test 2 and before the walk (log entry 39). -/
def Plan.checkPortion (pl : Plan) (po : Portion) : Option (Nat × Nat) :=
  match pl.routeRecords po with
  | [] => none
  | (n, r) :: rest =>
    let last := (rest.getLast?.map Prod.fst).getD n
    if pl.callAt po n ≠ .call then some (n, 1)
    else if pl.callAt po last ≠ .call then some (last, 1)
    else if (pl.calls po).length < 2 then some (last, 2)
    else if ¬ timesOk none r then some (n, 4)
    else walkRoute r.line (latestAfter none r) rest

/-- One portion's fault (R25). -/
def Plan.portionFault (pl : Plan) (po : Portion) : Option PlanFault :=
  (pl.checkPortion po).map fun x => ⟨x.1, po.code, x.2⟩

/-- Validation of the whole table, portions A, B, C in order (R25). -/
def Plan.validate (pl : Plan) : Option PlanFault :=
  if pl.route .a = [] ∧ pl.route .b = [] ∧ pl.route .c = [] then some ⟨0xFF, 0xFF, 0⟩
  else pl.portionFault .a <|> pl.portionFault .b <|> pl.portionFault .c

/-- The own checks of Close Plan (R24). -/
def closePlanBlock (s : State) : Answer :=
  if s.plan.state ≠ .loading then refuse s .wrongState
  else
    match s.plan.validate with
    | some f => refuseWith s .conflict (be 1 f.stop ++ be 1 f.portion ++ be 1 f.reason)
    | none => done ((s.setPlanState .ready).staleAll) []

/-- CLOSE_PLAN (R24, R25). -/
def execClosePlan (p : Port) (payload : List Byte) (s : State) : Host.Outcome State Fault Refusal :=
  .next (serve p 0x11 payload id (emptyPayload payload closePlanBlock) s)

/-! ### Start Journey (R26) -/

/-- What Start Journey gives the Odometer (R41). -/
def State.startOdometer (line : Nat) (s : State) : State :=
  { s with odo := { s.odo with
      position := line
      remainder := 0
      channel := .healthy
      sinceFix := 0
      suspectRun := 0
      failureRun := 0
      disagreementRun := 0
      agreementRun := 0
      exemption := true } }.setMode .wheel

/-- The effects of an accepted Start Journey with the origin given (R26, R70, R78, R149). -/
def State.beginJourney (c : Nat) (s : State) : State :=
  let s1 := s.startOdometer (s.plan.lineAt c)
  let s2 := { s1 with
    plan := { s1.plan with state := .running }
    appr := { s1.appr with
      current := some c
      last := none
      stage := some .atPlatform
      passed := false
      departureRun := 0 }
    form := { s1.form with arrival := some s1.form.lead } }
  ((((s2.raise (.stage c .atPlatform false)).postWelcome c).staleAll).reformAll).settle s

/-- The own checks of Start Journey (R26, log entry 27). -/
def startJourneyBlock (s : State) : Answer :=
  if s.plan.state ≠ .ready ∨ ¬ s.hasRoute then refuse s .wrongState
  else
    match s.coachCalls.head? with
    | none => refuse s .wrongState
    | some c => done (s.beginJourney c) (be 1 c ++ orFF (s.portion.map Portion.code))

/-- START_JOURNEY (R26). -/
def execStartJourney (p : Port) (payload : List Byte) (s : State) : Host.Outcome State Fault Refusal :=
  .next (serve p 0x12 payload id (emptyPayload payload startJourneyBlock) s)

/-! ### Clear Plan (R27, R28) -/

/-- The Notice Sequencer's part of Clear Plan (R164). -/
def State.clearNotices (s : State) : State :=
  let s1 := { s with seq := { s.seq with queue := [], slot1 := none, slot2 := none } }
  match s.seq.active with
  | some n => if n.cls = .service ∨ n.cls = .alarm then s1 else s1.dropActive
  | none => s1

/-- The effects of Clear Plan (R27, R28, R41, R59, R78, R118, R164). -/
def State.clearPlan (s : State) : State :=
  let s1 := { s with
    plan := ⟨.empty, []⟩
    odo := { s.odo with position := 0, remainder := 0, sinceFix := 0 }
    appr := { s.appr with
      current := none
      last := none
      stage := none
      passed := false
      departureRun := 0
      eta := none }
    form := { s.form with arrival := none } }
  ((((s1.clearSegments.breakAndMarkAll).clearNotices).staleAll).reformAll).settle s

/-- CLEAR_PLAN (R27, R28). -/
def execClearPlan (p : Port) (payload : List Byte) (s : State) : Host.Outcome State Fault Refusal :=
  .next (serve p 0x13 payload id (emptyPayload payload fun s => done s.clearPlan []) s)

/-! ### Amend Stop (R31) -/

/-- Whether a mask selects a field. -/
def selects (mask i : Nat) : Bool := mask.testBit i

/-- Whether an Amend Stop payload is well formed: selected fields in their codings (R31). -/
def amendOk (b : List Byte) : Bool :=
  decide (b.length = 8) && decide (u8 b 0 < 48) && decide (u8 b 1 < 16)
    && (!selects (u8 b 1) 1 || phraseOk (u16 b 4)) && (!selects (u8 b 1) 2 || decide (u8 b 6 ≤ 2))
    && (!selects (u8 b 1) 3 || decide (u8 b 7 ≤ 16))

/-- A record with its selected fields replaced (R31). -/
def StopRecord.amend (b : List Byte) (r : StopRecord) : StopRecord :=
  { r with
    delay := if selects (u8 b 1) 0 then clampInt (-15) 720 (i16 b 2) else r.delay
    platform := if selects (u8 b 1) 1 then unlessEq 0xFFFF (u16 b 4) else r.platform
    doorSide := if selects (u8 b 1) 2 then DoorSide.ofCode (u8 b 6) else r.doorSide
    length := if selects (u8 b 1) 3 then unlessEq 0 (u8 b 7) else r.length }

/-- The own checks of Amend Stop, and the amendment (R31). -/
def amendStopBlock (b : List Byte) (s : State) : Answer :=
  if ¬ amendOk b then refuse s .malformed
  else if s.plan.state ≠ .ready ∧ s.plan.state ≠ .running then refuse s .wrongState
  else
    match s.plan.stops[u8 b 0]? with
    | none => refuse s .notFound
    | some r =>
      let s1 := { s with plan := { s.plan with stops := s.plan.stops.set (u8 b 0) (r.amend b) } }
      done (if u8 b 1 = 0 then s else s1.staleDoorMaps.staleBanners) (beInt 2 (r.amend b).delay)

/-- AMEND_STOP (R31). -/
def execAmendStop (p : Port) (payload : List Byte) (s : State) : Host.Outcome State Fault Refusal :=
  .next (serve p 0x14 payload id (amendStopBlock payload) s)

/-! ### Set Call (R32 to R34) -/

/-- The plan with one portion's call state at one stop replaced. -/
def Plan.setCall (pl : Plan) (n : Nat) (po : Portion) (c : Call) : Plan :=
  { pl with stops := pl.stops.modify n fun r => r.withCall po c }

/-- The checks of Set Call after the third, for a change of call state (R32, log entry 25). -/
def State.setCallAllowed (s : State) (n : Nat) (po : Portion) (c : Call) : Bool :=
  let after := s.plan.setCall n po c
  (match s.appr.last with
    | some l => decide (l < n)
    | none => true)
  && !(decide (s.appr.current = some n) && decide (s.appr.stage = some .atPlatform))
  && (decide (c ≠ .cancelled)
    || (decide (2 ≤ (after.calls po).length)
      && match s.appr.last with
        | some l => (after.calls po).any fun x => decide (l < x)
        | none => true))
  && (decide (c ≠ .call) || decide (s.plan.state ≠ .running) || decide (s.odo.position < s.plan.lineAt n))

/-- The new C that a change of this coach's call states gives, if C moves (R33); s has the change
stored.  Where no calling stop follows a cancelled C, R33 names no new C: C and its stage become none, the
plan stays RUNNING, and while C is none no later change moves it (log entry 46). -/
def State.movedC (s : State) (n : Nat) (c : Call) : Option (Option Nat) :=
  if s.plan.state ≠ .running then none
  else
    match s.appr.current with
    | none => none
    | some cur =>
      if c = .cancelled then (if n = cur then some (s.nextCall n) else none)
      else if n < cur then some (some n)
      else none

/-- C moves by Set Call: the notices of the former C end (R150), the new C is given at CRUISE and is
evaluated at once (R33, R70). -/
def State.moveC (next : Option Nat) (s : State) : State :=
  let s1 :=
    match s.appr.current with
    | some cur => s.endNotices (Notice.awaitsStage cur)
    | none => s
  (s1.giveC next).evaluate none

/-- The Seat Table's part of Set Call: voiding on a cancellation (R113), and every seat of which an
effective stop or the list changed handed on (R99, R124).  before is the state before the change. -/
def State.recallSeats (s before : State) (c : Call) : State :=
  let s1 := if c = .cancelled then s.relist s.unvoided else s
  s1.handSeats ((s.table.seats.filter fun x =>
    effMoved before s x || (decide (c = .cancelled) && decide (s.unvoided x ≠ x.segments))).map
      fun x => (x.number, x.bay))

/-- The effects of an accepted change of call state (R33, R34, log entry 25). -/
def State.changeCall (n : Nat) (po : Portion) (c : Call) (s : State) : State :=
  let s1 := { s with plan := s.plan.setCall n po c }
  if s.portion = some po then
    let s2 := s1.recallSeats s c
    let s3 :=
      match s2.movedC n c with
      | some next => s2.moveC next
      | none => s2
    (s3.staleDoorMaps.staleBanners.reformAll).settle s
  else s1.staleDoorMaps

/-- How many segments a change of call state voids (R33, R113). -/
def State.voidedBy (n : Nat) (po : Portion) (c : Call) (s : State) : Nat :=
  let s1 := { s with plan := s.plan.setCall n po c }
  if s.portion = some po ∧ c = .cancelled then
    segmentsHeld s.table.seats - segmentsHeld (s1.relist s1.unvoided).table.seats
  else 0

/-- The reply of Set Call (R33). -/
def State.callReply (s : State) (voided : Nat) : List Byte :=
  orFF s.appr.current ++ orFF (s.appr.stage.map Stage.code) ++ be 2 voided

/-- The own checks of Set Call (R32). -/
def setCallBlock (b : List Byte) (s : State) : Answer :=
  if ¬ (b.length = 3 ∧ u8 b 0 < 48 ∧ u8 b 1 ≤ 2 ∧ (u8 b 2 = 2 ∨ u8 b 2 = 3)) then refuse s .malformed
  else
    let n := u8 b 0
    let po := Portion.ofCode (u8 b 1)
    let c := Call.ofCode (u8 b 2)
    if s.plan.state ≠ .ready ∧ s.plan.state ≠ .running then refuse s .wrongState
    else if s.plan.stops.length ≤ n then refuse s .notFound
    else if s.plan.callAt po n ≠ .call ∧ s.plan.callAt po n ≠ .cancelled then refuse s .wrongState
    else if s.plan.callAt po n = c then done s (s.callReply 0)
    else if ¬ s.setCallAllowed n po c then refuse s .wrongState
    else done (s.changeCall n po c) ((s.changeCall n po c).callReply (s.voidedBy n po c))

/-- SET_CALL (R32 to R34). -/
def execSetCall (p : Port) (payload : List Byte) (s : State) : Host.Outcome State Fault Refusal :=
  .next (serve p 0x15 payload id (setCallBlock payload) s)

/-! ### Reading the plan (R35, R36) -/

/-- A stop record laid out as the Load Stop payload (R35). -/
def StopRecord.encode (n : Nat) (r : StopRecord) : List Byte :=
  be 1 n ++ be 2 r.name ++ be 4 r.line ++ orFFFF r.arrival ++ orFFFF r.departure ++ beInt 2 r.delay
    ++ orFFFF r.platform ++ be 1 r.doorSide.code ++ be 1 (r.length.getD 0) ++ be 1 r.callA.code
    ++ be 1 r.callB.code ++ be 1 r.callC.code ++ be 1 r.event.code ++ be 1 r.connections.length
    ++ r.connections.flatMap (be 2)

/-- The payload of Read Stop's reply for a stop (R35); an effective stop that is not defined is sent as
0xFF, on a route without a calling stop too (log entry 45). -/
def State.stopReply (s : State) (n : Nat) (r : StopRecord) : List Byte :=
  r.encode n ++ orFF (s.plan.eff .a n) ++ orFF (s.plan.eff .b n) ++ orFF (s.plan.eff .c n)
    ++ orFFFF (forecastOf r.arrival r.delay)

/-- First and final calling stops of a portion (R36). -/
def Plan.endCalls (pl : Plan) (po : Portion) : List Byte :=
  orFF (pl.calls po).head? ++ orFF (pl.calls po).getLast?

/-- The summary of the plan (R36). -/
def State.planSummary (s : State) : List Byte :=
  be 1 s.plan.state.code ++ be 1 s.plan.stops.length ++ s.plan.endCalls .a ++ s.plan.endCalls .b
    ++ s.plan.endCalls .c ++ orFF (s.portion.map Portion.code)

/-- Read Stop: stop number 0xFF asks for the summary (R35, R36). -/
def readStopBlock (b : List Byte) (s : State) : Answer :=
  if b.length ≠ 1 then refuse s .malformed
  else if u8 b 0 = 0xFF then done s s.planSummary
  else if 48 ≤ u8 b 0 then refuse s .malformed
  else
    match s.plan.stops[u8 b 0]? with
    | none => refuse s .notFound
    | some r => done s (s.stopReply (u8 b 0) r)

/-- READ_STOP (R35). -/
def execReadStop (p : Port) (payload : List Byte) (s : State) : Host.Outcome State Fault Refusal :=
  .next (serve p 0x16 payload id (readStopBlock payload) s)

/-- READ_PLAN_SUMMARY (R36). -/
def execReadPlanSummary (p : Port) (s : State) : Host.Outcome State Fault Refusal :=
  .next (serve p 0x16 [0xFF] id (fun s => done s s.planSummary) s)

/-! ### The clock (R37 to R39) -/

/-- Sets the clock and restarts its timing (R38); a change of its minute and of the brightness follow
(R39, R210). -/
def setClockBlock (b : List Byte) (s : State) : Answer :=
  if ¬ (b.length = 5 ∧ u8 b 0 ≤ 1 ∧ u32 b 1 < 86400) then refuse s .malformed
  else
    let s1 := { s with clock := ⟨true, u8 b 0 * 86400 + u32 b 1, 0⟩ }
    done ((s1.minuteChange s).settleBrightness s) []

/-- SET_CLOCK (R38). -/
def execSetClock (p : Port) (payload : List Byte) (s : State) : Host.Outcome State Fault Refusal :=
  .next (serve p 0x06 payload id (setClockBlock payload) s)

/-- One second of the clock: it advances while it is set and holds at 172,799 (R37). -/
def Clock.tick (c : Clock) : Clock :=
  if c.set then { c with second := if c.second < 172799 then c.second + 1 else c.second, phase := 0 } else c

/-- CLOCK_TICK (R37, R39). -/
def execClockTick (s : State) : Host.Outcome State Fault Refusal :=
  .next (live (fun s =>
    let s1 := { s with clock := s.clock.tick }
    (s1.minuteChange s).settleBrightness s) s)

end Sys2Proof.Machine
end

