-- ==== Sys2Proof/Machine/Motion.lean ====
section
/-!
DEFINITION. The commands of the Odometer and of the Approach Monitor (chapter 3).
-/
namespace Sys2Proof.Machine

/-! ### Set Wheel (R42) -/

/-- P for a wheel (R42). -/
def travelOf (d n : Nat) : Nat := d * 3141593 / (n * 1000)

/-- Set Wheel's checks and effect (R42). -/
def setWheelBlock (b : List Byte) (s : State) : Answer :=
  if ¬ (b.length = 3 ∧ 600 ≤ u16 b 0 ∧ u16 b 0 ≤ 1250 ∧ 20 ≤ u8 b 2 ∧ u8 b 2 ≤ 200) then refuse s .malformed
  else if s.plan.state = .running ∧ ¬ s.appr.standstill then refuse s .wrongState
  else
    done { s with odo := { s.odo with
        diameter := u16 b 0
        pulsesPerRev := u8 b 2
        travelPerPulse := travelOf (u16 b 0) (u8 b 2) } }
      (be 4 (travelOf (u16 b 0) (u8 b 2)))

/-- SET_WHEEL (R42). -/
def execSetWheel (p : Port) (payload : List Byte) (s : State) : Host.Outcome State Fault Refusal :=
  .next (serve p 0x20 payload id (setWheelBlock payload) s)

/-! ### The window (R43 to R51) -/

/-- A pulse adds 1 to the window count, saturating at 4095 (R43); in rest it is noted (R57, log entry
12). -/
def State.pulse (s : State) : State :=
  if s.odo.count < 4095 then
    { s with odo := { s.odo with
      count := s.odo.count + 1
      pulseInRest := s.odo.pulseInRest || decide (s.link.rest = .resting) } }
  else s

/-- WHEEL_PULSE (R43). -/
def execWheelPulse (s : State) : Host.Outcome State Fault Refusal := .next (live State.pulse s)

/-- The difference of two speeds. -/
def absDiff (x y : Nat) : Nat := (x - y) + (y - x)

/-- v_w, the wheel speed of the window (R44). -/
def Odometer.wheelSpeed (o : Odometer) : Nat := o.count * o.travelPerPulse / 200

/-- v_r, the reported speed in mm/s (R45). -/
def Odometer.reportedSpeed (o : Odometer) : Nat := o.reported * 1000 / 36

/-- Whether the window is suspect (R44). -/
def Odometer.suspect (o : Odometer) : Bool :=
  decide (o.count = 4095) || (!o.exemption && decide (800 < absDiff o.wheelSpeed o.prevSpeed))

/-- Whether the window's speeds agree (R47). -/
def Odometer.agrees (o : Odometer) : Bool :=
  decide (absDiff o.wheelSpeed o.reportedSpeed ≤ o.reportedSpeed / 10 + 1000)

/-- Every run but the zero run becomes 0 (R48 to R50). -/
def Odometer.clearRuns (o : Odometer) : Odometer :=
  { o with suspectRun := 0, failureRun := 0, disagreementRun := 0, agreementRun := 0 }

/-- The zero run counts windows with n = 0, saturating (R54). -/
def Odometer.countZero (o : Odometer) : Odometer :=
  { o with zeroRun := if o.count = 0 then min 4095 (o.zeroRun + 1) else 0 }

/-- The end of a window taken in WHEEL: the mode after it and the runs (R48). -/
def Odometer.endWheel (o : Odometer) : Mode × Odometer :=
  if o.suspect then (.guarded, { o with suspectRun := 1, failureRun := 0, disagreementRun := 0 })
  else
    let failure := if o.count = 0 ∧ o.fresh ∧ 50 ≤ o.reported then o.failureRun + 1 else 0
    let disagreement := if o.fresh ∧ ¬ o.agrees then o.disagreementRun + 1 else 0
    if 15 ≤ failure ∨ 25 ≤ disagreement then (.deadReckon, { o.clearRuns with channel := .failed })
    else (.wheel, { o with failureRun := failure, disagreementRun := disagreement })

/-- The end of a window taken in GUARDED (R49). -/
def Odometer.endGuarded (o : Odometer) : Mode × Odometer :=
  if ¬ o.suspect then (.wheel, { o with suspectRun := 0 })
  else if 10 ≤ o.suspectRun + 1 then
    (if o.fresh then .deadReckon else .hold, { o.clearRuns with channel := .failed })
  else (.guarded, { o with suspectRun := o.suspectRun + 1 })

/-- The agreement run of a window taken in DEAD_RECKON or HOLD, and readmission (R50, R51). -/
def Odometer.endUntrusted (o : Odometer) : Mode × Odometer :=
  let run :=
    if 200 ≤ o.reported ∧ o.count < 4095 ∧ o.agrees ∧ (o.mode = .hold → o.fresh) then o.agreementRun + 1
    else 0
  if 50 ≤ run then (.wheel, { o.clearRuns with channel := .healthy })
  else (o.mode, { o with agreementRun := run })

/-- The transitions of the mode the window was taken in (3.3). -/
def Odometer.transition (o : Odometer) : Mode × Odometer :=
  match o.mode with
  | .wheel => o.endWheel
  | .guarded => o.endGuarded
  | .deadReckon | .hold => o.endUntrusted

/-- The increment of a window in µm, in the mode now in force (R45). -/
def Odometer.increment (o : Odometer) : Nat :=
  match o.mode with
  | .wheel => o.count * o.travelPerPulse
  | .guarded => o.prevSpeed * 200
  | .deadReckon => o.reportedSpeed * 200
  | .hold => 0

/-- The speed kept at the end of a window (R46). -/
def Odometer.keptSpeed (o : Odometer) : Nat :=
  match o.mode with
  | .wheel => o.wheelSpeed
  | .guarded => o.prevSpeed
  | .deadReckon => o.reportedSpeed
  | .hold => 0

/-- The increment accumulated into S, the remainder and the travel since fix (R45). -/
def Odometer.accumulate (o : Odometer) : Odometer :=
  let total := o.remainder + o.increment
  let reach := o.position + total / 1000000
  let position := min 4000000 reach
  { o with
    position := position
    remainder := if 4000000 < reach then 0 else total % 1000000
    sinceFix := min 4000000 (o.sinceFix + (position - o.position)) }

/-- The speed kept, and the count begun again (R46, R43). -/
def Odometer.keepSpeed (o : Odometer) : Odometer :=
  { o with speed := o.keptSpeed, prevSpeed := o.keptSpeed, count := 0, windowMs := 0 }

/-- The Odometer's work at the end of a window while AWAKE, in the order of R43. -/
def State.computeWindow (s : State) : State :=
  let o := s.odo.countZero
  let s1 := { s with odo := { o.transition.2 with exemption := false } }.setMode o.transition.1
  { s1 with odo := s1.odo.accumulate.keepSpeed }.judgeStandstill

/-- A window that ends while AWAKE: the Odometer, then the stage of C, then the tunnel test (R43). -/
def State.awakeWindow (s : State) : State :=
  ((s.computeWindow.countDeparture).evaluate none).settle s

/-- A window that ends in rest: the pulses are noted, and 8 or more wake the part (R57). -/
def State.restWindow (s : State) : State :=
  let s1 := { s with odo := { s.odo with
    count := 0
    windowMs := 0
    pulseInRest := s.odo.pulseInRest || decide (0 < s.odo.count) } }
  if 8 ≤ s.odo.count then s1.wakeUp .wheelPulses else s1

/-- ODOMETER_WINDOW_END (R43, R57). -/
def execOdometerWindowEnd (s : State) : Host.Outcome State Fault Refusal :=
  .next (live (fun s => if s.link.rest = .awake then s.awakeWindow else s.restWindow) s)

/-! ### Reported speed (R52, R53) -/

/-- Motion Report stores r as fresh, takes HOLD with a FAILED channel to DEAD_RECKON, judges standstill
and evaluates the stage of C (R51, R52). -/
def State.reportMotion (r : Nat) (s : State) : State :=
  let s1 := { s with odo := { s.odo with reported := min 4000 r, fresh := true, freshLeft := 10000 } }
  let s2 := if s1.odo.mode = .hold ∧ s1.odo.channel = .failed then s1.setMode .deadReckon else s1
  (s2.judgeStandstill.evaluate none).settle s

/-- Motion Report's check (R52). -/
def motionReportBlock (b : List Byte) (s : State) : Answer :=
  if b.length ≠ 2 then refuse s .malformed
  else
    done (s.reportMotion (u16 b 0))
      (be 1 (s.reportMotion (u16 b 0)).odo.mode.code ++ flag (s.reportMotion (u16 b 0)).appr.standstill)

/-- MOTION_REPORT (R52). -/
def execMotionReport (p : Port) (payload : List Byte) (s : State) : Host.Outcome State Fault Refusal :=
  .next (serve p 0x22 payload id (motionReportBlock payload) s)

/-- The reported speed goes stale (R53); in rest the Odometer is frozen (R57, log entry 26). -/
def State.speedStale (s : State) : State :=
  let s1 := { s with odo := { s.odo with fresh := false, freshLeft := 0 } }
  if s.link.rest = .awake then
    (if s1.odo.mode = .deadReckon then s1.setMode .hold else s1).judgeStandstill
  else s1

/-- SPEED_STALE (R53). -/
def execSpeedStale (s : State) : Host.Outcome State Fault Refusal :=
  .next (live (fun s => if s.odo.fresh then s.speedStale else s) s)

/-! ### Position Fix (R55, R56) -/

/-- Whether f lies between the line positions of the first and last stops of this coach's route
(R55). -/
def State.onLine (s : State) (f : Nat) : Bool :=
  match s.coachRoute.head?, s.coachRoute.getLast? with
  | some x, some y => decide (s.plan.lineAt x ≤ f) && decide (f ≤ s.plan.lineAt y)
  | _, _ => false

/-- S_fix (R55). -/
def State.fixedPosition (s : State) (f a : Nat) : Nat :=
  min 4000000 (f + s.odo.speed * min 2000 a / 1000000)

/-- The tolerance of a fix (R55). -/
def State.tolerance (s : State) : Nat := max 50 (s.odo.sinceFix / 50)

/-- The jump of a fix (R55). -/
def State.jump (s : State) (f a : Nat) : Int := (s.fixedPosition f a : Int) - s.odo.position

/-- The effects of an accepted fix, and the evaluation (R56, R51). -/
def State.applyFix (f a : Nat) (s : State) : State :=
  let s1 := { s with odo := { s.odo with position := s.fixedPosition f a, remainder := 0, sinceFix := 0 } }
  let s2 := if (s.tolerance : Int) < (s.jump f a).natAbs then s1.raise (.fixJump (s.jump f a)) else s1
  let s3 :=
    if s2.odo.mode = .hold ∧ s2.odo.channel = .healthy then
      { s2 with odo := { s2.odo with exemption := true } }.setMode .wheel
    else s2
  (s3.evaluate none).settle s

/-- Position Fix's checks (R55). -/
def positionFixBlock (b : List Byte) (s : State) : Answer :=
  if ¬ (b.length = 6 ∧ u32 b 0 ≤ 4000000) then refuse s .malformed
  else if s.plan.state ≠ .running then refuse s .wrongState
  else if ¬ s.onLine (u32 b 0) then refuse s .offRoute
  else
    let s1 := s.applyFix (u32 b 0) (u16 b 4)
    done s1 (be 4 (s.fixedPosition (u32 b 0) (u16 b 4)) ++ beInt 4 (s.jump (u32 b 0) (u16 b 4))
      ++ be 4 s.tolerance ++ be 1 s1.odo.mode.code)

/-- POSITION_FIX (R55, R56). -/
def execPositionFix (p : Port) (payload : List Byte) (s : State) : Host.Outcome State Fault Refusal :=
  .next (serve p 0x23 payload id (positionFixBlock payload) s)

/-! ### The Approach Monitor's commands -/

/-- Set Approach (R60). -/
def setApproachBlock (b : List Byte) (s : State) : Answer :=
  if ¬ (b.length = 6 ∧ 60 ≤ u16 b 0 ∧ u16 b 0 ≤ 600 ∧ 1000 ≤ u16 b 2 ∧ u16 b 2 ≤ 20000
      ∧ 20 ≤ u16 b 4 ∧ u16 b 4 ≤ 120) then refuse s .malformed
  else
    done { s with appr := { s.appr with annTime := u16 b 0, annDist := u16 b 2, appTime := u16 b 4 } } []

/-- SET_APPROACH (R60). -/
def execSetApproach (p : Port) (payload : List Byte) (s : State) : Host.Outcome State Fault Refusal :=
  .next (serve p 0x21 payload id (setApproachBlock payload) s)

/-- Whether an activation is unscheduled: the stage of C is CRUISE or ANNOUNCE as the evaluation
begins, and the mode is not HOLD (R65). -/
def State.unscheduled (s : State) : Bool :=
  s.evaluates && (decide (s.appr.stage = some .cruise) || decide (s.appr.stage = some .announce))
    && decide (s.odo.mode ≠ .hold)

/-- The C for which an activation holds in the stage table: none for an unscheduled one, by which no
stage changes (R64, R65, log entry 37). -/
def State.activationFor (s : State) : Option Nat := if s.unscheduled then none else s.appr.current

/-- The further effects of an activation, by the stage of C when the evaluation begins (R65). -/
def State.noteActivation (s : State) : State :=
  if s.evaluates then
    match s.appr.stage with
    | some st =>
      if s.unscheduled then s.raise (.doorUnscheduled s.appr.current st)
      else if st = .atPlatform then { s with appr := { s.appr with departureRun := 0 } }
      else s
    | none => s
  else s

/-- A change of the door release line while AWAKE: recorded, then evaluated (R63, R65). -/
def State.doorChange (active : Bool) (s : State) : State :=
  let s1 := { s with doorLine := active, appr := { s.appr with doorTaken := active } }
  if active then (s1.noteActivation.evaluate s1.activationFor).settle s
  else (s1.evaluate none).settle s

/-- The door release line takes a level.  Without power only the line changes (log entry 8); a level it
already has is no change; in rest an activation wakes the part and a deactivation changes nothing else
(R19, R57, R65). -/
def State.doorRelease (active : Bool) (s : State) : State :=
  if ¬ s.powered then { s with doorLine := active }
  else if s.doorLine = active then s
  else if s.link.rest = .awake then s.doorChange active
  else if active then ({ s with doorLine := true }).wakeUp .doorRelease
  else { s with doorLine := false }

/-- DOOR_RELEASE_CHANGE (R65, R19). -/
def execDoorReleaseChange (active : Bool) (s : State) : Host.Outcome State Fault Refusal :=
  .next (s.doorRelease active)

/-- The stage that Set Stage names (R69). -/
def commandedStage (b : List Byte) : Stage := if u8 b 0 = 4 then .atPlatform else .departed

/-- Set Stage: C reaches the stage as if by a row of R64, and the evaluation continues (R69). -/
def State.setStage (c : Nat) (before st : Stage) (s : State) : State :=
  let e := Evaluation.apply c (st, before.isBelow) ⟨s, none, false⟩
  let e1 := if e.st.plan.state = .running then passes none s.passFuel e else e
  (e1.conclude).settle s

/-- Set Stage's checks (R69). -/
def setStageBlock (b : List Byte) (s : State) : Answer :=
  if ¬ (b.length = 1 ∧ (u8 b 0 = 4 ∨ u8 b 0 = 5)) then refuse s .malformed
  else if s.plan.state ≠ .running ∨ ¬ s.hasRoute then refuse s .wrongState
  else
    match s.appr.current, s.appr.stage with
    | some c, some st =>
      if u8 b 0 ≤ st.code then refuse s .wrongState
      else
        let s1 := s.setStage c st (commandedStage b)
        done s1 (orFF s1.appr.current ++ orFF (s1.appr.stage.map Stage.code))
    | _, _ => refuse s .wrongState

/-- SET_STAGE (R69). -/
def execSetStage (p : Port) (payload : List Byte) (s : State) : Host.Outcome State Fault Refusal :=
  .next (serve p 0x24 payload id (setStageBlock payload) s)

/-- The displayed speed in km/h (R46). -/
def Odometer.displayedSpeed (o : Odometer) : Nat := o.speed * 36 / 10000

/-- The payload of Read Position's reply (R71, log entry 20). -/
def State.positionReply (s : State) : List Byte :=
  be 4 s.odo.position ++ be 4 s.odo.remainder ++ be 4 s.odo.speed ++ be 2 s.odo.displayedSpeed
    ++ be 1 s.odo.mode.code ++ flag s.appr.standstill ++ flag (decide (s.odo.channel = .failed))
    ++ be 2 s.odo.reported ++ flag s.odo.fresh ++ be 4 s.odo.sinceFix
    ++ orFF s.appr.current ++ orFF s.appr.last ++ flag s.appr.passed ++ orFF (s.appr.stage.map Stage.code)
    ++ be 4 ((s.appr.current.map s.distance).getD 0) ++ be 2 ((s.appr.current.map s.timeTo).getD 0)
    ++ be 1 (s.etaNow.getD 0) ++ be 2 s.odo.diameter ++ be 1 s.odo.pulsesPerRev ++ be 4 s.odo.travelPerPulse
    ++ be 2 s.appr.annTime ++ be 2 s.appr.annDist ++ be 2 s.appr.appTime

/-- READ_POSITION (R71). -/
def execReadPosition (p : Port) (payload : List Byte) (s : State) : Host.Outcome State Fault Refusal :=
  .next (serve p 0x25 payload id (emptyPayload payload fun s => done s s.positionReply) s)

end Sys2Proof.Machine
end

