-- ==== Sys2Proof/Machine/Coach.lean ====
section
/-!
DEFINITION. The commands of the Formation Table (chapter 4).
-/
namespace Sys2Proof.Machine

/-! ### The staged formation (R73, R74) -/

/-- A formation entry on the wire (4.1). -/
def CoachEntry.encode (x : CoachEntry) : List Byte :=
  be 8 x.unit.toNat ++ be 1 x.coach ++ be 1 x.portion.code ++ flag x.endATo2

/-- The formation entry that 11 bytes hold (4.1). -/
def entryOf (b : List Byte) : CoachEntry where
  unit := BitVec.ofNat 64 (u64 b 0)
  coach := u8 b 8
  portion := Portion.ofCode (u8 b 9)
  endATo2 := decide (u8 b 10 = 1)

/-- Stage Coach (R73). -/
def stageCoachBlock (b : List Byte) (s : State) : Answer :=
  if ¬ (b.length = 11 ∧ 1 ≤ u8 b 8 ∧ u8 b 8 ≤ 99 ∧ u8 b 9 ≤ 2 ∧ u8 b 10 ≤ 1) then refuse s .malformed
  else if 16 ≤ s.form.staged.length then refuse s .noRoom
  else
    done { s with form := { s.form with staged := s.form.staged ++ [entryOf b] } }
      (be 1 (s.form.staged.length + 1))

/-- STAGE_COACH (R73). -/
def execStageCoach (p : Port) (payload : List Byte) (s : State) : Host.Outcome State Fault Refusal :=
  .next (serve p 0x30 payload id (stageCoachBlock payload) s)

/-- CLEAR_STAGED (R74). -/
def execClearStaged (p : Port) (payload : List Byte) (s : State) : Host.Outcome State Fault Refusal :=
  .next (serve p 0x31 payload id
    (emptyPayload payload fun s => done { s with form := { s.form with staged := [] } } []) s)

/-! ### Apply Formation (R81 to R83) -/

/-- The field in which two entries clash: 0 unit identity, 1 coach number (R81). -/
def CoachEntry.clash (x y : CoachEntry) : Option Nat :=
  if x.unit = y.unit then some 0 else if x.coach = y.coach then some 1 else none

/-- The first clashing pair of a list: its later index and the field that clashes (R81). -/
def firstClash (es : List CoachEntry) : Option (Nat × Nat) :=
  (List.range es.length).findSome? fun j =>
    (List.range j).findSome? fun i =>
      match es[i]?, es[j]? with
      | some x, some y => (x.clash y).map fun f => (j, f)
      | _, _ => none

/-- The portion view that the staged formation would give (R81). -/
def State.stagedPortion (s : State) : Option Portion := (s.entryIn s.form.staged).map CoachEntry.portion

/-- The fourth and fifth checks of Apply Formation (R81). -/
def State.portionAllowed (s : State) : Bool :=
  decide (s.plan.state ≠ .running) || decide (s.portion = s.stagedPortion)
    || (decide (s.appr.stage = some .atPlatform)
      && match s.stagedPortion, s.appr.current with
        | none, _ => true
        | some po, some c => decide (s.plan.callAt po c = .call)
        | some _, none => false)

/-- The flush of journey notices at an apply (R163). -/
def State.flushNotices (s : State) : State :=
  match s.portion with
  | none => s.endNotices fun n => n.isClass .journey
  | some po =>
    s.dropSaved fun n => n.isClass .journey && match n.stop with
      | some k => !(s.plan.route po).contains k
      | none => false

/-- The effects of an apply that changes the portion view (R83, R115 to R117, R111). -/
def State.changePortion (s : State) : State :=
  let s1 := s.setMarks (BitVec.allOnes 24)
  if s1.portion.isSome then s1.portionSeats else s1

/-- The staged entries become active with the leading end given (R82). -/
def Formation.apply (e : TrainEnd) (f : Formation) : Formation :=
  { f with staged := [], active := f.staged, lead := e }

/-- An accepted Apply Formation (R82, R83). -/
def State.applyFormation (e : TrainEnd) (s : State) : State :=
  let s1 := { s with form := s.form.apply e }
  let moved := decide (s.portion ≠ s1.portion)
  let s2 := (s1.raiseFormation false).breakHolds fun _ => true
  let s3 := if moved then s2.changePortion else s2
  let s4 := ((s3.flushNotices).retestShort).staleDoorMaps
  let s5 := if moved || decide (s.facing ≠ s1.facing) then s4.staleAll else s4
  (if moved then s5.reformAll else s5).settle s

/-- The reply of Apply Formation (R82). -/
def State.applyReply (s : State) : List Byte :=
  flag s.attached ++ be 1 s.position ++ orFF (s.portion.map Portion.code) ++ be 1 s.facing.code
    ++ be 1 s.coachNumber ++ be 1 s.form.active.length

/-- Apply Formation's checks (R81). -/
def applyFormationBlock (b : List Byte) (s : State) : Answer :=
  if ¬ (b.length = 1 ∧ (u8 b 0 = 1 ∨ u8 b 0 = 2)) then refuse s .malformed
  else if s.form.staged.isEmpty then refuse s .wrongState
  else
    match firstClash s.form.staged with
    | some (j, f) => refuseWith s .conflict (be 1 j ++ be 1 f)
    | none =>
      if s.plan.state = .running ∧ ¬ s.appr.standstill then refuse s .wrongState
      else if ¬ s.portionAllowed then refuse s .wrongState
      else
        let s1 := s.applyFormation (TrainEnd.ofCode (u8 b 0))
        done s1 s1.applyReply

/-- APPLY_FORMATION (R81 to R83). -/
def execApplyFormation (p : Port) (payload : List Byte) (s : State) : Host.Outcome State Fault Refusal :=
  .next (serve p 0x32 payload id (applyFormationBlock payload) s)

/-! ### Set Leading End (R85) -/

/-- The leading end takes another value: an attached coach turns, and short-platform targets are tested
again (R85, R151). -/
def State.turnTrain (e : TrainEnd) (s : State) : State :=
  let s1 := { s with form := { s.form with lead := e } }
  if s.attached then (((s1.staleAll).raiseFormation false).retestShort).settle s else s1

/-- Set Leading End's checks and effect (R85). -/
def setLeadingEndBlock (b : List Byte) (s : State) : Answer :=
  if ¬ (b.length = 1 ∧ (u8 b 0 = 1 ∨ u8 b 0 = 2)) then refuse s .malformed
  else if s.plan.state = .running ∧ ¬ s.appr.standstill then refuse s .wrongState
  else
    let s1 := if s.form.lead = TrainEnd.ofCode (u8 b 0) then s else s.turnTrain (TrainEnd.ofCode (u8 b 0))
    done s1 (be 1 s1.form.lead.code ++ be 1 s1.position ++ be 1 s1.facing.code)

/-- SET_LEADING_END (R85). -/
def execSetLeadingEnd (p : Port) (payload : List Byte) (s : State) : Host.Outcome State Fault Refusal :=
  .next (serve p 0x33 payload id (setLeadingEndBlock payload) s)

/-! ### Layout banks (R89) -/

/-- One entry of one bank written. -/
def Formation.writeBank (f : Formation) (bankB : Bool) (addr : Nat) (x : LayoutEntry) : Formation :=
  if bankB then { f with bankB := f.bankB.set (addr - 1) x } else { f with bankA := f.bankA.set (addr - 1) x }

/-- Write Layout (R89). -/
def writeLayoutBlock (b : List Byte) (s : State) : Answer :=
  if ¬ (b.length = 4 ∧ u8 b 0 ≤ 1 ∧ 1 ≤ u8 b 1 ∧ u8 b 1 ≤ 24 ∧ u8 b 2 ≤ 2 ∧ u8 b 3 ≤ 1) then refuse s .malformed
  else
    let entry : LayoutEntry := ⟨Arrow.ofCode (u8 b 2), decide (u8 b 3 = 1)⟩
    let s1 := { s with form := s.form.writeBank (decide (u8 b 0 = 1)) (u8 b 1) entry }
    done (if u8 b 0 = s.facing.code then s1.staleWhere (fun x => x.addr = u8 b 1) else s1) []

/-- WRITE_LAYOUT (R89). -/
def execWriteLayout (p : Port) (payload : List Byte) (s : State) : Host.Outcome State Fault Refusal :=
  .next (serve p 0x35 payload id (writeLayoutBlock payload) s)

/-! ### Read Formation (R91) -/

/-- The formation view (R91). -/
def State.formationView (s : State) : List Byte :=
  be 1 s.form.lead.code ++ orFF (s.form.arrival.map TrainEnd.code) ++ flag s.attached ++ be 1 s.position
    ++ orFF (s.portion.map Portion.code) ++ be 1 s.facing.code ++ be 1 s.coachNumber ++ be 1 s.facing.code
    ++ be 1 s.form.active.length ++ s.form.active.flatMap CoachEntry.encode
    ++ be 1 s.form.staged.length ++ s.form.staged.flatMap CoachEntry.encode

/-- A layout entry on the wire (R91). -/
def LayoutEntry.encode (x : LayoutEntry) : List Byte := be 1 x.arrow.code ++ flag x.firstRight

/-- Read Formation (R91). -/
def readFormationBlock (b : List Byte) (s : State) : Answer :=
  if ¬ (b.length = 1 ∧ u8 b 0 ≤ 2) then refuse s .malformed
  else if u8 b 0 = 0 then done s s.formationView
  else if u8 b 0 = 1 then done s (s.form.bankA.flatMap LayoutEntry.encode)
  else done s (s.form.bankB.flatMap LayoutEntry.encode)

/-- READ_FORMATION (R91). -/
def execReadFormation (p : Port) (payload : List Byte) (s : State) : Host.Outcome State Fault Refusal :=
  .next (serve p 0x34 payload id (readFormationBlock payload) s)

end Sys2Proof.Machine
end

