-- ==== Sys2Proof/Machine/Seats.lean ====
section
/-!
DEFINITION. The commands of the Seat Table (chapter 5).
-/
namespace Sys2Proof.Machine

/-! ### Operands -/

/-- A seat number's range (5.1). -/
def seatNumberOk (n : Nat) : Bool := decide (1 ≤ n) && decide (n ≤ 999)

/-- A label phrase on the wire, or 0xFFFF for absent (R102, R126). -/
def labelOk (v : Nat) : Bool := decide (v < 1024) || decide (v = 0xFFFF)

/-- A payload that holds a seat number alone. -/
def seatPayloadOk (b : List Byte) : Bool := decide (b.length = 2) && seatNumberOk (u16 b 0)

/-- A seat change made by a command: the seat is handed on and its display is re-formed (R99, R111). -/
def State.changeSeat (num : Nat) (bays : List Nat) (s : State) : State :=
  (s.handSeats (bays.map fun bay => (num, bay))).reform fun x => x.number = num

/-! ### Define Seat (R94, R95) -/

/-- Whether a Define Seat payload is well formed (R94). -/
def defineSeatOk (b : List Byte) : Bool :=
  decide (b.length = 6) && decide (u8 b 0 ≤ 1) && seatNumberOk (u16 b 1) && decide (u8 b 3 ≤ 23)
    && decide (u8 b 4 ≤ 2) && decide (u8 b 5 ≤ 1)

/-- The two counts of Define Seat's reply (R94). -/
def State.seatCounts (s : State) (bay : Nat) : List Byte :=
  be 1 s.table.seats.length ++ be 1 (s.seatsOfBay bay).length

/-- A new seat, blocked flag clear, list empty (R94). -/
def newSeat (b : List Byte) : Seat where
  number := u16 b 1
  bay := u8 b 3
  category := SeatCategory.ofCode (u8 b 4)
  seatEnd := CoachEnd.ofCode (u8 b 5)
  blocked := false
  segments := []
  lastDisplay := none

/-- A seat redefined: it keeps its blocked flag, its list and its last display (R94). -/
def Seat.redefine (b : List Byte) (x : Seat) : Seat :=
  { x with bay := u8 b 3, category := SeatCategory.ofCode (u8 b 4), seatEnd := CoachEnd.ofCode (u8 b 5) }

/-- Changes the record of one seat number. -/
def State.updateSeat (num : Nat) (f : Seat → Seat) (s : State) : State :=
  let seats := s.table.seats.map fun x => if x.number = num then f x else x
  { s with table := { s.table with seats := seats } }

/-- A new seat joins after every seat already defined (R93, R94). -/
def State.addSeat (b : List Byte) (s : State) : State :=
  State.changeSeat (u16 b 1) [u8 b 3]
    { s with table := { s.table with seats := s.table.seats ++ [newSeat b] } }

/-- A seat takes its new definition; a redefinition to another bay hands both bays (R94, R99). -/
def State.redefineSeat (b : List Byte) (x : Seat) (s : State) : State :=
  (s.updateSeat (u16 b 1) (Seat.redefine b)).changeSeat (u16 b 1) [x.bay, u8 b 3]

/-- Define Seat with action 0 (R94). -/
def createSeat (b : List Byte) (s : State) : Answer :=
  let others := (s.seatsOfBay (u8 b 3)).filter fun x => x.number ≠ u16 b 1
  match s.seat? (u16 b 1) with
  | none =>
    if 96 ≤ s.table.seats.length ∨ 6 ≤ others.length then refuse s .noRoom
    else
      let s1 := s.addSeat b
      done s1 (s1.seatCounts (u8 b 3))
  | some x =>
    if ¬ x.segments.isEmpty then refuse s .conflict
    else if 6 ≤ others.length then refuse s .noRoom
    else
      let s1 := s.redefineSeat b x
      done s1 (s1.seatCounts (u8 b 3))

/-- A seat leaves the table; the seat is handed on (R95, R99). -/
def State.dropSeat (x : Seat) (s : State) : State :=
  ({ s with table := { s.table with
      seats := s.table.seats.filter fun y => y.number ≠ x.number } }).handSeats [(x.number, x.bay)]

/-- Define Seat with action 1 (R95). -/
def deleteSeat (b : List Byte) (s : State) : Answer :=
  match s.seat? (u16 b 1) with
  | none => refuse s .notFound
  | some x =>
    if ¬ x.segments.isEmpty then refuse s .conflict
    else
      let s1 := s.dropSeat x
      done s1 (s1.seatCounts x.bay)

/-- Define Seat: its action byte decides (R94, R95, log entry 24). -/
def defineSeatBlock (b : List Byte) (s : State) : Answer :=
  if ¬ defineSeatOk b then refuse s .malformed
  else if u8 b 0 = 0 then createSeat b s
  else deleteSeat b s

/-- DEFINE_SEAT (R94). -/
def execDefineSeat (p : Port) (payload : List Byte) (s : State) : Host.Outcome State Fault Refusal :=
  .next (serve p 0x40 payload id (defineSeatBlock payload) s)

/-- REMOVE_SEAT (R95). -/
def execRemoveSeat (p : Port) (payload : List Byte) (s : State) : Host.Outcome State Fault Refusal :=
  .next (serve p 0x40 payload id (defineSeatBlock payload) s)

/-! ### Block Seat (R96) -/

/-- A seat's blocked flag takes a value (R96). -/
def State.blockSeat (x : Seat) (value : Bool) (s : State) : State :=
  if x.blocked = value then s
  else (s.updateSeat x.number fun y => { y with blocked := value }).changeSeat x.number [x.bay]

/-- Block Seat's checks (R96). -/
def blockSeatBlock (b : List Byte) (s : State) : Answer :=
  if ¬ (b.length = 3 ∧ seatNumberOk (u16 b 0) ∧ u8 b 2 ≤ 1) then refuse s .malformed
  else
    match s.seat? (u16 b 0) with
    | none => refuse s .notFound
    | some x => done (s.blockSeat x (decide (u8 b 2 = 1))) (be 1 x.segments.length)

/-- BLOCK_SEAT (R96). -/
def execBlockSeat (p : Port) (payload : List Byte) (s : State) : Host.Outcome State Fault Refusal :=
  .next (serve p 0x41 payload id (blockSeatBlock payload) s)

/-! ### Put Segment (R102 to R104) -/

/-- Checks 4 to 6 of Put Segment for a leg: the status of the first that fails (R102, R103). -/
def State.legRefusal (s : State) (f t : Nat) : Option Status :=
  if ¬ (f < s.plan.stops.length ∧ t < s.plan.stops.length ∧ f < t) then some .malformed
  else
    match s.eff f, s.eff t with
    | some ef, some et =>
      if et ≤ ef then some .offRoute
      else if s.plan.state = .running ∧ ¬ (s.refStop.any fun r => r < et) then some .wrongState
      else none
    | _, _ => some .offRoute

/-- Whether the plan is READY or RUNNING (R102, R107, R128). -/
def State.plannable (s : State) : Bool := decide (s.plan.state = .ready) || decide (s.plan.state = .running)

/-- Whether a Put Segment payload is well formed (R102). -/
def putOk (b : List Byte) : Bool :=
  decide (b.length = 10) && seatNumberOk (u16 b 0) && decide (u8 b 2 < 48) && decide (u8 b 3 < 48)
    && decide (u8 b 4 ≤ 2) && labelOk (u16 b 7) && decide (u8 b 9 ≤ 1)

/-- The leg of a put as judged and stored, its from stop clamped (R103). -/
def State.putLeg (s : State) (b : List Byte) : Segment :=
  ⟨s.clampFrom (u8 b 2), u8 b 3, SegmentKind.ofCode (u8 b 4), u16 b 5, unlessEq 0xFFFF (u16 b 7), false⟩

/-- The segments of a list that a leg overlaps (R103). -/
def clashing (leg : Segment) (segs : List Segment) : List Segment := segs.filter fun g => leg.overlaps g

/-- The list of a seat after a put with the segments that it overlaps removed (R104). -/
def putList (leg : Segment) (segs : List Segment) : List Segment :=
  insertSegment leg (segs.filter fun g => !leg.overlaps g)

/-- An accepted put (R104). -/
def State.putSegment (x : Seat) (leg : Segment) (s : State) : State :=
  (s.setSegments x.number (putList leg x.segments)).changeSeat x.number [x.bay]

/-- The reply of an accepted put; s is the state after it (R104). -/
def State.putReply (s : State) (x : Seat) (leg : Segment) : List Byte :=
  be 1 leg.fromStop ++ be 1 (putList leg x.segments).length ++ be 2 s.table.free
    ++ be 1 (clashing leg x.segments).length ++ (clashing leg x.segments).flatMap fun g => be 2 g.tag

/-- Checks 7 and 8 of Put Segment, and the put (R103, R104). -/
def putBlock (b : List Byte) (x : Seat) (s : State) : Answer :=
  let leg := s.putLeg b
  let hit := clashing leg x.segments
  if ¬ hit.isEmpty ∧ u8 b 9 = 0 then refuse s .conflict
  else if 8 < (putList leg x.segments).length ∨ s.table.free + hit.length = 0 then refuse s .noRoom
  else done (s.putSegment x leg) ((s.putSegment x leg).putReply x leg)

/-- Put Segment's checks in order (R102, R103). -/
def putSegmentBlock (b : List Byte) (s : State) : Answer :=
  if ¬ putOk b then refuse s .malformed
  else if ¬ s.plannable then refuse s .wrongState
  else
    match s.seat? (u16 b 0) with
    | none => refuse s .notFound
    | some x =>
      if x.blocked then refuse s .conflict
      else
        match s.legRefusal (u8 b 2) (u8 b 3) with
        | some st => refuse s st
        | none => putBlock b x s

/-- PUT_SEGMENT (R102 to R104). -/
def execPutSegment (p : Port) (payload : List Byte) (s : State) : Host.Outcome State Fault Refusal :=
  .next (serve p 0x42 payload id (putSegmentBlock payload) s)

/-! ### Remove Segment and Clear Seat (R105, R106) -/

/-- A segment leaves the list of a seat (R105). -/
def State.removeSegment (x : Seat) (f : Nat) (s : State) : State :=
  (s.setSegments x.number (x.segments.eraseP fun g => g.fromStop = f)).changeSeat x.number [x.bay]

/-- Remove Segment's checks (R105). -/
def removeSegmentBlock (b : List Byte) (s : State) : Answer :=
  if ¬ (b.length = 3 ∧ seatNumberOk (u16 b 0) ∧ u8 b 2 < 48) then refuse s .malformed
  else
    match s.seat? (u16 b 0) with
    | none => refuse s .notFound
    | some x =>
      match x.segments.find? fun g => g.fromStop = u8 b 2 with
      | none => refuse s .notFound
      | some g => done (s.removeSegment x (u8 b 2)) (be 2 g.tag ++ be 1 g.kind.code)

/-- REMOVE_SEGMENT (R105). -/
def execRemoveSegment (p : Port) (payload : List Byte) (s : State) : Host.Outcome State Fault Refusal :=
  .next (serve p 0x43 payload id (removeSegmentBlock payload) s)

/-- Every segment of a seat leaves its list (R106). -/
def State.clearSeat (x : Seat) (s : State) : State :=
  if x.segments.isEmpty then s else (s.setSegments x.number []).changeSeat x.number [x.bay]

/-- Clear Seat (R106). -/
def clearSeatBlock (b : List Byte) (s : State) : Answer :=
  if ¬ seatPayloadOk b then refuse s .malformed
  else
    match s.seat? (u16 b 0) with
    | none => refuse s .notFound
    | some x => done (s.clearSeat x) (be 1 x.segments.length ++ be 2 (s.clearSeat x).table.free)

/-- CLEAR_SEAT (R106). -/
def execClearSeat (p : Port) (payload : List Byte) (s : State) : Host.Outcome State Fault Refusal :=
  .next (serve p 0x44 payload id (clearSeatBlock payload) s)

/-! ### Move Seat (R107, R108) -/

/-- Whether a segment of seat a moves: not stranded, eff(to) above R (R107). -/
def State.moves (s : State) (g : Segment) : Bool :=
  !g.stranded && match s.eff g.toStop, s.refStop with
    | some t, some r => decide (r < t)
    | _, _ => false

/-- The moving segments of seat a, their from stops clamped (R107). -/
def State.moving (s : State) (x : Seat) : List Segment :=
  (x.segments.filter s.moves).map fun g => { g with fromStop := s.clampFrom g.fromStop }

/-- The segments that stay in seat a (R108). -/
def State.staying (s : State) (x : Seat) : List Segment := x.segments.filter fun g => !s.moves g

/-- Segments joined to a list, each at its place (R97, R108). -/
def joinSegments (new segs : List Segment) : List Segment := new.foldl (fun l g => insertSegment g l) segs

/-- The list of each seat after a move from x to y (R108). -/
def State.movedList (s : State) (x y z : Seat) : List Segment :=
  if z.number = x.number then s.staying z
  else if z.number = y.number then joinSegments (s.moving x) z.segments
  else z.segments

/-- An accepted move; one with no moving segment changes nothing (R107, R108). -/
def State.moveSeat (x y : Seat) (s : State) : State :=
  if (s.moving x).isEmpty then s
  else
    ((s.relist (s.movedList x y)).changeSeat x.number [x.bay]).changeSeat y.number [y.bay]

/-- The first segment of seat b that a moving segment overlaps (R107). -/
def State.moveClash (s : State) (x y : Seat) : Option Segment :=
  y.segments.find? fun g => (s.moving x).any fun m => m.overlaps g

/-- Move Seat's checks (R107).  They are made in their order for a move with no moving segments too, so that
one into a blocked seat is answered CONFLICT (log entry 41). -/
def moveSeatBlock (b : List Byte) (s : State) : Answer :=
  if ¬ (b.length = 4 ∧ seatNumberOk (u16 b 0) ∧ seatNumberOk (u16 b 2) ∧ u16 b 0 ≠ u16 b 2) then
    refuse s .malformed
  else if ¬ s.plannable ∨ ¬ s.hasRoute then refuse s .wrongState
  else
    match s.seat? (u16 b 0), s.seat? (u16 b 2) with
    | some x, some y =>
      if y.blocked then refuseWith s .conflict (be 1 0 ++ be 1 0xFF)
      else if 8 < y.segments.length + (s.moving x).length then refuseWith s .conflict (be 1 1 ++ be 1 0xFF)
      else
        match s.moveClash x y with
        | some g => refuseWith s .conflict (be 1 2 ++ be 1 g.fromStop)
        | none =>
          done (s.moveSeat x y) (be 1 (s.moving x).length ++ be 1 (s.staying x).length
            ++ be 1 (y.segments.length + (s.moving x).length))
    | _, _ => refuse s .notFound

/-- MOVE_SEAT (R107, R108). -/
def execMoveSeat (p : Port) (payload : List Byte) (s : State) : Host.Outcome State Fault Refusal :=
  .next (serve p 0x45 payload id (moveSeatBlock payload) s)

/-! ### Reading seats (R119, R120) -/

/-- The payload of Read Seat's reply (R119). -/
def State.seatReply (s : State) (x : Seat) : List Byte := s.seatEntry x ++ s.seatTail

/-- Read Seat (R119). -/
def readSeatBlock (b : List Byte) (s : State) : Answer :=
  if ¬ seatPayloadOk b then refuse s .malformed
  else
    match s.seat? (u16 b 0) with
    | none => refuse s .notFound
    | some x => done s (s.seatReply x)

/-- READ_SEAT (R119). -/
def execReadSeat (p : Port) (payload : List Byte) (s : State) : Host.Outcome State Fault Refusal :=
  .next (serve p 0x46 payload id (readSeatBlock payload) s)

/-- The payload of Read Bay's reply (R120). -/
def State.bayReply (s : State) (bay : Nat) : List Byte :=
  be 1 bay ++ be 1 (s.seatsOfBay bay).length ++ (s.seatsOfBay bay).flatMap s.seatEntry ++ s.seatTail

/-- Read Bay (R120). -/
def readBayBlock (b : List Byte) (s : State) : Answer :=
  if ¬ (b.length = 1 ∧ u8 b 0 ≤ 23) then refuse s .malformed else done s (s.bayReply (u8 b 0))

/-- READ_BAY (R120). -/
def execReadBay (p : Port) (payload : List Byte) (s : State) : Host.Outcome State Fault Refusal :=
  .next (serve p 0x47 payload id (readBayBlock payload) s)

end Sys2Proof.Machine
end

