-- ==== Sys2Proof/Machine/Gateway.lean ====
section
/-!
DEFINITION. The commands of the Hold and Mark Unit (chapter 6).
-/
namespace Sys2Proof.Machine

/-! ### Held Read (R123) -/

/-- Held Read: the reading of Read Seat, and the port's hold (R123). -/
def heldReadBlock (p : Port) (b : List Byte) (s : State) : Answer :=
  if ¬ seatPayloadOk b then refuse s .malformed
  else
    match s.seat? (u16 b 0) with
    | none => refuse s .notFound
    | some x => done (s.setHold p (.standing (u16 b 0))) (s.seatReply x)

/-- HELD_READ (R123). -/
def execHeldRead (p : Port) (payload : List Byte) (s : State) : Host.Outcome State Fault Refusal :=
  .next (serve p 0x48 payload id (heldReadBlock p payload) s)

/-! ### Commit Seat (R126 to R130) -/

/-- The segment count of a Commit Seat payload. -/
def commitCount (b : List Byte) : Nat := u8 b 2

/-- Where segment i of a Commit Seat payload begins (R126). -/
def legAt (i : Nat) : Nat := 3 + 7 * i

/-- Whether segment i lies within its codings (R126). -/
def commitLegOk (b : List Byte) (i : Nat) : Bool :=
  decide (u8 b (legAt i) < 48) && decide (u8 b (legAt i + 1) < 48) && decide (u8 b (legAt i + 2) ≤ 2)
    && labelOk (u16 b (legAt i + 5))

/-- Whether a Commit Seat payload is well formed (R126). -/
def commitOk (b : List Byte) : Bool :=
  decide (3 ≤ b.length) && seatNumberOk (u16 b 0) && decide (commitCount b ≤ 8)
    && decide (b.length = 3 + 7 * commitCount b) && (List.range (commitCount b)).all (commitLegOk b)

/-- The reason a STALE refusal carries; none when the hold stands on the seat (R127). -/
def Hold.staleReason (num : Nat) : Hold → Option Nat
  | .absent => some 0
  | .standing n => if n = num then none else some 1
  | .broken n => if n = num then some 2 else some 1

/-- Check 3 of a commit: the first segment that fails, with its status and index (R128). -/
def State.commitLegRefusal (s : State) (b : List Byte) : Option (Status × Nat) :=
  (List.range (commitCount b)).findSome? fun i =>
    (s.legRefusal (u8 b (legAt i)) (u8 b (legAt i + 1))).map fun st => (st, i)

/-- Segment i of a commit as judged and stored, its from stop clamped (R128). -/
def State.commitLeg (s : State) (b : List Byte) (i : Nat) : Segment where
  fromStop := s.clampFrom (u8 b (legAt i))
  toStop := u8 b (legAt i + 1)
  kind := SegmentKind.ofCode (u8 b (legAt i + 2))
  tag := u16 b (legAt i + 3)
  label := unlessEq 0xFFFF (u16 b (legAt i + 5))
  stranded := false

/-- The segments of a commit in the order given (R128). -/
def State.commitLegs (s : State) (b : List Byte) : List Segment :=
  (List.range (commitCount b)).map (s.commitLeg b)

/-- The first clashing pair of a list of segments: lowest first index, then lowest second (R128). -/
def firstOverlap (segs : List Segment) : Option (Nat × Nat) :=
  (List.range segs.length).findSome? fun i =>
    (List.range segs.length).findSome? fun j =>
      match segs[i]?, segs[j]? with
      | some x, some y => if i < j && x.overlaps y then some (i, j) else none
      | _, _ => none

/-- The list that an accepted commit stores, by from stop (R129). -/
def State.commitList (s : State) (b : List Byte) : List Segment := joinSegments (s.commitLegs b) []

/-- An accepted commit; an empty one on an empty list hands nothing on (R129). -/
def State.commitSeat (x : Seat) (b : List Byte) (s : State) : State :=
  if x.segments.isEmpty ∧ commitCount b = 0 then s
  else (s.setSegments x.number (s.commitList b)).changeSeat x.number [x.bay]

/-- The reply of an accepted commit; before and after it (R129). -/
def State.commitReply (s after : State) (x : Seat) (b : List Byte) : List Byte :=
  be 1 x.segments.length ++ be 1 (commitCount b) ++ be 2 after.table.free
    ++ (s.commitList b).flatMap fun g => be 1 g.fromStop

/-- The checks of R128 on a seat whose hold stands. -/
def commitChecks (b : List Byte) (x : Seat) (s : State) : Answer :=
  if commitCount b ≠ 0 ∧ ¬ s.plannable then refuse s .wrongState
  else if commitCount b ≠ 0 ∧ x.blocked then refuseWith s .conflict (be 1 0)
  else
    match s.commitLegRefusal b with
    | some (st, i) => refuseWith s st (be 1 i)
    | none =>
      match firstOverlap (s.commitLegs b) with
      | some (i, j) => refuseWith s .conflict (be 1 1 ++ be 1 i ++ be 1 j)
      | none =>
        if s.table.free + x.segments.length < commitCount b then refuse s .noRoom
        else done (s.commitSeat x b) (s.commitReply (s.commitSeat x b) x b)

/-- Commit Seat's checks in order (R127, R128).  The seat of a standing hold is always defined (R127);
NOT_FOUND answers no state that a run reaches (log entry 27).  The hold comes first with the plan EMPTY
too: after a Clear Plan a commit is STALE under the hold it broke, and WRONG_STATE, as R28 has it, where the
hold check passes (log entry 44). -/
def commitBlock (p : Port) (b : List Byte) (s : State) : Answer :=
  if ¬ commitOk b then refuse s .malformed
  else
    match (s.holds.get p).staleReason (u16 b 0) with
    | some r => refuseWith s .stale (be 1 r)
    | none =>
      match s.seat? (u16 b 0) with
      | none => refuse s .notFound
      | some x => commitChecks b x s

/-- COMMIT_SEAT: whatever the outcome, the port's hold becomes ABSENT (R126 to R130). -/
def execCommitSeat (p : Port) (payload : List Byte) (s : State) : Host.Outcome State Fault Refusal :=
  .next (serve p 0x49 payload (State.setHold p .absent) (commitBlock p payload) s)

/-! ### Take Marks (R134) -/

/-- A hold on the wire: the seat, then the state (6.1). -/
def Hold.encode : Hold → List Byte
  | .absent => be 2 0 ++ be 1 0
  | .standing n => be 2 n ++ be 1 1
  | .broken n => be 2 n ++ be 1 2

/-- The clear set of a Take Marks payload (R134). -/
def clearSet (b : List Byte) : BitVec 24 := BitVec.ofNat 24 (u24 b 0)

/-- The marks of the bays named become clear (R134). -/
def State.takeMarks (named : BitVec 24) (s : State) : State :=
  { s with holds := { s.holds with marks := s.holds.marks &&& ~~~named } }

/-- Take Marks (R134). -/
def takeMarksBlock (p : Port) (b : List Byte) (s : State) : Answer :=
  if b.length ≠ 3 then refuse s .malformed
  else
    done (s.takeMarks (clearSet b)) (be 3 s.holds.marks.toNat
      ++ be 3 (s.takeMarks (clearSet b)).holds.marks.toNat ++ (s.holds.get p).encode)

/-- TAKE_MARKS (R134). -/
def execTakeMarks (p : Port) (payload : List Byte) (s : State) : Host.Outcome State Fault Refusal :=
  .next (serve p 0x4A payload id (takeMarksBlock p payload) s)

end Sys2Proof.Machine
end

