-- ==== Sys2Proof/Machine/Notices.lean ====
section
/-!
DEFINITION. The commands of the Notice Sequencer (chapter 7).
-/
namespace Sys2Proof.Machine

/-! ### Post Notice (R142, R143) -/

/-- Where item i of a Post Notice payload begins. -/
def itemAt (i : Nat) : Nat := 9 + 3 * i

/-- Item i of a Post Notice payload; none outside its coding (R140, R142). -/
def postedItem (b : List Byte) (i : Nat) : Option Item := Item.decode (u8 b (itemAt i)) (u16 b (itemAt i + 1))

/-- The item count of a Post Notice payload. -/
def itemCount (b : List Byte) : Nat := u8 b 8

/-- Whether a Post Notice payload is well formed (R142). -/
def postOk (b : List Byte) : Bool :=
  decide (9 ≤ b.length) && decide (b.length = 9 + 3 * itemCount b)
    && (decide (u8 b 0 = 0) || decide (u8 b 0 = 1) || decide (u8 b 0 = 3)) && decide (1 ≤ u16 b 1)
    && decide (1 ≤ u8 b 3) && decide (u8 b 3 ≤ 3) && decide (u8 b 5 < 16) && decide (u16 b 6 ≤ 3600)
    && decide (1 ≤ itemCount b) && decide (itemCount b ≤ 6)
    && (List.range (itemCount b)).all (fun i => (postedItem b i).isSome)
    && (decide (u8 b 0 ≠ 0) || decide (u16 b 6 = 0))

/-- The notice of a Post Notice payload: dwell clamped, mask 0 for all four languages, validity its
expiry (R142, R143). -/
def postedNotice (b : List Byte) : Notice where
  cls := NoticeClass.ofCode (u8 b 0)
  tag := u16 b 1
  kind := none
  stop := none
  items := (List.range (itemCount b)).filterMap (postedItem b)
  repeats := u8 b 3
  dwell := max 3 (min 30 (u8 b 4))
  mask := if u8 b 5 = 0 then BitVec.allOnes 4 else BitVec.ofNat 4 (u8 b 5)
  validity := if u16 b 6 = 0 then .unlimited else .limit (1000 * u16 b 6)
  cycles := 0
  lang := 0

/-- Whether a notice carries a tag; journey notices have none (7.1). -/
def Notice.hasTag (tag : Nat) (n : Notice) : Bool := n.kind.isNone && decide (n.tag = tag)

/-- Whether a posted notice that goes to the queue finds no room there (R143, R153, R154). -/
def postNoRoom (c : NoticeClass) (q : List Notice) : Bool :=
  match c with
  | .service => decide (16 ≤ q.length) && decide (lowerCount q = 0)
  | _ => queueFull q

/-- The reply of Post Notice; queued says where the notice went (R143). -/
def State.postReply (s : State) (queued : Bool) : List Byte :=
  flag queued ++ be 1 s.seq.queue.length ++ be 1 s.level

/-- The own checks of Post Notice, and the placing (R143). -/
def postNoticeBlock (b : List Byte) (s : State) : Answer :=
  if ¬ postOk b then refuse s .malformed
  else if s.seq.all.any (Notice.hasTag (u16 b 1)) then refuse s .conflict
  else if s.goesToQueue (postedNotice b).cls && postNoRoom (postedNotice b).cls s.seq.queue then
    refuse s .noRoom
  else
    let s1 := (s.place (postedNotice b)).settle s
    done s1 (s1.postReply (s.goesToQueue (postedNotice b).cls))

/-- POST_NOTICE (R142, R143). -/
def execPostNotice (p : Port) (payload : List Byte) (s : State) : Host.Outcome State Fault Refusal :=
  .next (serve p 0x50 payload id (postNoticeBlock payload) s)

/-! ### Withdraw Notice and Clear Alarm (R144, R145) -/

/-- The place of the notice with a tag: 0 active, 1 and 2 the slots, 3 the queue (R144). -/
def Sequencer.placeOf (tag : Nat) (q : Sequencer) : Option (Nat × Notice) :=
  (q.active.filter (Notice.hasTag tag)).map (fun n => (0, n))
    <|> (q.slot1.filter (Notice.hasTag tag)).map (fun n => (1, n))
    <|> (q.slot2.filter (Notice.hasTag tag)).map (fun n => (2, n))
    <|> (q.queue.find? (Notice.hasTag tag)).map (fun n => (3, n))

/-- The notice with a tag leaves the place it is in (R144). -/
def State.withdraw (tag place : Nat) (s : State) : State :=
  if place = 0 then s.endActive
  else if place = 1 then { s with seq := { s.seq with slot1 := none } }
  else if place = 2 then { s with seq := { s.seq with slot2 := none } }
  else { s with seq := { s.seq with queue := s.seq.queue.eraseP (Notice.hasTag tag) } }

/-- Withdraw Notice (R144). -/
def withdrawBlock (p : Port) (b : List Byte) (s : State) : Answer :=
  if ¬ (b.length = 2 ∧ 1 ≤ u16 b 0) then refuse s .malformed
  else
    match s.seq.placeOf (u16 b 0) with
    | none => refuse s .notFound
    | some (k, n) =>
      if p = .content ∧ n.cls ≠ .information then refuse s .privilege
      else
        let s1 := (s.withdraw (u16 b 0) k).settle s
        done s1 (be 1 k ++ be 1 s1.level)

/-- WITHDRAW_NOTICE (R144). -/
def execWithdrawNotice (p : Port) (payload : List Byte) (s : State) : Host.Outcome State Fault Refusal :=
  .next (serve p 0x51 payload id (withdrawBlock p payload) s)

/-- The reply of Clear Alarm (R145). -/
def State.clearAlarmReply (s : State) : List Byte :=
  be 1 s.level ++ orFF (s.seq.active.map fun n => n.cls.code)

/-- Clear Alarm (R145). -/
def clearAlarmBlock (s : State) : Answer :=
  if s.level ≠ 2 then refuse s .wrongState
  else
    let s1 := s.endActive.settle s
    done s1 s1.clearAlarmReply

/-- CLEAR_ALARM (R145). -/
def execClearAlarm (p : Port) (payload : List Byte) (s : State) : Host.Outcome State Fault Refusal :=
  .next (serve p 0x52 payload id (emptyPayload payload clearAlarmBlock) s)

/-! ### Read Notices (R165) -/

/-- The payload of Read Notices' reply (R165). -/
def State.noticesReply (s : State) : List Byte :=
  be 1 s.level ++ encodePlace s.seq.active ++ encodePlace s.seq.slot1 ++ encodePlace s.seq.slot2
    ++ be 1 s.seq.queue.length ++ s.seq.queue.flatMap (Notice.encode true)

/-- READ_NOTICES (R165). -/
def execReadNotices (p : Port) (payload : List Byte) (s : State) : Host.Outcome State Fault Refusal :=
  .next (serve p 0x53 payload id (emptyPayload payload fun s => done s s.noticesReply) s)

/-! ### Timers (R139, R162) -/

/-- A language cycle of a notice completes: the count and the next language (R139). -/
def Notice.step (n : Notice) : Notice :=
  { n with cycles := min 255 (n.cycles + 1), lang := nextLang n.mask n.lang }

/-- Whether a notice has been shown in full; an ALARM never has (R139). -/
def Notice.completed (n : Notice) : Bool :=
  decide (n.cls ≠ .alarm) && decide (n.cycles = (maskLangs n.mask).length * n.repeats)

/-- The dwell of the active notice runs out (R139). -/
def State.dwellExpiry (s : State) : State :=
  match s.seq.active with
  | none => s
  | some n =>
    if n.step.completed then (s.endActive).settle s
    else
      { s with seq := { s.seq with active := some n.step, dwellLeft := 1000 * n.dwell } }.staleBanners

/-- DWELL_EXPIRY (R139). -/
def execDwellExpiry (s : State) : Host.Outcome State Fault Refusal := .next (live State.dwellExpiry s)

/-- Whether a notice is the one named and has a time limit (R162). -/
def Notice.limitOf (ref : NoticeRef) (n : Notice) : Bool :=
  (match n.validity with
    | .limit _ => true
    | _ => false)
  && match ref with
    | .posted tag => n.hasTag tag
    | .journey k stop => decide (n.kind = some k) && decide (n.stop = some stop)

/-- The time limit of the notice named runs out (R162, log entry 30). -/
def State.validityExpiry (ref : NoticeRef) (s : State) : State := (s.endNotices (Notice.limitOf ref)).settle s

/-- NOTICE_VALIDITY_EXPIRY (R162). -/
def execNoticeValidityExpiry (ref : NoticeRef) (s : State) : Host.Outcome State Fault Refusal :=
  .next (live (State.validityExpiry ref) s)

end Sys2Proof.Machine
end

