-- ==== Sys2Proof/Machine/Phrases.lean ====
section
/-!
DEFINITION. The commands of the Phrase Store (chapter 8).
-/
namespace Sys2Proof.Machine

/-! ### The latch (R171, R172) -/

/-- Clears the write-enable latch (R171). -/
def State.clearLatch (s : State) : State := { s with store := { s.store with latch := false } }

/-- STORE_UNLOCK (R172). -/
def execStoreUnlock (p : Port) (payload : List Byte) (s : State) : Host.Outcome State Fault Refusal :=
  .next (serve p 0x60 payload id
    (emptyPayload payload fun s => done { s with store := { s.store with latch := true } } []) s)

/-! ### Programming (R173, R174) -/

/-- Whether a Write Phrase payload is well formed (R173). -/
def writeOk (b : List Byte) : Bool :=
  decide (4 ≤ b.length) && decide (b.length ≤ 123) && decide (u16 b 0 < 1024) && decide (u8 b 2 < 4)
    && utf8 (b.drop 3)

/-- Whether a program may start beside the operation under way (R173 check 3). -/
def Store.programAllowed (st : Store) (phrase : Nat) : Bool :=
  match st.op with
  | .idle => true
  | .eraseHeld _ => !st.underErase (sectorOf phrase)
  | _ => false

/-- The store state with a program started (R174). -/
def StoreOp.withProgram (pr : Program) : StoreOp → StoreOp
  | .eraseHeld er => .heldProgramming er pr
  | _ => .programming pr

/-- An accepted program: the entry leaves ERASED and holds data without its written marker until the
program completes (R167, R174, log entry 29). -/
def Store.startProgram (phrase lang : Nat) (text : List Byte) (st : Store) : Store :=
  { st with
    entries := putEntry (entryKey phrase lang) .torn st.entries
    op := st.op.withProgram ⟨phrase, lang, text, 2⟩ }

/-- Write Phrase's checks (R173). -/
def writePhraseBlock (b : List Byte) (s : State) : Answer :=
  if ¬ writeOk b then refuse s .malformed
  else if ¬ s.store.latch then refuse s .notEnabled
  else if s.store.isProtected (sectorOf (u16 b 0)) then refuse s .locked
  else if ¬ s.store.programAllowed (u16 b 0) then refuse s .busy
  else if (s.store.get (u16 b 0) (u8 b 2)).isSome ∨ s.store.isIncomplete (sectorOf (u16 b 0)) then
    refuse s .notErased
  else
    done { s with store := s.store.startProgram (u16 b 0) (u8 b 2) (b.drop 3) }
      (be 2 (u16 b 0) ++ be 1 (u8 b 2))

/-- WRITE_PHRASE: whatever the outcome, the latch is cleared (R171, R173, R174). -/
def execWritePhrase (p : Port) (payload : List Byte) (s : State) : Host.Outcome State Fault Refusal :=
  .next (serve p 0x61 payload State.clearLatch (writePhraseBlock payload) s)

/-- The store state after a program (R174). -/
def StoreOp.afterProgram : StoreOp → StoreOp
  | .heldProgramming er _ => .eraseHeld er
  | _ => .idle

/-- A program completes in the store: its entry is VALID (R174). -/
def Store.finishProgram (pr : Program) (st : Store) : Store :=
  { st with
    entries := putEntry (entryKey pr.phrase pr.lang) (.valid pr.text) st.entries
    op := st.op.afterProgram }

/-- A Read Phrase that waited on a port is answered (R174, R187). -/
def State.answerDeferred (p : Port) (s : State) : State :=
  match (s.port p).service with
  | .deferred phrase lang => s.answer p 0x65 .done (s.store.readPayload phrase lang)
  | _ => s

/-- The completion of a program (R174): STORE_DONE, the reads that waited, then the incomplete panels
(R182). -/
def State.programComplete (pr : Program) (s : State) : State :=
  let s1 := ({ s with store := s.store.finishProgram pr }).raise (.storeDone false pr.phrase)
  (((s1.launchWaiting).answerDeferred .operations).answerDeferred .content).restaleIncomplete

/-- PROGRAM_COMPLETE (R174). -/
def execProgramComplete (s : State) : Host.Outcome State Fault Refusal :=
  .next (live (fun s =>
    match s.store.op.program? with
    | some pr => s.programComplete pr
    | none => s) s)

/-! ### Erasing (R175, R176) -/

/-- Whether two bytes name a range of sectors (R175, R183). -/
def rangeOk (b : List Byte) : Bool := decide (u8 b 1 < 128) && decide (u8 b 0 ≤ u8 b 1)

/-- The lowest protected sector of a range (R175). -/
def Store.lowestProtected (st : Store) (first last : Nat) : Option Nat :=
  (List.range 128).find? fun i => decide (first ≤ i) && decide (i ≤ last) && st.isProtected i

/-- An accepted erase: the range is held and its first sector's erase begins (R176, R168). -/
def Store.startErase (first last : Nat) (st : Store) : Store :=
  { st.startSector first with op := .erasing ⟨first, last, first, 200⟩ }

/-- Erase Sectors' checks (R175). -/
def eraseSectorsBlock (b : List Byte) (s : State) : Answer :=
  if ¬ (b.length = 2 ∧ rangeOk b) then refuse s .malformed
  else if ¬ s.store.latch then refuse s .notEnabled
  else
    match s.store.lowestProtected (u8 b 0) (u8 b 1) with
    | some i => refuseWith s .locked (be 1 i)
    | none =>
      if s.store.op ≠ .idle then refuse s .busy
      else
        done { s with store := s.store.startErase (u8 b 0) (u8 b 1) } (be 1 (u8 b 1 + 1 - u8 b 0))

/-- ERASE_SECTORS: whatever the outcome, the latch is cleared (R171, R175, R176). -/
def execEraseSectors (p : Port) (payload : List Byte) (s : State) : Host.Outcome State Fault Refusal :=
  .next (serve p 0x62 payload State.clearLatch (eraseSectorsBlock payload) s)

/-- The erase of the next sector of the range begins (R176). -/
def Store.nextSector (er : Erase) (st : Store) : Store :=
  { st.startSector (er.current + 1) with op := .erasing { er with current := er.current + 1, left := 200 } }

/-- The current sector's erasing time is used up (R176). -/
def State.sectorFinish (er : Erase) (s : State) : State :=
  let st := s.store.finishSector er.current
  if er.current < er.last then { s with store := st.nextSector er }
  else
    (({ s with store := { st with op := .idle } }).raise (.storeDone true er.last)).restaleIncomplete

/-- SECTOR_ERASE_FINISH (R176). -/
def execSectorEraseFinish (s : State) : Host.Outcome State Fault Refusal :=
  .next (live (fun s =>
    match s.store.op with
    | .erasing er => s.sectorFinish er
    | _ => s) s)

/-! ### Hold Erase and Resume Erase (R177, R178) -/

/-- The reply of both (R177, R178). -/
def Erase.progress (er : Erase) : List Byte := be 1 er.current ++ be 1 er.toGo

/-- Gives the store an operation state. -/
def State.setOp (op : StoreOp) (s : State) : State := { s with store := { s.store with op := op } }

/-- Hold Erase (R177). -/
def holdEraseBlock (s : State) : Answer :=
  match s.store.op with
  | .erasing er => done (s.setOp (.eraseHeld er)) er.progress
  | _ => refuse s .wrongState

/-- HOLD_ERASE (R177). -/
def execHoldErase (p : Port) (payload : List Byte) (s : State) : Host.Outcome State Fault Refusal :=
  .next (serve p 0x63 payload id (emptyPayload payload holdEraseBlock) s)

/-- Resume Erase (R178). -/
def resumeEraseBlock (s : State) : Answer :=
  match s.store.op with
  | .eraseHeld er => done (s.setOp (.erasing er)) er.progress
  | .heldProgramming _ _ => refuse s .busy
  | _ => refuse s .wrongState

/-- RESUME_ERASE (R178). -/
def execResumeErase (p : Port) (payload : List Byte) (s : State) : Host.Outcome State Fault Refusal :=
  .next (serve p 0x64 payload id (emptyPayload payload resumeEraseBlock) s)

/-! ### Reading (R187, R188) -/

/-- Read Phrase: a running erase is suspended for the read, and a program under way is waited for
(R187, R179). -/
def readPhraseBlock (b : List Byte) (s : State) : Answer :=
  if ¬ (b.length = 3 ∧ u16 b 0 < 1024 ∧ u8 b 2 < 4) then refuse s .malformed
  else if s.store.op.program?.isSome then .defer s (u16 b 0) (u8 b 2)
  else done s.suspendErase (s.store.readPayload (u16 b 0) (u8 b 2))

/-- READ_PHRASE (R187). -/
def execReadPhrase (p : Port) (payload : List Byte) (s : State) : Host.Outcome State Fault Refusal :=
  .next (serve p 0x65 payload id (readPhraseBlock payload) s)

/-- The erase part of Read Store's reply (R188). -/
def StoreOp.eraseReply (op : StoreOp) : List Byte :=
  orFF (op.erase?.map Erase.first) ++ orFF (op.erase?.map Erase.last) ++ orFF (op.erase?.map Erase.current)
    ++ be 1 ((op.erase?.map Erase.toGo).getD 0) ++ be 2 ((op.erase?.map Erase.left).getD 0)

/-- The payload of Read Store's reply (R188). -/
def Store.reply (st : Store) : List Byte :=
  be 1 st.op.code ++ flag st.latch ++ flag st.fixedLock ++ st.op.eraseReply
    ++ orFFFF (st.op.program?.map Program.phrase) ++ orFF (st.op.program?.map Program.lang)
    ++ be 16 st.locks.toNat ++ be 2 st.tornCount ++ be 1 st.incompleteCount

/-- READ_STORE (R188). -/
def execReadStore (p : Port) (payload : List Byte) (s : State) : Host.Outcome State Fault Refusal :=
  .next (serve p 0x66 payload id (emptyPayload payload fun s => done s s.store.reply) s)

/-! ### Protection (R183, R184) -/

/-- The lock bits of a range of sectors. -/
def rangeMask (first last : Nat) : BitVec 128 :=
  (List.range 128).foldl (fun m i => if first ≤ i ∧ i ≤ last then m ||| sectorBit i else m) 0

/-- The lock bits with those of a range given a value (R183). -/
def Store.lockBits (st : Store) (first last : Nat) (value : Bool) : BitVec 128 :=
  if value then st.locks ||| rangeMask first last else st.locks &&& ~~~(rangeMask first last)

/-- How many sectors have different lock bits in two masks (R183). -/
def bitsChanged (x y : BitVec 128) : Nat := (List.range 128).countP fun i => x.getLsbD i != y.getLsbD i

/-- Lock Sectors (R183). -/
def lockSectorsBlock (b : List Byte) (s : State) : Answer :=
  if ¬ (b.length = 3 ∧ rangeOk b ∧ u8 b 2 ≤ 1) then refuse s .malformed
  else if s.store.fixedLock ∧ u8 b 0 < 8 then refuse s .locked
  else if s.store.op ≠ .idle then refuse s .busy
  else
    let bits := s.store.lockBits (u8 b 0) (u8 b 1) (decide (u8 b 2 = 1))
    done { s with store := { s.store with locks := bits } } (be 1 (bitsChanged s.store.locks bits))

/-- LOCK_SECTORS (R183). -/
def execLockSectors (p : Port) (payload : List Byte) (s : State) : Host.Outcome State Fault Refusal :=
  .next (serve p 0x67 payload id (lockSectorsBlock payload) s)

/-- Lock Fixed Area (R184). -/
def lockFixedBlock (s : State) : Answer :=
  if s.store.op ≠ .idle then refuse s .busy
  else done { s with store := { s.store with fixedLock := true } } (flag s.store.fixedLock)

/-- LOCK_FIXED_AREA (R184). -/
def execLockFixedArea (p : Port) (payload : List Byte) (s : State) : Host.Outcome State Fault Refusal :=
  .next (serve p 0x68 payload id (emptyPayload payload lockFixedBlock) s)

end Sys2Proof.Machine
end

