-- ==== Sys2Proof/Machine/Panels.lean ====
section
/-!
DEFINITION. The commands of the Panel Line Controller (chapter 9).
-/
namespace Sys2Proof.Machine

/-! ### Define Panel (R192, R197, R198) -/

/-- Whether a parameter lies within the coding of its kind (R192). -/
def paramOk (kind param : Nat) : Bool :=
  if kind = 0 then decide (param ≤ 23) else if kind = 1 then decide (param ≤ 1) else decide (param = 0)

/-- Whether a Define Panel payload is well formed (R192). -/
def definePanelOk (b : List Byte) : Bool :=
  decide (b.length = 4) && decide (u8 b 0 ≤ 1) && decide (1 ≤ u8 b 1) && decide (u8 b 1 ≤ 24)
    && decide (u8 b 2 ≤ 2) && paramOk (u8 b 2) (u8 b 3)

/-- How many records of a kind the table holds, an address left out. -/
def PanelLine.othersOf (l : PanelLine) (k : PanelKind) (addr : Nat) : Nat :=
  l.panels.countP fun x => decide (x.kind = k) && decide (x.addr ≠ addr)

/-- Whether the limit of a kind would be passed (R191, R192). -/
def PanelLine.kindFull (l : PanelLine) (k : PanelKind) (addr : Nat) : Bool :=
  decide (k ≠ .seatStrip) && decide (4 ≤ l.othersOf k addr)

/-- A record newly defined (R192). -/
def newPanel (addr : Nat) (k : PanelKind) (param : Nat) : Panel where
  addr := addr
  kind := k
  param := param
  state := .idle
  stale := true
  miss := 0
  incomplete := false
  bright := none
  probe := .stopped

/-- A record takes a new definition, its stale flag set (R192). -/
def Panel.redefine (k : PanelKind) (param : Nat) (x : Panel) : Panel :=
  { x with kind := k, param := param, stale := true }

/-- A record created or changed (R192). -/
def State.putPanel (addr : Nat) (k : PanelKind) (param : Nat) (s : State) : State :=
  match s.line.panel? addr with
  | some _ => s.updatePanel addr (Panel.redefine k param)
  | none => { s with line := { s.line with panels := insertPanel (newPanel addr k param) s.line.panels } }

/-- The answer to a frame in flight to an address is to be discarded (R197, R198). -/
def Frame.discardFor (addr : Nat) (fr : Frame) : Frame :=
  if fr.addr = addr then { fr with discard := true } else fr

/-- A record removed: it loses its timers, and the answer to a frame in flight to it is discarded
(R192, R197, R198). -/
def State.dropPanel (addr : Nat) (s : State) : State :=
  { s with line := { s.line with
      panels := s.line.panels.filter fun x => x.addr ≠ addr
      flight := s.line.flight.map (Frame.discardFor addr) } }

/-- The counts of Define Panel's reply (R192). -/
def PanelLine.counts (l : PanelLine) : List Byte :=
  be 1 l.panels.length ++ be 1 (l.panels.countP fun x => x.kind = .doorMap)
    ++ be 1 (l.panels.countP fun x => x.kind = .banner)

/-- Define Panel: its action byte decides (R192, log entry 24). -/
def definePanelBlock (b : List Byte) (s : State) : Answer :=
  if ¬ definePanelOk b then refuse s .malformed
  else if u8 b 0 = 0 then
    if s.line.kindFull (PanelKind.ofCode (u8 b 2)) (u8 b 1) then refuse s .noRoom
    else
      let s1 := s.putPanel (u8 b 1) (PanelKind.ofCode (u8 b 2)) (u8 b 3)
      done s1 s1.line.counts
  else if (s.line.panel? (u8 b 1)).isNone then refuse s .notFound
  else
    let s1 := s.dropPanel (u8 b 1)
    done s1 s1.line.counts

/-- DEFINE_PANEL (R192). -/
def execDefinePanel (p : Port) (payload : List Byte) (s : State) : Host.Outcome State Fault Refusal :=
  .next (serve p 0x70 payload id (definePanelBlock payload) s)

/-- REMOVE_PANEL (R192). -/
def execRemovePanel (p : Port) (payload : List Byte) (s : State) : Host.Outcome State Fault Refusal :=
  .next (serve p 0x70 payload id (definePanelBlock payload) s)

/-! ### Languages (R199, R200) -/

/-- The languages of a Set Languages payload (R200). -/
def languagesOf (b : List Byte) : List Nat := (b.drop 2).map BitVec.toNat

/-- Whether a Set Languages payload is well formed (R200). -/
def languagesOk (b : List Byte) : Bool :=
  decide (2 ≤ b.length) && decide (1 ≤ u8 b 0) && decide (u8 b 0 ≤ 4) && decide (b.length = 2 + u8 b 0)
    && decide (4 ≤ u8 b 1) && decide (u8 b 1 ≤ 30) && (languagesOf b).all (fun i => decide (i < 4))
    && decide ((languagesOf b).Nodup)

/-- The rotation takes a list and a dwell (R200). -/
def State.setLanguages (langs : List Nat) (dwell : Nat) (s : State) : State :=
  { s with line :=
      PanelLine.startRotation { s.line with rotation := langs, dwell := dwell, place := 0 } }.staleRotation

/-- Set Languages (R200). -/
def setLanguagesBlock (b : List Byte) (s : State) : Answer :=
  if ¬ languagesOk b then refuse s .malformed else done (s.setLanguages (languagesOf b) (u8 b 1)) []

/-- SET_LANGUAGES (R200). -/
def execSetLanguages (p : Port) (payload : List Byte) (s : State) : Host.Outcome State Fault Refusal :=
  .next (serve p 0x71 payload id (setLanguagesBlock payload) s)

/-- The rotation timer runs out: the next entry, from the last back to the first (R199). -/
def State.rotate (s : State) : State :=
  let place := if s.line.place + 1 < s.line.rotation.length then s.line.place + 1 else 0
  { s with line := PanelLine.startRotation { s.line with place := place } }.staleRotation

/-- ROTATION_TIMER_EXPIRY (R199): the timer runs while AWAKE with two or more entries. -/
def execRotationTimerExpiry (s : State) : Host.Outcome State Fault Refusal :=
  .next (live (fun s => if s.link.rest = .awake ∧ 2 ≤ s.line.rotation.length then s.rotate else s) s)

/-! ### Read Panels (R209) -/

/-- Frame codes of the line: 0 stands for a free line (R209). -/
def FrameKind.code : FrameKind → Nat
  | .page => 1
  | .probe => 2
  | .blank => 3

/-- A panel entry (R209). -/
def Panel.encode (x : Panel) : List Byte :=
  be 1 x.addr ++ be 1 x.kind.code ++ be 1 x.param ++ be 1 x.state.code ++ flag x.stale ++ be 1 x.miss
    ++ flag x.incomplete ++ orFF x.bright

/-- The payload of Read Panels' reply (R209). -/
def PanelLine.reply (l : PanelLine) : List Byte :=
  be 1 l.rotation.length ++ l.rotation.flatMap (be 1) ++ be 1 l.dwell ++ be 1 l.language
    ++ be 1 ((l.flight.map fun fr => fr.kind.code).getD 0) ++ be 1 ((l.flight.map Frame.addr).getD 0)
    ++ be 1 (l.lastBanner.getD 0) ++ be 1 (l.lastDoorMap.getD 0) ++ be 1 (l.lastStrip.getD 0)
    ++ be 1 l.panels.length ++ l.panels.flatMap Panel.encode

/-- READ_PANELS (R209). -/
def execReadPanels (p : Port) (payload : List Byte) (s : State) : Host.Outcome State Fault Refusal :=
  .next (serve p 0x72 payload id (emptyPayload payload fun s => done s s.line.reply) s)

/-! ### Frames on the line (R194, R195, R198, R207) -/

/-- Whether the line is free and the part is AWAKE: the arbiter may choose (R194). -/
def State.arbitrates (s : State) : Bool := s.line.flight.isNone && decide (s.link.rest = .awake)

/-- The arbiter chooses a page, when no probe is due (R194). -/
def State.sendPage (s : State) : State :=
  if s.arbitrates && s.line.probeDue.isNone then
    match s.line.pageDue with
    | some x => s.startPage x
    | none => s
  else s

/-- PAGE_SEND (R194, R195). -/
def execPageSend (s : State) : Host.Outcome State Fault Refusal := .next (live State.sendPage s)

/-- The arbiter chooses a probe (R194). -/
def State.sendProbe (s : State) : State :=
  if s.arbitrates then
    match s.line.probeDue with
    | some x => s.startProbe x
    | none => s
  else s

/-- PROBE_SEND (R198). -/
def execProbeSend (s : State) : Host.Outcome State Fault Refusal := .next (live State.sendProbe s)

/-- The panel whose blank page is next (R207). -/
def PanelLine.blankDue (l : PanelLine) : Option Panel :=
  match l.blankFrom with
  | some n => l.panels.find? fun x => decide (n ≤ x.addr)
  | none => none

/-- The next blank page of rest entry, when the line is free (R207). -/
def State.sendBlank (s : State) : State :=
  if s.line.flight.isNone && decide (s.link.rest = .resting) then
    match s.line.blankDue with
    | some x => s.startBlank x
    | none => s
  else s

/-- BLANK_PAGE_SEND (R207). -/
def execBlankPageSend (s : State) : Host.Outcome State Fault Refusal := .next (live State.sendBlank s)

/-- Whether a frame's bytes are on the line: a page that waits for a program is not (R195). -/
def Frame.isSent (fr : Frame) : Bool :=
  match fr.body with
  | .sent _ => true
  | .waiting _ => false

/-- The outcome of the frame in flight, once its bytes are on the line (R196). -/
def State.takeAnswer (o : Frame → Option AckOutcome) (s : State) : State :=
  match s.line.flight with
  | some fr =>
    if fr.isSent then
      match o fr with
      | some x => s.answerFrame fr x
      | none => s
    else s
  | none => s

/-- PANEL_ACK (R196): a frame that is not the acknowledgement awaited is ignored. -/
def execPanelAck (bytes : List Byte) (s : State) : Host.Outcome State Fault Refusal :=
  .next (live (State.takeAnswer fun fr => ackOf fr.addr bytes) s)

/-- ACK_TIMEOUT (R196). -/
def execAckTimeout (s : State) : Host.Outcome State Fault Refusal :=
  .next (live (State.takeAnswer fun _ => some .missing) s)

/-! ### Probe timers (R198) -/

/-- A FAILED panel's running probe timer runs out: a probe is due (R198). -/
def Panel.probeFalls (x : Panel) : Panel :=
  match x.state, x.probe with
  | .failed, .running _ => { x with probe := .due }
  | _, _ => x

/-- PROBE_TIMER_EXPIRY (R198). -/
def execProbeTimerExpiry (addr : Nat) (s : State) : Host.Outcome State Fault Refusal :=
  .next (live (State.updatePanel addr Panel.probeFalls) s)

end Sys2Proof.Machine
end

