-- ==== Sys2Proof/Machine/Cabinet.lean ====
section
/-!
DEFINITION. The commands of the Brightness Unit and its heat guard (chapter 10).
-/
namespace Sys2Proof.Machine

/-! ### Levels and tunnels (R211, R212) -/

/-- The three levels at an offset of a Set Levels payload (R211). -/
def levelsAt (b : List Byte) (i : Nat) : Levels := ⟨u8 b i, u8 b (i + 1), u8 b (i + 2)⟩

/-- Whether a Set Levels payload is well formed (R211). -/
def setLevelsOk (b : List Byte) : Bool :=
  decide (b.length = 13) && (List.range 9).all (fun i => decide (u8 b i ≤ 15)) && decide (u16 b 9 < 1440)
    && decide (u16 b 11 < 1440)

/-- The eleven values of Set Levels (R211). -/
def Brightness.setLevels (b : List Byte) (x : Brightness) : Brightness :=
  { x with
    strip := levelsAt b 0
    doorMap := levelsAt b 3
    banner := levelsAt b 6
    dusk := u16 b 9
    dawn := u16 b 11 }

/-- Gives the Brightness Unit new values, and re-forms the brightness (R218). -/
def State.withBright (x : Brightness) (s : State) : State := { s with bright := x }.settleBrightness s

/-- Set Levels (R211). -/
def setLevelsBlock (b : List Byte) (s : State) : Answer :=
  if ¬ setLevelsOk b then refuse s .malformed else done (s.withBright (s.bright.setLevels b)) []

/-- SET_LEVELS (R211). -/
def execSetLevels (p : Port) (payload : List Byte) (s : State) : Host.Outcome State Fault Refusal :=
  .next (serve p 0x73 payload id (setLevelsBlock payload) s)

/-- The ranges of a Set Tunnels payload (R212). -/
def tunnelsOf (b : List Byte) : List (Nat × Nat) :=
  (List.range (u8 b 0)).map fun i => (u32 b (1 + 8 * i), u32 b (5 + 8 * i))

/-- Whether a Set Tunnels payload is well formed (R212). -/
def setTunnelsOk (b : List Byte) : Bool :=
  decide (1 ≤ b.length) && decide (u8 b 0 ≤ 16) && decide (b.length = 1 + 8 * u8 b 0)
    && (tunnelsOf b).all fun t => decide (t.1 ≤ 4000000) && decide (t.2 ≤ 4000000) && decide (t.1 < t.2)

/-- Set Tunnels (R212). -/
def setTunnelsBlock (b : List Byte) (s : State) : Answer :=
  if ¬ setTunnelsOk b then refuse s .malformed
  else
    let s1 := s.withBright { s.bright with tunnels := tunnelsOf b }
    done s1 (flag s1.inTunnel)

/-- SET_TUNNELS (R212). -/
def execSetTunnels (p : Port) (payload : List Byte) (s : State) : Host.Outcome State Fault Refusal :=
  .next (serve p 0x74 payload id (setTunnelsBlock payload) s)

/-! ### Measuring the cabinet (R213, R216) -/

/-- A rising edge adds 1 to the count, saturating (R213). -/
def Brightness.edge (x : Brightness) : Brightness := { x with count := min 65535 (x.count + 1) }

/-- CABINET_EDGE (R213). -/
def execCabinetEdge (s : State) : Host.Outcome State Fault Refusal :=
  .next (live (fun s => { s with bright := s.bright.edge }) s)

/-- Forms the heat state from the last completed window, while the guard is enabled (R216). -/
def Brightness.formHeat (x : Brightness) : Brightness :=
  { x with heat := if x.guard.enabled then heatTable x.guard x.freq x.zeroRun else .off }

/-- The end of a heat window: f, the zero run, the heat state, the count begun again (R213). -/
def Brightness.windowEnd (x : Brightness) : Brightness :=
  Brightness.formHeat { x with
    freq := x.count
    zeroRun := if x.count = 0 then min 3 (x.zeroRun + 1) else 0
    count := 0
    windowMs := 0 }

/-- HEAT_WINDOW_END (R213, R216, R218). -/
def execHeatWindowEnd (s : State) : Host.Outcome State Fault Refusal :=
  .next (live (fun s => s.withBright s.bright.windowEnd) s)

/-! ### The heat guard (R214, R215) -/

/-- Whether a Set Heat Guard payload is well formed (R214). -/
def heatGuardOk (b : List Byte) : Bool :=
  decide (b.length = 7) && decide (u16 b 0 < u16 b 2) && decide (u8 b 4 ≤ 1) && decide (u8 b 5 ≤ 15)
    && decide (u8 b 6 ≤ u8 b 5)

/-- The configuration of a Set Heat Guard payload, configured and not enabled (R214). -/
def heatGuardOf (b : List Byte) : HeatGuard :=
  ⟨u16 b 0, u16 b 2, decide (u8 b 4 = 1), u8 b 5, u8 b 6, true, false⟩

/-- Set Heat Guard (R214). -/
def setHeatGuardBlock (b : List Byte) (s : State) : Answer :=
  if ¬ heatGuardOk b then refuse s .malformed
  else if s.bright.guard.enabled then refuse s .locked
  else done { s with bright := { s.bright with guard := heatGuardOf b } } []

/-- SET_HEAT_GUARD (R214). -/
def execSetHeatGuard (p : Port) (payload : List Byte) (s : State) : Host.Outcome State Fault Refusal :=
  .next (serve p 0x75 payload id (setHeatGuardBlock payload) s)

/-- The guard enabled, and the heat state formed at once (R215). -/
def Brightness.enable (x : Brightness) : Brightness :=
  Brightness.formHeat { x with guard := { x.guard with enabled := true } }

/-- The reply of Enable Heat Guard (R215). -/
def State.heatReply (s : State) : List Byte := be 1 s.bright.heat.code ++ be 1 s.bright.ceiling

/-- Enable Heat Guard (R215). -/
def enableHeatGuardBlock (s : State) : Answer :=
  if ¬ s.bright.guard.configured then refuse s .wrongState
  else if s.bright.guard.enabled then done s s.heatReply
  else
    let s1 := s.withBright s.bright.enable
    done s1 s1.heatReply

/-- ENABLE_HEAT_GUARD (R215). -/
def execEnableHeatGuard (p : Port) (payload : List Byte) (s : State) : Host.Outcome State Fault Refusal :=
  .next (serve p 0x76 payload id (emptyPayload payload enableHeatGuardBlock) s)

/-! ### The overheat line (R217) -/

/-- A change of the line: the flag follows, OVERHEAT is raised, the brightness is re-formed (R217,
R218). -/
def State.overheatChange (active : Bool) (s : State) : State :=
  ({ s with overheatLine := active, bright := { s.bright with overheat := active } }.raise
    (.overheat active)).settleBrightness s

/-- OVERHEAT_LINE_CHANGE (R217).  Without power only the line changes (log entry 8); a level it already
has is no change. -/
def execOverheatLineChange (active : Bool) (s : State) : Host.Outcome State Fault Refusal :=
  .next (if s.overheatLine = active then s
    else if s.powered then s.overheatChange active
    else { s with overheatLine := active })

/-! ### Read Brightness (R219) -/

/-- Levels on the wire (R219). -/
def Levels.encode (l : Levels) : List Byte := be 1 l.day ++ be 1 l.night ++ be 1 l.tunnel

/-- A value of each panel kind, in the order of R219. -/
def perKind (f : PanelKind → Nat) : List Byte := be 1 (f .seatStrip) ++ be 1 (f .doorMap) ++ be 1 (f .banner)

/-- The heat guard's configuration on the wire (R219). -/
def HeatGuard.encode (g : HeatGuard) : List Byte :=
  be 2 g.lo ++ be 2 g.hi ++ flag g.falling ++ be 1 g.warmCeiling ++ be 1 g.hotCeiling ++ flag g.configured
    ++ flag g.enabled

/-- The payload of Read Brightness' reply (R219). -/
def State.brightReply (s : State) : List Byte :=
  s.bright.strip.encode ++ s.bright.doorMap.encode ++ s.bright.banner.encode ++ be 2 s.bright.dusk
    ++ be 2 s.bright.dawn ++ be 1 s.ambientSource ++ perKind s.ambient ++ perKind s.brightness
    ++ be 1 s.bright.tunnels.length ++ (s.bright.tunnels.flatMap fun t => be 4 t.1 ++ be 4 t.2)
    ++ s.bright.guard.encode ++ be 2 s.bright.freq ++ be 1 s.bright.zeroRun ++ be 1 s.bright.heat.code
    ++ be 1 (s.bright.guard.ceiling s.bright.heat) ++ flag s.bright.overheat ++ be 1 s.bright.ceiling

/-- READ_BRIGHTNESS (R219). -/
def execReadBrightness (p : Port) (payload : List Byte) (s : State) : Host.Outcome State Fault Refusal :=
  .next (serve p 0x77 payload id (emptyPayload payload fun s => done s s.brightReply) s)

end Sys2Proof.Machine
end

