-- ==== Sys2Proof/Machine/Time.lean ====
section
/-!
DEFINITION. What the part does of its own accord when no command waits (log entry 3): it queues the
command of every event of its own that is already called for, or else 1 ms passes and the command of
every timer that runs out is queued.
-/
namespace Sys2Proof.Machine

/-! ### Events that are called for -/

/-- The command that takes a request of the queue into service, by its kind (R5, 1.10).  Where rows
share a kind the payload tells which row the request is (log entry 24). -/
def requestCommand (p : Port) (r : Request) : Instr :=
  let b := r.payload
  match r.kind.toNat with
  | 0x01 => .identify p b
  | 0x02 => .status p b
  | 0x03 => .restart p b
  | 0x04 => .rest p b
  | 0x05 => .wake p b
  | 0x06 => .setClock p b
  | 0x10 => .loadStop p b
  | 0x11 => .closePlan p b
  | 0x12 => .startJourney p b
  | 0x13 => .clearPlan p b
  | 0x14 => .amendStop p b
  | 0x15 => .setCall p b
  | 0x16 => if b = [0xFF] then .readPlanSummary p else .readStop p b
  | 0x20 => .setWheel p b
  | 0x21 => .setApproach p b
  | 0x22 => .motionReport p b
  | 0x23 => .positionFix p b
  | 0x24 => .setStage p b
  | 0x25 => .readPosition p b
  | 0x30 => .stageCoach p b
  | 0x31 => .clearStaged p b
  | 0x32 => .applyFormation p b
  | 0x33 => .setLeadingEnd p b
  | 0x34 => .readFormation p b
  | 0x35 => .writeLayout p b
  | 0x40 => if u8 b 0 = 1 then .removeSeat p b else .defineSeat p b
  | 0x41 => .blockSeat p b
  | 0x42 => .putSegment p b
  | 0x43 => .removeSegment p b
  | 0x44 => .clearSeat p b
  | 0x45 => .moveSeat p b
  | 0x46 => .readSeat p b
  | 0x47 => .readBay p b
  | 0x48 => .heldRead p b
  | 0x49 => .commitSeat p b
  | 0x4A => .takeMarks p b
  | 0x50 => .postNotice p b
  | 0x51 => .withdrawNotice p b
  | 0x52 => .clearAlarm p b
  | 0x53 => .readNotices p b
  | 0x60 => .storeUnlock p b
  | 0x61 => .writePhrase p b
  | 0x62 => .eraseSectors p b
  | 0x63 => .holdErase p b
  | 0x64 => .resumeErase p b
  | 0x65 => .readPhrase p b
  | 0x66 => .readStore p b
  | 0x67 => .lockSectors p b
  | 0x68 => .lockFixedArea p b
  | 0x70 => if u8 b 0 = 1 then .removePanel p b else .definePanel p b
  | 0x71 => .setLanguages p b
  | 0x72 => .readPanels p b
  | 0x73 => .setLevels p b
  | 0x74 => .setTunnels p b
  | 0x75 => .setHeatGuard p b
  | 0x76 => .enableHeatGuard p b
  | 0x77 => .readBrightness p b
  | _ => .unknownKindRequest p r.kind b

/-- A command that is queued when a condition holds. -/
def dueIf (c : Bool) (i : Instr) : List Instr := if c then [i] else []

/-- What a port calls for: the request at the head of its queue to be taken (R5), a waiting reply to be
sent, or a report (R10, R11). -/
def State.portDue (s : State) (p : Port) : List Instr :=
  (match (s.port p).service, (s.port p).queue with
    | .untaken, r :: _ => [requestCommand p r]
    | _, _ => [])
  ++ (match (s.port p).tx, (s.port p).reply with
    | .free, some _ => [.replySend p]
    | .free, none => dueIf (!(s.port p).events.isEmpty) (.reportSend p)
    | _, _ => [])

/-- What the panel line calls for (R194, R207). -/
def State.lineDue (s : State) : List Instr :=
  dueIf (s.arbitrates && s.line.probeDue.isSome) .probeSend
  ++ dueIf (s.arbitrates && s.line.probeDue.isNone && s.line.pageDue.isSome) .pageSend
  ++ dueIf (s.line.flight.isNone && decide (s.link.rest = .resting) && s.line.blankDue.isSome) .blankPageSend

/-- Every event of the part itself that is called for (log entry 3). -/
def State.calledFor (s : State) : List Instr :=
  if s.link.restart = .due then [.restartReset]
  else s.portDue .operations ++ s.portDue .content ++ s.lineDue

/-! ### One millisecond -/

/-- A notice's time limit 1 ms on (R162). -/
def Validity.tick : Validity → Validity
  | .limit ms => .limit (ms - 1)
  | v => v

/-- A notice 1 ms on. -/
def Notice.tick (n : Notice) : Notice := { n with validity := n.validity.tick }

/-- How a command names a notice. -/
def Notice.ref (n : Notice) : NoticeRef :=
  match n.kind with
  | some k => .journey k (n.stop.getD 0)
  | none => .posted n.tag

/-- The notices whose time limit runs out with this ms (R162). -/
def Sequencer.limitsDue (q : Sequencer) : List Instr :=
  (q.all.filter fun n => n.validity = .limit 1).map fun n => .noticeValidityExpiry n.ref

/-- A probe timer 1 ms on (R198). -/
def ProbeTimer.tick : ProbeTimer → ProbeTimer
  | .running ms => .running (ms - 1)
  | t => t

/-- A panel record 1 ms on. -/
def Panel.tick (x : Panel) : Panel := { x with probe := x.probe.tick }

/-- The wait for an acknowledgement 1 ms on, once the frame's bytes are on the line (R196). -/
def Frame.tick (fr : Frame) : Frame := if fr.isSent then { fr with ackLeft := fr.ackLeft - 1 } else fr

/-- Whether the wait for an acknowledgement runs out with this ms (R196). -/
def PanelLine.ackDue (l : PanelLine) : Bool := l.flight.any fun fr => fr.isSent && decide (fr.ackLeft = 1)

/-- The panel line 1 ms on. -/
def PanelLine.tick (l : PanelLine) : PanelLine :=
  { l with panels := l.panels.map Panel.tick, flight := l.flight.map Frame.tick, rotationLeft := l.rotationLeft - 1 }

/-- The store's operation 1 ms on: a program or a running erase goes on, a held erase does not (R174,
R176, R177). -/
def StoreOp.tick : StoreOp → StoreOp
  | .programming pr => .programming { pr with left := pr.left - 1 }
  | .heldProgramming er pr => .heldProgramming er { pr with left := pr.left - 1 }
  | .erasing er => .erasing { er with left := er.left - 1 }
  | op => op

/-- What the store's operation calls for with this ms (R174, R176). -/
def StoreOp.due : StoreOp → List Instr
  | .programming pr => dueIf (decide (pr.left ≤ 1)) .programComplete
  | .heldProgramming _ pr => dueIf (decide (pr.left ≤ 1)) .programComplete
  | .erasing er => dueIf (decide (er.left ≤ 1)) .sectorEraseFinish
  | _ => []

/-- The ms of a window or of a second 1 ms on. -/
def nextMs (length ms : Nat) : Nat := if ms + 1 < length then ms + 1 else 0

/-- Every timer and window 1 ms on. -/
def State.oneMs (s : State) : State :=
  { s with
    clock := { s.clock with phase := if s.clock.set then nextMs 1000 s.clock.phase else s.clock.phase }
    odo := { s.odo with windowMs := nextMs 200 s.odo.windowMs, freshLeft := s.odo.freshLeft - 1 }
    seq := { s.seq.mapNotices Notice.tick with dwellLeft := s.seq.dwellLeft - 1 }
    store := { s.store with op := s.store.op.tick }
    line := s.line.tick
    bright := { s.bright with windowMs := nextMs 1000 s.bright.windowMs } }

/-- The commands of the timers and windows that end with this ms; the odometer window, which hands S to
the others, comes last (log entry 3). -/
def State.msDue (s : State) : List Instr :=
  dueIf (s.seq.active.isSome && decide (s.seq.dwellLeft = 1)) .dwellExpiry
  ++ s.seq.limitsDue
  ++ dueIf (decide (s.line.rotationLeft = 1)) .rotationTimerExpiry
  ++ ((s.line.panels.filter fun x => x.probe = .running 1).map fun x => .probeTimerExpiry x.addr)
  ++ dueIf s.line.ackDue .ackTimeout
  ++ s.store.op.due
  ++ dueIf (decide (s.odo.freshLeft = 1)) .speedStale
  ++ dueIf (s.clock.set && decide (999 ≤ s.clock.phase)) .clockTick
  ++ dueIf (decide (999 ≤ s.bright.windowMs)) .heatWindowEnd
  ++ dueIf (decide (199 ≤ s.odo.windowMs)) .odometerWindowEnd

/-- What the part does when no command waits: nothing without power; else it queues what is already
called for; else 1 ms passes (log entry 3). -/
def State.idle (s : State) : State :=
  if ¬ s.powered then s
  else if s.calledFor ≠ [] then { s with pending := s.calledFor }
  else { s.oneMs with pending := s.msDue }

end Sys2Proof.Machine
end

