-- ==== Sys2Proof/Machine/Dispatch.lean ====
section
/-!
DEFINITION. One arm for each command, in the order of the table: its meaning.
-/
namespace Sys2Proof.Machine

/-- The effect of a command on everything but the queue of commands. -/
def exec (i : Instr) (s : State) : Host.Outcome State Fault Refusal :=
  match i with
  | .frameReceived p bytes => Sys2Proof.Machine.execFrameReceived p bytes s
  | .frameIdleTimeout p => Sys2Proof.Machine.execFrameIdleTimeout p s
  | .unknownKindRequest p kind payload => Sys2Proof.Machine.execUnknownKindRequest p kind payload s
  | .replySend p => Sys2Proof.Machine.execReplySend p s
  | .replyComplete p => Sys2Proof.Machine.execReplyComplete p s
  | .reportSend p => Sys2Proof.Machine.execReportSend p s
  | .reportComplete p => Sys2Proof.Machine.execReportComplete p s
  | .portBreak p => Sys2Proof.Machine.execPortBreak p s
  | .powerUpReset => Sys2Proof.Machine.execPowerUpReset s
  | .identify p payload => Sys2Proof.Machine.execIdentify p payload s
  | .status p payload => Sys2Proof.Machine.execStatus p payload s
  | .restart p payload => Sys2Proof.Machine.execRestart p payload s
  | .restartReset => Sys2Proof.Machine.execRestartReset s
  | .rest p payload => Sys2Proof.Machine.execRest p payload s
  | .wake p payload => Sys2Proof.Machine.execWake p payload s
  | .setClock p payload => Sys2Proof.Machine.execSetClock p payload s
  | .clockTick => Sys2Proof.Machine.execClockTick s
  | .loadStop p payload => Sys2Proof.Machine.execLoadStop p payload s
  | .closePlan p payload => Sys2Proof.Machine.execClosePlan p payload s
  | .startJourney p payload => Sys2Proof.Machine.execStartJourney p payload s
  | .clearPlan p payload => Sys2Proof.Machine.execClearPlan p payload s
  | .amendStop p payload => Sys2Proof.Machine.execAmendStop p payload s
  | .setCall p payload => Sys2Proof.Machine.execSetCall p payload s
  | .readStop p payload => Sys2Proof.Machine.execReadStop p payload s
  | .readPlanSummary p => Sys2Proof.Machine.execReadPlanSummary p s
  | .setWheel p payload => Sys2Proof.Machine.execSetWheel p payload s
  | .wheelPulse => Sys2Proof.Machine.execWheelPulse s
  | .odometerWindowEnd => Sys2Proof.Machine.execOdometerWindowEnd s
  | .motionReport p payload => Sys2Proof.Machine.execMotionReport p payload s
  | .speedStale => Sys2Proof.Machine.execSpeedStale s
  | .positionFix p payload => Sys2Proof.Machine.execPositionFix p payload s
  | .setApproach p payload => Sys2Proof.Machine.execSetApproach p payload s
  | .doorReleaseChange active => Sys2Proof.Machine.execDoorReleaseChange active s
  | .setStage p payload => Sys2Proof.Machine.execSetStage p payload s
  | .readPosition p payload => Sys2Proof.Machine.execReadPosition p payload s
  | .stageCoach p payload => Sys2Proof.Machine.execStageCoach p payload s
  | .clearStaged p payload => Sys2Proof.Machine.execClearStaged p payload s
  | .applyFormation p payload => Sys2Proof.Machine.execApplyFormation p payload s
  | .setLeadingEnd p payload => Sys2Proof.Machine.execSetLeadingEnd p payload s
  | .writeLayout p payload => Sys2Proof.Machine.execWriteLayout p payload s
  | .readFormation p payload => Sys2Proof.Machine.execReadFormation p payload s
  | .defineSeat p payload => Sys2Proof.Machine.execDefineSeat p payload s
  | .removeSeat p payload => Sys2Proof.Machine.execRemoveSeat p payload s
  | .blockSeat p payload => Sys2Proof.Machine.execBlockSeat p payload s
  | .putSegment p payload => Sys2Proof.Machine.execPutSegment p payload s
  | .removeSegment p payload => Sys2Proof.Machine.execRemoveSegment p payload s
  | .clearSeat p payload => Sys2Proof.Machine.execClearSeat p payload s
  | .moveSeat p payload => Sys2Proof.Machine.execMoveSeat p payload s
  | .readSeat p payload => Sys2Proof.Machine.execReadSeat p payload s
  | .readBay p payload => Sys2Proof.Machine.execReadBay p payload s
  | .heldRead p payload => Sys2Proof.Machine.execHeldRead p payload s
  | .commitSeat p payload => Sys2Proof.Machine.execCommitSeat p payload s
  | .takeMarks p payload => Sys2Proof.Machine.execTakeMarks p payload s
  | .postNotice p payload => Sys2Proof.Machine.execPostNotice p payload s
  | .withdrawNotice p payload => Sys2Proof.Machine.execWithdrawNotice p payload s
  | .clearAlarm p payload => Sys2Proof.Machine.execClearAlarm p payload s
  | .readNotices p payload => Sys2Proof.Machine.execReadNotices p payload s
  | .dwellExpiry => Sys2Proof.Machine.execDwellExpiry s
  | .noticeValidityExpiry ref => Sys2Proof.Machine.execNoticeValidityExpiry ref s
  | .storeUnlock p payload => Sys2Proof.Machine.execStoreUnlock p payload s
  | .writePhrase p payload => Sys2Proof.Machine.execWritePhrase p payload s
  | .programComplete => Sys2Proof.Machine.execProgramComplete s
  | .eraseSectors p payload => Sys2Proof.Machine.execEraseSectors p payload s
  | .sectorEraseFinish => Sys2Proof.Machine.execSectorEraseFinish s
  | .holdErase p payload => Sys2Proof.Machine.execHoldErase p payload s
  | .resumeErase p payload => Sys2Proof.Machine.execResumeErase p payload s
  | .readPhrase p payload => Sys2Proof.Machine.execReadPhrase p payload s
  | .readStore p payload => Sys2Proof.Machine.execReadStore p payload s
  | .lockSectors p payload => Sys2Proof.Machine.execLockSectors p payload s
  | .lockFixedArea p payload => Sys2Proof.Machine.execLockFixedArea p payload s
  | .definePanel p payload => Sys2Proof.Machine.execDefinePanel p payload s
  | .removePanel p payload => Sys2Proof.Machine.execRemovePanel p payload s
  | .setLanguages p payload => Sys2Proof.Machine.execSetLanguages p payload s
  | .readPanels p payload => Sys2Proof.Machine.execReadPanels p payload s
  | .pageSend => Sys2Proof.Machine.execPageSend s
  | .probeSend => Sys2Proof.Machine.execProbeSend s
  | .panelAck bytes => Sys2Proof.Machine.execPanelAck bytes s
  | .ackTimeout => Sys2Proof.Machine.execAckTimeout s
  | .probeTimerExpiry addr => Sys2Proof.Machine.execProbeTimerExpiry addr s
  | .rotationTimerExpiry => Sys2Proof.Machine.execRotationTimerExpiry s
  | .blankPageSend => Sys2Proof.Machine.execBlankPageSend s
  | .setLevels p payload => Sys2Proof.Machine.execSetLevels p payload s
  | .setTunnels p payload => Sys2Proof.Machine.execSetTunnels p payload s
  | .cabinetEdge => Sys2Proof.Machine.execCabinetEdge s
  | .heatWindowEnd => Sys2Proof.Machine.execHeatWindowEnd s
  | .setHeatGuard p payload => Sys2Proof.Machine.execSetHeatGuard p payload s
  | .enableHeatGuard p payload => Sys2Proof.Machine.execEnableHeatGuard p payload s
  | .overheatLineChange active => Sys2Proof.Machine.execOverheatLineChange active s
  | .readBrightness p payload => Sys2Proof.Machine.execReadBrightness p payload s
  | .lineIdle p => Sys2Proof.Machine.execLineIdle p s
  | .powerLoss => Sys2Proof.Machine.execPowerLoss s

end Sys2Proof.Machine
end

