-- ==== Sys2Proof/WellFormed.lean ====
section
/-!
DEFINITION. Which commands can occur: payloads no longer than a frame can carry (R1), rows that share a
kind told apart by their payload, numbers within the ranges the manual gives them.
-/
namespace Sys2Proof

/-- A payload that a frame can carry (R1). -/
def payloadFits (b : List Byte) : Bool := decide (b.length ≤ 1024)

/-- A notice that can exist: a tag of 1..65535 (R142), a stop of 0..47 (7.1). -/
def NoticeRef.wf : NoticeRef → Bool
  | .posted tag => decide (1 ≤ tag) && decide (tag ≤ 65535)
  | .journey _ stop => decide (stop < 48)

/-- The port, kind and payload of a request command. -/
def Instr.request? : Instr → Option (Port × Byte × List Byte)
  | .unknownKindRequest p k b => some (p, k, b)
  | .readPlanSummary p => some (p, 0x16, [0xFF])
  | .identify p b => some (p, 0x01, b)
  | .status p b => some (p, 0x02, b)
  | .restart p b => some (p, 0x03, b)
  | .rest p b => some (p, 0x04, b)
  | .wake p b => some (p, 0x05, b)
  | .setClock p b => some (p, 0x06, b)
  | .loadStop p b => some (p, 0x10, b)
  | .closePlan p b => some (p, 0x11, b)
  | .startJourney p b => some (p, 0x12, b)
  | .clearPlan p b => some (p, 0x13, b)
  | .amendStop p b => some (p, 0x14, b)
  | .setCall p b => some (p, 0x15, b)
  | .readStop p b => some (p, 0x16, b)
  | .setWheel p b => some (p, 0x20, b)
  | .setApproach p b => some (p, 0x21, b)
  | .motionReport p b => some (p, 0x22, b)
  | .positionFix p b => some (p, 0x23, b)
  | .setStage p b => some (p, 0x24, b)
  | .readPosition p b => some (p, 0x25, b)
  | .stageCoach p b => some (p, 0x30, b)
  | .clearStaged p b => some (p, 0x31, b)
  | .applyFormation p b => some (p, 0x32, b)
  | .setLeadingEnd p b => some (p, 0x33, b)
  | .readFormation p b => some (p, 0x34, b)
  | .writeLayout p b => some (p, 0x35, b)
  | .defineSeat p b => some (p, 0x40, b)
  | .removeSeat p b => some (p, 0x40, b)
  | .blockSeat p b => some (p, 0x41, b)
  | .putSegment p b => some (p, 0x42, b)
  | .removeSegment p b => some (p, 0x43, b)
  | .clearSeat p b => some (p, 0x44, b)
  | .moveSeat p b => some (p, 0x45, b)
  | .readSeat p b => some (p, 0x46, b)
  | .readBay p b => some (p, 0x47, b)
  | .heldRead p b => some (p, 0x48, b)
  | .commitSeat p b => some (p, 0x49, b)
  | .takeMarks p b => some (p, 0x4A, b)
  | .postNotice p b => some (p, 0x50, b)
  | .withdrawNotice p b => some (p, 0x51, b)
  | .clearAlarm p b => some (p, 0x52, b)
  | .readNotices p b => some (p, 0x53, b)
  | .storeUnlock p b => some (p, 0x60, b)
  | .writePhrase p b => some (p, 0x61, b)
  | .eraseSectors p b => some (p, 0x62, b)
  | .holdErase p b => some (p, 0x63, b)
  | .resumeErase p b => some (p, 0x64, b)
  | .readPhrase p b => some (p, 0x65, b)
  | .readStore p b => some (p, 0x66, b)
  | .lockSectors p b => some (p, 0x67, b)
  | .lockFixedArea p b => some (p, 0x68, b)
  | .definePanel p b => some (p, 0x70, b)
  | .removePanel p b => some (p, 0x70, b)
  | .setLanguages p b => some (p, 0x71, b)
  | .readPanels p b => some (p, 0x72, b)
  | .setLevels p b => some (p, 0x73, b)
  | .setTunnels p b => some (p, 0x74, b)
  | .setHeatGuard p b => some (p, 0x75, b)
  | .enableHeatGuard p b => some (p, 0x76, b)
  | .readBrightness p b => some (p, 0x77, b)
  | .frameReceived .. | .frameIdleTimeout .. | .replySend .. | .replyComplete .. | .reportSend ..
  | .reportComplete .. | .portBreak .. | .powerUpReset | .restartReset | .clockTick | .wheelPulse
  | .odometerWindowEnd | .speedStale | .doorReleaseChange .. | .dwellExpiry | .noticeValidityExpiry ..
  | .programComplete | .sectorEraseFinish | .pageSend | .probeSend | .panelAck .. | .ackTimeout
  | .probeTimerExpiry .. | .rotationTimerExpiry | .blankPageSend | .cabinetEdge | .heatWindowEnd
  | .overheatLineChange .. | .lineIdle .. | .powerLoss => none

/-- What a row asks of its operands beyond the length of its payload. -/
def Instr.operandsFit : Instr → Bool
  | .unknownKindRequest _ kind _ => (Machine.catalogueRow kind).isNone
  | .readStop _ b => decide (b ≠ [0xFF])
  | .defineSeat _ b => decide (Machine.u8 b 0 ≠ 1)
  | .removeSeat _ b => decide (Machine.u8 b 0 = 1)
  | .definePanel _ b => decide (Machine.u8 b 0 ≠ 1)
  | .removePanel _ b => decide (Machine.u8 b 0 = 1)
  | .noticeValidityExpiry ref => ref.wf
  | .probeTimerExpiry addr => decide (1 ≤ addr) && decide (addr ≤ 24)
  | _ => true

/-- A command that can occur. -/
def Instr.wf (i : Instr) : Bool := i.request?.all (fun r => payloadFits r.2.2) && i.operandsFit

end Sys2Proof
end

