-- ==== Sys2Proof/Safety.lean ====
section
/-!
DEFINITION. What counts as a safe state: the laws that the manual states of the part as a whole, as
invariants that every step keeps; when a request command is the request in service; and what the rules
say of seat changes, notices, the stage of C, displays and pages, put together for the statements apart
from the operations of the model.
-/
namespace Sys2Proof.Machine

/-! ### Invariants -/

/-- The pool law: the segments held in seat lists plus the free records always number 256 (R98), and no
two seat records share a number (R93). -/
def State.PoolLaw (s : State) : Prop :=
  s.table.free + segmentsHeld s.table.seats = 256 ∧ (s.table.seats.map Seat.number).Nodup

/-- At most 96 seat records, at most 6 of them in one bay (R93). -/
def State.SeatLimits (s : State) : Prop :=
  s.table.seats.length ≤ 96 ∧ ∀ bay : Nat, (s.seatsOfBay bay).length ≤ 6

/-- The save slots and the level (R155): slot 1 holds a notice only while the level is 1 or 2, slot 2
only while it is 2.  What a slot holds was saved from a lower level: slot 1 a JOURNEY or INFORMATION
notice, slot 2 no ALARM, and slot 1 is empty under a notice saved from level 0 (R156, R159). -/
def State.SlotLaw (s : State) : Prop :=
  (s.seq.slot1.isSome → 1 ≤ s.level) ∧ (s.seq.slot2.isSome → s.level = 2)
    ∧ (∀ n, s.seq.slot1 = some n → n.cls = .journey ∨ n.cls = .information)
    ∧ (∀ n, s.seq.slot2 = some n → n.cls ≠ .alarm ∧ (n.cls ≠ .service → s.seq.slot1 = none))

/-- The queue of notices holds at most 16 records, at most 12 of them journey or information notices
(R152). -/
def State.QueueLaw (s : State) : Prop := s.seq.queue.length ≤ 16 ∧ lowerCount s.seq.queue ≤ 12

/-- The places of the store are listed in canonical form, each of them one of the 4096 (8.1, R167). -/
def State.StoreLaw (s : State) : Prop :=
  s.store.wf = true ∧ (∀ x ∈ s.store.entries, x.1 < 4096)
    ∧ (∀ pr, s.store.op.program? = some pr → pr.phrase < 1024 ∧ pr.lang < 4)

/-- Each receive queue holds at most 4 frames (R3). -/
def State.ReceiveLaw (s : State) : Prop :=
  s.link.operations.queue.length ≤ 4 ∧ s.link.content.queue.length ≤ 4

/-- The stop table holds at most 48 records (R20), line positions lie within 0..4,000,000 (2.1), and so
does S, with its remainder below 1 m, the travel since fix, the window count and the zero run within
their ranges (3.1, R43, R45, R54). -/
def State.TravelLaw (s : State) : Prop :=
  s.plan.stops.length ≤ 48 ∧ (∀ r ∈ s.plan.stops, r.line ≤ 4000000)
    ∧ s.odo.position ≤ 4000000 ∧ s.odo.remainder < 1000000 ∧ s.odo.sinceFix ≤ 4000000
    ∧ s.odo.count ≤ 4095 ∧ s.odo.zeroRun ≤ 4095 ∧ s.odo.reported ≤ 4000

/-- The clock's second lies within day 0 and day 1 (R37). -/
def State.ClockLaw (s : State) : Prop := s.clock.second ≤ 172799

/-- The hot ceiling is at most the warm ceiling, and no ceiling is above 15 (10.4); the heat state is
OFF while the guard is not enabled (R216). -/
def State.HeatLaw (s : State) : Prop :=
  s.bright.guard.hotCeiling ≤ s.bright.guard.warmCeiling ∧ s.bright.guard.warmCeiling ≤ 15
    ∧ s.bright.zeroRun ≤ 3 ∧ (s.bright.guard.enabled = false → s.bright.heat = .off)

/-- The panel table (R191): addresses 1..24, rising, at most 4 door maps and 4 banners. -/
def State.PanelLaw (s : State) : Prop :=
  s.line.panels.Pairwise (fun x y => x.addr < y.addr)
    ∧ (∀ x ∈ s.line.panels, 1 ≤ x.addr ∧ x.addr ≤ 24)
    ∧ s.line.panels.countP (fun x => decide (x.kind = .doorMap)) ≤ 4
    ∧ s.line.panels.countP (fun x => decide (x.kind = .banner)) ≤ 4

/-! ### Requests in service -/

/-- The request is in service and passes steps 1 to 3 of R6. -/
def State.Takes (s : State) (p : Port) (kind : Byte) (payload : List Byte) : Prop :=
  s.inService p kind payload = true ∧ s.linkRefusal p kind payload = none

/-- A state once the request in service has been answered: the request heads its port's queue (R3), and
the reply waits with its status and payload (R8); nothing else differs from the state given. -/
def State.replied (s : State) (p : Port) (kind : Byte) (payload : List Byte) (st : Status)
    (body : List Byte) : State :=
  (s.enter p kind payload).answer p kind st body

/-- The Link Unit with both pending event sets empty. -/
def Link.quiet (l : Link) : Link :=
  { l with
    operations := { l.operations with events := [] }
    content := { l.content with events := [] } }

/-- The Link Unit of t is that of s once the request in service has been answered (R3, R8); the pending
event sets are left out of the comparison. -/
def State.Answers (s : State) (p : Port) (kind : Byte) (payload : List Byte) (st : Status)
    (body : List Byte) (t : State) : Prop :=
  t.link.quiet = (s.replied p kind payload st body).link.quiet

/-- The pending entries of every kind but those listed, by event code, are as before on both ports
(R9). -/
def State.RaisesOnly (s : State) (codes : List Nat) (t : State) : Prop :=
  ∀ p : Port, (t.port p).events.filter (fun e => !codes.contains e.code)
    = (s.port p).events.filter fun e => !codes.contains e.code

/-- What is done to the state by a request that any step of R6 refuses: Write Phrase and Erase Sectors
clear the latch (R171), Commit Seat ends the port's hold (R126); every other leaves the state. -/
def State.refusalEffect (s : State) (p : Port) (kind : Byte) : State :=
  if kind = 0x61 ∨ kind = 0x62 then { s with store := { s.store with latch := false } }
  else if kind = 0x49 then s.setHold p .absent
  else s

/-! ### The plan's tests (R25) -/

/-- The times of a stop that are present, its arrival before its departure. -/
def Plan.timesAt (pl : Plan) (n : Nat) : List Nat :=
  match pl.stops[n]? with
  | some r => r.arrival.toList ++ r.departure.toList
  | none => []

/-- The first test of R25 that a portion's route fails, as the stop and the reason that Close Plan names: the
ends, the number of calls, the first stop's own times (log entry 39), then the walk, which fails at n
where the stops before it pass. -/
def Plan.FirstFailure (pl : Plan) (po : Portion) (n reason : Nat) : Prop :=
  ∃ x y, (pl.route po).head? = some x ∧ (pl.route po).getLast? = some y
    ∧ (if x ∉ pl.calls po then n = x ∧ reason = 1
      else if y ∉ pl.calls po then n = y ∧ reason = 1
      else if (pl.calls po).length < 2 then n = y ∧ reason = 2
      else if ¬ (pl.timesAt x).Pairwise (· ≤ ·) then n = x ∧ reason = 4
      else ∃ front prev back, pl.route po = front ++ prev :: n :: back
        ∧ (front ++ [prev]).Pairwise (fun i j => pl.lineAt i < pl.lineAt j)
        ∧ ((front ++ [prev]).flatMap pl.timesAt).Pairwise (· ≤ ·)
        ∧ (if pl.lineAt n ≤ pl.lineAt prev then reason = 3
          else reason = 4 ∧ ¬ ((front ++ [prev, n]).flatMap pl.timesAt).Pairwise (· ≤ ·)))

/-! ### Events and notices on the wire (1.10, 7.9) -/

/-- An entry of a report: its event code, the length of its data, its data (1.10). -/
def Event.entry : Event → List Byte
  | .stage stop st passed => [0x01, 3] ++ be 1 stop ++ be 1 st.code ++ flag passed
  | .mode m => [0x02, 1] ++ be 1 m.code
  | .fixJump jump => [0x03, 4] ++ beInt 4 jump
  | .doorUnscheduled stop st => [0x04, 2] ++ orFF stop ++ be 1 st.code
  | .formation reversed attached n po side =>
    [0x05, 5] ++ flag reversed ++ flag attached ++ be 1 n ++ orFF (po.map Portion.code) ++ be 1 side.code
  | .noticeLevel old new => [0x06, 2] ++ be 1 old ++ be 1 new
  | .noticeDropped cls tag kind stop why =>
    [0x07, 6] ++ be 1 cls.code ++ be 2 tag ++ be 1 (kindCode kind) ++ orFF stop ++ be 1 why.code
  | .panel addr failed => [0x08, 2] ++ be 1 addr ++ flag failed
  | .heat st ceiling => [0x09, 2] ++ be 1 st.code ++ be 1 ceiling
  | .overheat active => [0x0A, 1] ++ flag active
  | .woke why => [0x0B, 1] ++ be 1 why.code
  | .storeDamage torn incomplete => [0x0C, 3] ++ be 2 torn ++ be 1 incomplete
  | .journeyEnd => [0x0D, 0]
  | .stranded n => [0x0E, 2] ++ be 2 n
  | .marks bays => [0x10, 3] ++ be 3 bays.toNat
  | .storeDone erase which => [0x11, 3] ++ flag erase ++ be 2 which

/-- A report of the events given (1.10). -/
def reportBytes (events : List Event) : List Byte :=
  let entries := events.flatMap Event.entry
  let counted := be 2 (1 + entries.length) ++ [0xFF] ++ be 1 events.length ++ entries
  0xC3 :: (counted ++ be 2 (crc counted).toNat)

/-- An item, its code and its value (R140). -/
def Item.entry : Item → List Byte
  | .phrase n => 0 :: be 2 n
  | .stopName stop => 1 :: be 2 stop
  | .minutes n => 2 :: be 2 n
  | .coach n => 3 :: be 2 n
  | .platform stop => 4 :: be 2 stop
  | .doorSide side => 5 :: be 2 side.code
  | .doorSideOf stop => 5 :: be 2 (0x0100 + stop)
  | .destination po => 6 :: be 2 po.code

/-- A notice entry (7.9): the seconds of a time limit rounded up; in the queue no cycle is completed and
the language is 0xFF. -/
def Notice.entry (queued : Bool) (n : Notice) : List Byte :=
  be 1 n.cls.code ++ be 2 n.tag ++ be 1 (kindCode n.kind) ++ orFF n.stop ++ be 1 n.repeats ++ be 1 n.dwell
  ++ be 1 n.mask.toNat
  ++ (match n.validity with
    | .unlimited => 0 :: be 2 0
    | .limit ms => 1 :: be 2 ((ms + 999) / 1000)
    | .stage st => 2 :: be 2 st.code)
  ++ (if queued then [0, 0xFF] else be 1 n.cycles ++ be 1 n.lang)
  ++ be 1 n.items.length ++ n.items.flatMap Item.entry

/-- What Read Phrase answers of an entry (R187): its condition, whether its sector is protected, its text. -/
def Store.entryRead (st : Store) (phrase lang : Nat) : List Byte :=
  let sector := phrase / 8
  let inErase := match st.op.erase? with
    | some er => decide (er.current ≤ sector) && decide (sector ≤ er.last)
    | none => false
  let entry := getEntry st.entries (4 * phrase + lang)
  let text := if inErase || st.incomplete.getLsbD sector then [] else match entry with
    | some (.valid text) => text
    | _ => []
  let condition : Byte := if inErase then 4 else if st.incomplete.getLsbD sector then 3 else
    match entry with
    | none => 0
    | some (.valid _) => 1
    | some .torn => 2
  [condition] ++ flag (st.locks.getLsbD sector || (decide (sector < 8) && st.fixedLock))
    ++ be 1 text.length ++ text

/-! ### Comparing tables -/

/-- The panel line with every stale flag clear. -/
def PanelLine.unmarked (l : PanelLine) : PanelLine :=
  { l with panels := l.panels.map fun x => { x with stale := false } }

/-- Every panel that a trigger names is stale (R193). -/
def State.StaleAt (named : Panel → Bool) (t : State) : Prop :=
  ∀ x ∈ t.line.panels, named x = true → x.stale = true

/-- A seat record without its last display. -/
def Seat.undisplayed (x : Seat) : Seat := { x with lastDisplay := none }

/-- The Seat Table without last displays. -/
def SeatTable.undisplayed (tb : SeatTable) : SeatTable := { tb with seats := tb.seats.map Seat.undisplayed }

/-! ### Seat changes handed on -/

/-- Every standing hold is broken; a hold in another state stays (R124, R125). -/
def State.HoldsBroken (s t : State) : Prop :=
  ∀ p : Port, t.holds.get p = match s.holds.get p with
    | .standing n => .broken n
    | h => h

/-- The marks of the bays named are set, the other marks stay; a mark newly set is unreported, with MARKS
pending on the Content port (R132, R135). -/
def State.Marked (s : State) (named : Nat → Bool) (t : State) : Prop :=
  (∀ b < 24, t.holds.marks.getLsbD b = (s.holds.marks.getLsbD b || named b))
  ∧ (∀ b < 24, t.holds.unreported.getLsbD b
      = (s.holds.unreported.getLsbD b || (named b && !s.holds.marks.getLsbD b)))
  ∧ ((∃ b < 24, named b = true ∧ s.holds.marks.getLsbD b = false) →
      .marks t.holds.unreported ∈ t.link.content.events)

/-- What the Hold and Mark Unit does with the seats named, in the bays named, when they are handed on (R99,
R124, R132): each standing hold on one of them is broken, the other holds stay; the bays are marked. -/
def State.HandedOn (s : State) (nums bays : List Nat) (t : State) : Prop :=
  (∀ p : Port, t.holds.get p = match s.holds.get p with
    | .standing n => if nums.contains n then .broken n else .standing n
    | h => h)
  ∧ s.Marked (fun b => bays.contains b) t

/-- The displays of the seats named are re-formed: the last display is the one of now, and the strips of
the seat's bay are stale where it differs from the last display before (R111). -/
def State.Reformed (s : State) (named : Seat → Bool) (t : State) : Prop :=
  ∀ y ∈ t.table.seats, named y = true → y.lastDisplay = some (t.display y)
    ∧ ((∀ x ∈ s.table.seats, x.number = y.number → x.lastDisplay ≠ y.lastDisplay) →
      t.StaleAt fun z => decide (z.kind = .seatStrip) && decide (z.param = y.bay))

/-- The seats named, in the bays named, are handed on, with no other event raised, and their displays
re-formed. -/
def State.Handed (s : State) (nums bays : List Nat) (t : State) : Prop :=
  s.HandedOn nums bays t ∧ s.RaisesOnly [0x10] t ∧ s.Reformed (fun y => nums.contains y.number) t

/-- The Seat Table with the segments kept of each seat, the others' records back in the pool (R98). -/
def SeatTable.keeping (kept : Seat → List Segment) (tb : SeatTable) : SeatTable :=
  ⟨tb.seats.map fun x => { x with segments := kept x },
   tb.free + (tb.seats.map fun x => x.segments.length - (kept x).length).sum⟩

/-- The Seat Table keeps the segments given of each seat, hands on the seats that lose one, where no two
share a number (R93), and nothing else of it changes but last displays (R98, R99). -/
def State.Keeps (s : State) (kept : Seat → List Segment) (t : State) : Prop :=
  t.table.undisplayed = (s.table.keeping kept).undisplayed
  ∧ ((s.table.seats.map Seat.number).Nodup →
    let lost := s.table.seats.filter fun x => kept x ≠ x.segments
    s.HandedOn (lost.map Seat.number) (lost.map Seat.bay) t)

/-- Nothing but the Seat Table, the Hold and Mark Unit, pending events and stale flags differs. -/
def State.SeatEventOnly (s t : State) : Prop :=
  t.line.unmarked = s.line.unmarked
  ∧ { t with table := s.table, holds := s.holds, link := s.link, line := s.line } = s

/-- Whether a leg may be stored (R102 checks 4 and 5, R103 check 6): from and to are stops of the plan,
from before to, both on this coach's route with the effective stop of to above that of from and, while
RUNNING, above R. -/
def State.LegFits (s : State) (f t : Nat) : Prop :=
  f < s.plan.stops.length ∧ t < s.plan.stops.length ∧ f < t
  ∧ ∃ ef et, s.eff f = some ef ∧ s.eff t = some et ∧ ef < et
    ∧ (s.plan.state = .running → ∃ r, s.refStop = some r ∧ r < et)

/-- The from stop as judged and stored: R where the effective stop of from is below R (R103). -/
def State.storedFrom (s : State) (f : Nat) : Nat :=
  match s.eff f, s.refStop with
  | some ef, some r => if ef < r then r else f
  | _, _ => f

/-! ### Notices -/

/-- An item within the ranges of R140. -/
def Item.InRange : Item → Prop
  | .phrase n => n < 1024
  | .stopName n => n < 48
  | .minutes n => n < 1000
  | .coach n => 1 ≤ n ∧ n ≤ 99
  | .platform n => n < 48
  | .doorSide _ => True
  | .doorSideOf n => n < 48
  | .destination _ => True

/-- The lowest language of a mask, 0 for an empty one (R138). -/
def firstLanguage (mask : BitVec 4) : Nat :=
  if mask.getLsbD 0 then 0 else if mask.getLsbD 1 then 1 else if mask.getLsbD 2 then 2
  else if mask.getLsbD 3 then 3 else 0

/-- The Notice Sequencer with a notice started: no cycle completed, the lowest language of its mask, the
full dwell (R138). -/
def Sequencer.started (n : Notice) (q : Sequencer) : Sequencer :=
  { q with active := some { n with cycles := 0, lang := firstLanguage n.mask }, dwellLeft := 1000 * n.dwell }

/-- The Notice Sequencer after the return that follows the end of a notice other than an ALARM (R160):
slot 1 resumes, else the head of the queue starts, else nothing is active. -/
def Sequencer.returned (q : Sequencer) : Sequencer :=
  match q.slot1, q.queue with
  | some n, _ => { q with slot1 := none, active := some n, dwellLeft := 1000 * n.dwell }
  | none, n :: rest => Sequencer.started n { q with queue := rest }
  | none, [] => { q with active := none, dwellLeft := 0 }

/-- The Notice Sequencer after the return that follows the end of an ALARM, row by row (R159). -/
def Sequencer.returnedFromAlarm (q : Sequencer) : Sequencer :=
  match q.slot2, q.queue with
  | some n, [] => { q with slot2 := none, active := some n, dwellLeft := 1000 * n.dwell }
  | some n, h :: rest =>
    if n.cls ≠ .service ∧ h.cls = .service then
      Sequencer.started h { q with slot2 := none, slot1 := some n, queue := rest }
    else { q with slot2 := none, active := some n, dwellLeft := 1000 * n.dwell }
  | none, _ => q.returned

/-- Nothing but the Notice Sequencer, pending events and stale flags differs, NOTICE_LEVEL and
NOTICE_DROPPED being the only kinds raised; the first is pending where the level changed (R155), and the
banners are stale where the notice shown changed (R138). -/
def State.NoticeEventOnly (s t : State) : Prop :=
  t.line.unmarked = s.line.unmarked ∧ s.RaisesOnly [0x06, 0x07] t
  ∧ (s.level ≠ t.level → .noticeLevel s.level t.level ∈ t.link.operations.events)
  ∧ (s.seq.active ≠ t.seq.active → t.StaleAt fun x => decide (x.kind = .banner))
  ∧ { t with seq := s.seq, link := s.link, line := s.line } = s

/-- The notice that a full queue gives up to one of higher rank: the oldest INFORMATION notice, or if there
is none the oldest JOURNEY notice (R153, R154). -/
def Sequencer.victim (q : Sequencer) : Option Notice :=
  match q.queue.find? fun m => decide (m.cls = .information) with
  | some m => some m
  | none => q.queue.find? fun m => decide (m.cls = .journey)

/-- Whether the queue has no room for a journey or information notice (R152). -/
def Sequencer.full (q : Sequencer) : Bool :=
  decide (16 ≤ q.queue.length) || decide (12 ≤ (q.queue.filter fun m => decide (m.cls ≠ .service)).length)

/-- The Notice Sequencer once a JOURNEY notice has arrived: it starts where nothing is active, else it joins
the queue before the INFORMATION notices, displacing one of a full queue, or is itself dropped (R153,
R156). -/
def Sequencer.arrive (q : Sequencer) (n : Notice) : Sequencer :=
  let joined (l : List Notice) : Sequencer :=
    { q with queue := l.takeWhile (fun m => decide (m.cls ≠ .information))
        ++ n :: l.dropWhile fun m => decide (m.cls ≠ .information) }
  if q.active = none then q.started n
  else if q.full = false then joined q.queue
  else
    match q.victim with
    | some v => joined (q.queue.erase v)
    | none => q

/-- A journey notice as it is posted: repeats 2, dwell 8 s, the languages of the rotation list (R147). -/
def State.journeyPost (t : State) (k : JourneyKind) (stop : Nat) (items : List Item) (v : Validity) : Notice :=
  ⟨.journey, 0, some k, some stop, items, 2, 8,
   BitVec.ofNat 4 (((List.range 4).filter fun i => t.line.rotation.contains i).map fun i => 2 ^ i).sum, v, 0, 0⟩

/-- The reference end of a stop: for C the arrival end when it is present, else the leading end (R78). -/
def State.frontAt (t : State) (stop : Nat) : TrainEnd :=
  if t.appr.current = some stop then t.form.arrival.getD t.form.lead else t.form.lead

/-- The target coach at a stop when this coach is off its platform there (R80): the platform takes the
first k coaches under the reference end of the stop, fewer than there are, and this coach stands after
them. -/
def State.shortTarget (t : State) (stop : Nat) : Option Nat :=
  let n := t.form.active.length
  let front := t.frontAt stop
  match (t.plan.stops[stop]?).bind StopRecord.length, t.form.active.findIdx? fun x => x.unit = t.unitId with
  | some k, some i =>
    if k < n ∧ k < (if front = .one then i + 1 else n - i) then
      (t.form.active[if front = .one then k - 1 else n - k]?).map CoachEntry.coach
    else none
  | _, _ => none

/-- The journey notices that a stage of C posts, in their order (R146, R148). -/
def State.stagePosts (t : State) (c : Nat) (st : Stage) : List Notice :=
  match t.plan.stops[c]? with
  | none => []
  | some r =>
    let own := match t.portion with
      | some po => [Item.destination po]
      | none => []
    if st = .announce then
      [t.journeyPost .nextStop c [.phrase 0, .stopName c, .platform c] (.stage .atPlatform)]
    else if st = .approach then
      t.journeyPost .arriving c [.phrase 1, .stopName c, .doorSideOf c] (.stage .departed)
      :: (match t.shortTarget c with
          | some k => [t.journeyPost .shortPlatform c [.phrase 5, .phrase 6, .coach k] (.stage .departed)]
          | none => [])
      ++ (if r.event = .divide then
          [t.journeyPost .divide c ([.phrase 7, .stopName c, .phrase 8] ++ own) (.stage .departed)]
        else [])
    else if st = .atPlatform ∧ r.connections ≠ [] then
      [t.journeyPost .connections c ([.phrase 9, .stopName c] ++ r.connections.map Item.phrase) (.stage .departed)]
    else []

/-- A journey notice that awaits a stage lasts 60 s instead once the plan has ENDED (R149). -/
def Notice.inEnded (n : Notice) : Notice :=
  match n.validity with
  | .stage _ => if n.cls = .journey then { n with validity := .limit 60000 } else n
  | _ => n

/-- The Notice Sequencer once the notices of C's last stage have arrived and, where the plan is then ENDED,
FINAL_STOP after them (R146 to R149). -/
def State.seqPosted (t : State) (c : Nat) (st : Stage) (q : Sequencer) : Sequencer :=
  let q1 := (t.stagePosts c st).foldl Sequencer.arrive q
  if t.plan.state = .ended then
    (q1.mapNotices Notice.inEnded).arrive
      (t.journeyPost .finalStop c [.phrase 12, .stopName c, .phrase 13] (.limit 60000))
  else q1

/-- A notice as the re-test of short-platform targets leaves it (R151): a SHORT_PLATFORM notice is none
where this coach is no longer off the platform at its stop, else its COACH item names the target. -/
def State.targeted (t : State) (n : Notice) : Option Notice :=
  if n.kind = some .shortPlatform then
    (n.stop.bind t.shortTarget).map fun k => { n with items := n.items.map fun i => match i with
      | .coach _ => .coach k
      | i => i }
  else some n

/-- The Notice Sequencer after the re-test of short-platform targets, an active notice that ends making
its return to the notices that stay (R151, R159, R160). -/
def State.retested (t : State) (q : Sequencer) : Sequencer :=
  let kept : Sequencer := { q with
    queue := q.queue.filterMap t.targeted
    slot1 := q.slot1.bind t.targeted
    slot2 := q.slot2.bind t.targeted }
  match q.active, q.active.bind t.targeted with
  | some _, some n => { kept with active := some n }
  | some a, none => if a.cls = .alarm then kept.returnedFromAlarm else kept.returned
  | none, _ => kept

/-- The Notice Sequencer of s, re-tested where the leading end of t is another (R86, R151). -/
def State.seqTurned (s t : State) : Sequencer := if t.form.lead = s.form.lead then s.seq else t.retested s.seq

/-! ### The stage of C (chapter 3) -/

/-- The time to go to a stop in seconds (R61). -/
def State.secondsTo (t : State) (c : Nat) : Nat :=
  let d := t.plan.lineAt c - t.odo.position
  if d = 0 then 0 else if t.odo.speed = 0 then 65535 else min 65535 (d * 1000 / t.odo.speed)

/-- The stage, below DEPARTED, at which the passes over the table leave a C no more than 400 m behind S that
begins below AT_PLATFORM, by distance, time, speed and standstill and without door activation (R64). -/
def State.stageAfter (t : State) (c : Nat) (st : Stage) : Stage :=
  let d := t.plan.lineAt c - t.odo.position
  let judged := decide (t.odo.mode ≠ .hold)
  let announces := judged
    && (decide (t.secondsTo c ≤ t.appr.annTime) || decide (d ≤ t.appr.annDist))
  let approaches := judged && decide (t.secondsTo c ≤ t.appr.appTime) && decide (d ≤ 3000)
  let berths := judged && decide (d ≤ 600) && decide (t.odo.speed ≤ 4166)
  if st = .berthing ∨ berths = true then
    (if t.appr.standstill = true ∧ d ≤ 150 then .atPlatform else .berthing)
  else if st = .approach ∨ approaches = true then .approach
  else if st = .announce ∨ announces = true then .announce
  else .cruise

/-- The ETA minutes of C, none where none are shown (R62). -/
def State.minutesOfC (t : State) : Option Nat :=
  match t.appr.current, t.appr.stage with
  | some c, some st =>
    if t.secondsTo c = 65535 ∨ t.odo.mode = .hold ∨ 4 ≤ st.code then none
    else some (max 1 (min 99 ((t.secondsTo c + 59) / 60)))
  | _, _ => none

/-- The Formation Table once the stop has reached the stage: at AT_PLATFORM the arrival end is taken, then a
REVERSE stop turns the leading end (R78, R86). -/
def State.formAt (s : State) (c : Nat) (st : Stage) : Formation :=
  if st = .atPlatform then
    { s.form with
      arrival := some s.form.lead
      lead := if (s.plan.stops[c]?).map StopRecord.event = some .reverse then s.form.lead.flip else s.form.lead }
  else s.form

/-- What an evaluation of the stage of C marks and re-forms (R62, R68, R86, R111): door maps at a change of C
or of its stage, banners at a change of C or of the minutes, which are formed; every display where a
stage was reached; every panel, with FORMATION, where the coach was reversed. -/
def State.StageShown (s t : State) : Prop :=
  t.appr.eta = t.minutesOfC
  ∧ (t.appr.eta ≠ s.appr.eta ∨ t.appr.current ≠ s.appr.current → t.StaleAt fun x => decide (x.kind = .banner))
  ∧ (t.appr.current ≠ s.appr.current ∨ t.appr.stage ≠ s.appr.stage →
    t.StaleAt (fun x => decide (x.kind = .doorMap)) ∧ s.Reformed (fun _ => true) t)
  ∧ (t.form.lead ≠ s.form.lead →
    t.StaleAt (fun _ => true)
    ∧ .formation true t.attached t.position t.portion t.facing ∈ t.link.operations.events)

/-- What the end of the journey does besides the notices (R30): every segment removed, every hold broken,
every mark set, JOURNEY_END for both ports. -/
def State.JourneyEnded (s t : State) : Prop :=
  t.table.undisplayed = (s.table.keeping fun _ => []).undisplayed
  ∧ s.HoldsBroken t ∧ s.Marked (fun _ => true) t
  ∧ .journeyEnd ∈ t.link.operations.events ∧ .journeyEnd ∈ t.link.content.events

/-- C, the stop c, has departed, and the evaluation goes on with the next calling stop, S being no more than
400 m beyond it; or there is none, and the plan is ENDED (R67, R68, R112).  Nothing is said of the
notices where one of either stop was held before. -/
def State.DepartedFrom (s : State) (c : Nat) (passed : Bool) (t : State) : Prop :=
  match s.nextCall c with
  | some d =>
    t.odo.position ≤ s.plan.lineAt d + 400 →
      t.appr.current = some d ∧ t.appr.stage = some (t.stageAfter d .cruise)
      ∧ t.appr.last = some c ∧ t.appr.passed = passed ∧ t.appr.departureRun = 0
      ∧ t.plan.state = (if t.appr.stage = some .atPlatform ∧ s.coachCalls.getLast? = some d then .ended else .running)
      ∧ t.form = State.formAt { s with form := { s.form with arrival := none } } d (t.stageAfter d .cruise)
      ∧ .stage d (t.stageAfter d .cruise) false ∈ t.link.operations.events
      ∧ ((∀ n ∈ s.seq.all, n.stop ≠ some c ∧ n.stop ≠ some d) →
        t.seq = t.seqPosted d (t.stageAfter d .cruise) (s.seqTurned t))
      ∧ (t.plan.state = .running →
        s.Keeps (fun x => x.segments.filter fun g => g.stranded || match s.eff g.toStop with
          | some e => decide (c < e)
          | none => true) t)
      ∧ (t.plan.state = .ended → s.JourneyEnded t)
  | none =>
    t.appr.current = none ∧ t.appr.stage = none ∧ t.appr.last = some c ∧ t.appr.passed = passed
    ∧ t.plan.state = .ended ∧ t.form = { s.form with arrival := none }
    ∧ .stage c .departed passed ∈ t.link.operations.events
    ∧ ((∀ n ∈ s.seq.all, n.stop ≠ some c) → t.seq = t.seqPosted c .departed s.seq)
    ∧ s.JourneyEnded t

/-- C, the stop c, has come from stage st to stage st1, a later one below DEPARTED, and stayed there (R67,
R68, R150).  Nothing is said of the notices that arrive where one of the stop was held before. -/
def State.CameTo (s : State) (c : Nat) (st1 : Stage) (t : State) : Prop :=
  t.appr.current = some c ∧ t.appr.stage = some st1 ∧ t.appr.last = s.appr.last
  ∧ t.appr.passed = s.appr.passed
  ∧ t.plan.state = (if st1 = .atPlatform ∧ s.coachCalls.getLast? = some c then .ended else .running)
  ∧ t.form = s.formAt c st1 ∧ .stage c st1 false ∈ t.link.operations.events
  ∧ (st1 = .atPlatform → t.appr.departureRun = 0)
  ∧ (t.plan.state = .running →
    ∀ n ∈ t.seq.all, n.stop = some c → match n.validity with
      | .stage v => st1.code < v.code
      | _ => True)
  ∧ ((∀ n ∈ s.seq.all, n.stop ≠ some c) → t.seq = t.seqPosted c st1 (s.seqTurned t))
  ∧ (t.plan.state = .running → t.table.undisplayed = s.table.undisplayed ∧ t.holds = s.holds)
  ∧ (t.plan.state = .ended → s.JourneyEnded t)

/-- What an evaluation of the stage of C without door activation does (R63 to R68), run being the departure
run it finds and t the state after it: C stays at its stage or moves on by the table, and is left when S
is more than 400 m beyond it or when, at AT_PLATFORM, the departure run is 3.  Evaluations that leave
more than one stop are not described. -/
def State.Evaluated (s : State) (run : Nat) (t : State) : Prop :=
  match s.appr.current, s.appr.stage with
  | some c, some st =>
    s.plan.state = .running → s.link.rest = .awake → s.hasRoute = true → st ≠ .departed →
      s.StageShown t
      ∧ (let st1 := if st = .atPlatform then st else t.stageAfter c st
        t.odo.position ≤ s.plan.lineAt c + 400 → ¬ (st = .atPlatform ∧ run = 3) →
          (st1 ≠ st → s.CameTo c st1 t)
          ∧ (st1 = st → t.plan = s.plan ∧ t.form = s.form ∧ t.table = s.table ∧ t.holds = s.holds ∧ t.seq = s.seq
            ∧ t.appr = { s.appr with departureRun := run, standstill := t.appr.standstill, eta := t.appr.eta }))
      ∧ (s.plan.lineAt c + 400 < t.odo.position ∨ (st = .atPlatform ∧ run = 3) →
        s.DepartedFrom c (decide (st.code < 4)) t)
  | _, _ => True

/-! ### What seats and panels show (chapters 5, 7 and 9) -/

/-- The display of a seat, row by row (R109, R110): eff(to) and the label of the current segment, eff(from)
of the first later one; a label phrase that is absent is 18, 19 or 20 by the kind (R190). -/
def State.shown (s : State) (x : Seat) : Display :=
  let current := x.segments.find? fun g => match s.eff g.fromStop, s.eff g.toStop, s.refStop with
    | some f, some t, some r => decide (f ≤ r) && decide (r < t)
    | _, _, _ => false
  let later := x.segments.find? fun g => match s.eff g.fromStop, s.refStop with
    | some f, some r => decide (r < f)
    | _, _ => false
  let nearing := s.appr.stage = some .announce ∨ s.appr.stage = some .approach ∨ s.appr.stage = some .berthing
  if (s.plan.state ≠ .ready ∧ s.plan.state ≠ .running) ∨ s.entry = none then ⟨.noService, none, none⟩
  else if x.blocked = true then ⟨.outOfUse, none, none⟩
  else if ∃ g ∈ x.segments, g.stranded = true then ⟨.underReview, none, none⟩
  else
    match current, later with
    | some g, _ =>
      ⟨if s.eff g.toStop = s.appr.current ∧ nearing then .releasing else .reserved, s.eff g.toStop,
        some (g.label.getD (match g.kind with
          | .booked => 18
          | .group => 19
          | .staff => 20))⟩
    | none, some g => ⟨.freeUntil, s.eff g.fromStop, none⟩
    | none, none => ⟨.free, none, none⟩

/-- Whether this coach is A_LEADS under a formation end; none while DETACHED (R77). -/
def State.leadsA (s : State) (front : TrainEnd) : Option Bool :=
  s.entry.map fun x => match x.endATo2, front with
    | false, .one => true
    | false, .two => false
    | true, .one => false
    | true, .two => true

/-- The body side of a door side for this coach under a formation end, 3 for both; none while DETACHED
(R79). -/
def State.sideUnder (s : State) (d : DoorSide) (front : TrainEnd) : Option Nat :=
  (s.leadsA front).map fun a => match d, a with
    | .left, true => 1
    | .left, false => 2
    | .right, true => 2
    | .right, false => 1
    | .both, _ => 3

/-- A TEXT cell of the name phrase of a stop. -/
def State.nameText (s : State) (n : Nat) : Cell :=
  .text [.phrase (((s.plan.stops[n]?).map StopRecord.name).getD 0)]

/-- A TEXT cell of the fixed phrase for a body side (R190). -/
def sideText (side : Nat) : Cell := .text [.phrase (if side = 1 then 2 else if side = 2 then 3 else 4)]

/-- A TEXT cell of "Coach", a space and a number. -/
def coachText (n : Nat) : Cell := .text [.phrase 14, .bytes (0x20 :: digits n)]

/-- The TEXT cells of "Platform", a space and the platform phrase, when it is present. -/
def platformText (r : StopRecord) : List Cell :=
  r.platform.toList.map fun k => .text [.phrase 15, .bytes [0x20], .phrase k]

/-- The cells of one item of the active notice (R140, R141, log entry 42). -/
def State.itemText (s : State) : Item → List Cell
  | .phrase n => [.text [.phrase n]]
  | .stopName n => if n < s.plan.stops.length then [s.nameText n] else []
  | .minutes n => [.text [.bytes (digits n ++ [0x20]), .phrase 16]]
  | .coach n => [coachText n]
  | .platform n => (s.plan.stops[n]?).toList.flatMap platformText
  | .doorSide d => (s.sideUnder d s.form.lead).toList.map sideText
  | .doorSideOf n =>
    (s.plan.stops[n]?).toList.flatMap fun r => (s.sideUnder r.doorSide (s.frontAt n)).toList.map sideText
  | .destination po => (s.plan.calls po).getLast?.toList.map s.nameText

/-- The planned minute of a stop: the arrival, or the departure where it is absent (R203). -/
def StopRecord.minute (r : StopRecord) : Option Nat := r.arrival <|> r.departure

/-- The STOP cell of a stop, and "expected" where the delay is not 0 (R203). -/
def stopText (n : Nat) (r : StopRecord) : Cell × List Cell :=
  (.stop n r.minute (r.minute.map fun m => (max 0 (min 2879 ((m : Int) + r.delay))).toNat),
   if r.delay ≠ 0 ∧ r.minute ≠ none then [.text [.phrase 23]] else [])

/-- A seat strip page (R202). -/
def State.stripCells (s : State) (x : Panel) : List Cell :=
  let bank := if s.facing = .aLeads then s.form.bankA else s.form.bankB
  (s.table.seats.filter fun y => decide (y.bay = x.param)).flatMap fun y =>
    let d := s.shown y
    .seat y.number y.category d.state (bank.getD (x.addr - 1) ⟨.absent, false⟩).arrow
    :: (if d.state = .reserved ∨ d.state = .releasing then
          .text [.phrase 21] :: (d.boundary.toList.map s.nameText ++ d.label.toList.map fun k => .text [.phrase k])
        else if d.state = .freeUntil then .text [.phrase 22] :: d.boundary.toList.map s.nameText
        else [])

/-- A door map page, in its two forms (R203, R204). -/
def State.mapCells (s : State) (x : Panel) : List Cell :=
  let bank := if s.facing = .aLeads then s.form.bankA else s.form.bankB
  let order := Cell.mapOrder (bank.getD (x.addr - 1) ⟨.absent, false⟩).firstRight
  let clock := Cell.clock (if s.clock.set then some (s.clock.second / 60) else none)
  let below := s.appr.current ≠ none ∧ s.appr.stage.any Stage.isBelow = true
  let marker (n : Nat) : List Cell :=
    if below then (if s.appr.current = some n then [.marker true] else [])
    else if s.refStop = some n then [.marker false] else []
  let one (n : Nat) (r : StopRecord) : List Cell :=
    marker n ++ [(stopText n r).1, s.nameText n] ++ platformText r ++ (stopText n r).2
    ++ (if r.event = .divide ∨ r.event = .join then
          .splitJoin (decide (r.event = .join)) s.portion :: s.coachCalls.getLast?.toList.map s.nameText
        else [])
  let onward := s.refStop.toList.flatMap fun r => (s.coachCalls.filter fun n => decide (r ≤ n)).take 8
  let ofC (c : Nat) (r : StopRecord) : List Cell :=
    match s.sideUnder r.doorSide (s.frontAt c), s.leadsA (s.frontAt c) with
    | some side, some a =>
      [.doors side, sideText side]
      ++ (if x.param = (if a then 0 else 1) then
            (s.shortTarget c).toList.flatMap fun k => [.text [.phrase 5], .text [.phrase 6], coachText k]
          else [])
    | _, _ => []
  if s.plan.state = .empty ∨ s.plan.state = .loading ∨ s.entry = none then [order, clock, .text [.phrase 17]]
  else
    [order, .coach s.coachNumber s.position, clock]
    ++ onward.flatMap (fun n => (s.plan.stops[n]?).toList.flatMap (one n))
    ++ s.appr.current.toList.flatMap fun c => (s.plan.stops[c]?).toList.flatMap (ofC c)

/-- A banner page (R205). -/
def State.bannerCells (s : State) : List Cell :=
  match s.seq.active, s.appr.current, s.appr.stage with
  | some n, _, _ => n.items.flatMap s.itemText
  | none, some c, some st =>
    (if s.entry = none then none else s.plan.stops[c]?).toList.flatMap fun r =>
      if 4 ≤ st.code then s.nameText c :: platformText r
      else
        [.text [.phrase 0], s.nameText c] ++ match s.appr.eta with
          | some m => [.minutes m, .text [.phrase 16]]
          | none => (stopText c r).1 :: (stopText c r).2
  | none, _, _ => []

/-- The page of a panel (R202 to R205). -/
def State.page (s : State) (x : Panel) : List Cell :=
  match x.kind with
  | .seatStrip => s.stripCells x
  | .doorMap => s.mapCells x
  | .banner => s.bannerCells

/-- The text of a phrase that an internal read gives: that of the language, else that of language 0, of an
entry that is usable, else no bytes (R167, R180). -/
def Store.reads (st : Store) (lang n : Nat) : List Byte :=
  let under := match st.op.erase? with
    | some er => decide (er.current ≤ n / 8) && decide (n / 8 ≤ er.last)
    | none => false
  let usable (l : Nat) : Option (List Byte) := match getEntry st.entries (4 * n + l) with
    | some (.valid text) => if under || st.incomplete.getLsbD (n / 8) then none else some text
    | _ => none
  (usable lang <|> usable 0).getD []

/-- Whether a TEXT cell holds a phrase that reads blank (R181, R206). -/
def Store.blankText (st : Store) (lang : Nat) (parts : List TextPart) : Bool :=
  parts.any fun x => match x with
    | .phrase n => (st.reads lang n).isEmpty
    | .bytes _ => false

/-- The text of a TEXT cell: of no bytes when a phrase of it reads blank (log entry 15), else its parts
joined, cut to 120 bytes at the last character boundary within them (R141). -/
def Store.textOf (st : Store) (lang : Nat) (parts : List TextPart) : List Byte :=
  let whole := parts.flatMap fun x => match x with
    | .phrase n => st.reads lang n
    | .bytes b => b
  let begins (k : Nat) : Bool :=
    decide (k = 0) || decide ((whole.getD k 0).toNat < 0x80) || decide (0xBF < (whole.getD k 0).toNat)
  if st.blankText lang parts then []
  else if whole.length ≤ 120 then whole
  else whole.take (((List.range 121).filter begins).getLast?.getD 0)

/-- A cell on the wire: its code, its length and its data (1.10). -/
def Store.cellBytes (st : Store) (lang : Nat) : Cell → List Byte
  | .text parts => [0x01] ++ be 1 (st.textOf lang parts).length ++ st.textOf lang parts
  | .seat n cat d a => [0x02, 5] ++ be 2 n ++ be 1 cat.code ++ be 1 d.code ++ be 1 a.code
  | .stop n planned forecast => [0x03, 5] ++ be 1 n ++ orFFFF planned ++ orFFFF forecast
  | .marker between => [0x04, 1] ++ flag between
  | .splitJoin join po => [0x05, 2] ++ flag join ++ orFF (po.map Portion.code)
  | .coach n pos => [0x06, 2] ++ be 1 n ++ be 1 pos
  | .doors side => [0x07, 1] ++ be 1 side
  | .clock m => [0x08, 2] ++ orFFFF m
  | .mapOrder right => [0x09, 1] ++ flag right
  | .minutes n => [0x0A, 1] ++ be 1 n

/-- Whether a cell is a TEXT cell. -/
def Cell.isText : Cell → Bool
  | .text _ => true
  | _ => false

/-- Whether a cell is a TEXT cell whose read gave a blank item (R206). -/
def Store.blankCell (st : Store) (lang : Nat) : Cell → Bool
  | .text parts => st.blankText lang parts
  | _ => false

/-! ### Waking -/

/-- What waking leaves, whatever woke the part (R19, R58, R208): the part AWAKE with WOKE pending, no
trust in the reported speed, every run and speed 0, the mode HOLD after a pulse or DEAD_RECKON, every
panel stale with a FAILED panel's probe timer at 10 s, the rotation timer started afresh. -/
def State.Woken (s : State) (why : WakeReason) (t : State) : Prop :=
  t.link.rest = .awake ∧ .woke why ∈ t.link.operations.events
    ∧ (∃ m, t.odo = { s.odo with
        speed := 0, prevSpeed := 0, mode := m, fresh := false, freshLeft := 0, suspectRun := 0
        failureRun := 0, disagreementRun := 0, agreementRun := 0, zeroRun := 0, exemption := false }
      ∧ (m = if s.odo.pulseInRest ∨ s.odo.mode = .deadReckon then .hold else s.odo.mode)
      ∧ t.appr = { s.appr with doorTaken := s.doorLine, standstill := decide (m = .hold) })
    ∧ t.line.panels = (s.line.panels.map fun x =>
        { x with stale := true, probe := if x.state = .failed then .running 10000 else x.probe })
    ∧ t.line.rotationLeft = (if 2 ≤ s.line.rotation.length then 1000 * s.line.dwell else 0)
    ∧ t.line.blankFrom = none
    ∧ { t with link := s.link, odo := s.odo, appr := s.appr,
               line := { t.line with
                 panels := s.line.panels, rotationLeft := s.line.rotationLeft,
                 blankFrom := s.line.blankFrom } } = s

end Sys2Proof.Machine
end

