-- ==== Sys2Proof/Certificates/Slice0/Obligations.lean ====
section
/-!
DEFINITION. What the CI16 model is claimed to do, one statement each.  A request is stated in its port's
service (State.Takes; how a command comes to be in service is log entry 1), its payload written from its
fields.  A conclusion is that exec answers a next state, described whole or up to the parts it names.
-/
open Sys2Proof Sys2Proof.Machine

/-! ### The step, the Link Unit, resets, rest (chapter 1) -/

/-- A step takes the command at the front of the queue and leaves the queue's rest (the block's step).  On
an empty queue nothing happens without power; else what the state calls for is queued (a due reset alone;
the request at the head of a queue, a waiting reply or else a report, a probe, a page, a blank page); else
1 ms passes in every timer and window, and the command of each that runs out with it is queued.  The queue
is the model's (log entry 9), and so is what an empty one does (log entry 3). -/
def Obligations.StepTakesFrontCommand : Prop :=
  (∀ (c : Instr) (rest : List Instr) (s : State),
    step { s with pending := c :: rest } = exec c { s with pending := rest })
  ∧ ∀ s : State, s.pending = [] →
    let port (p : Port) : List Instr :=
      (match (s.port p).service, (s.port p).queue with
        | .untaken, r :: _ => [requestCommand p r]
        | _, _ => [])
      ++ (if (s.port p).tx ≠ .free then []
        else if (s.port p).reply ≠ none then [.replySend p]
        else if (s.port p).events ≠ [] then [.reportSend p]
        else [])
    let line : List Instr :=
      if s.line.flight ≠ none then []
      else if s.link.rest = .resting then
        (if ∃ x ∈ s.line.panels, ∃ n ∈ s.line.blankFrom, n ≤ x.addr then [.blankPageSend] else [])
      else if ∃ x ∈ s.line.panels, x.state = .failed ∧ x.probe = .due then [.probeSend]
      else if ∃ x ∈ s.line.panels, x.stale = true ∧ x.state = .idle then [.pageSend]
      else []
    let called : List Instr :=
      if s.link.restart = .due then [.restartReset] else port .operations ++ port .content ++ line
    let next (length ms : Nat) := if ms + 1 < length then ms + 1 else 0
    let tick (n : Notice) : Notice := { n with validity := match n.validity with
      | .limit ms => .limit (ms - 1)
      | v => v }
    (s.powered = false → step s = .next s)
    ∧ (∀ p r, (requestCommand p r).request? = some (p, r.kind, r.payload))
    ∧ (s.powered = true → called ≠ [] → step s = .next { s with pending := called })
    ∧ (s.powered = true → called = [] → ∃ t, step s = .next t
      ∧ t.clock = { s.clock with phase := if s.clock.set then next 1000 s.clock.phase else s.clock.phase }
      ∧ t.odo = { s.odo with windowMs := next 200 s.odo.windowMs, freshLeft := s.odo.freshLeft - 1 }
      ∧ t.seq = ⟨s.seq.queue.map tick, s.seq.active.map tick, s.seq.slot1.map tick, s.seq.slot2.map tick,
          s.seq.dwellLeft - 1⟩
      ∧ t.store = { s.store with op := match s.store.op with
          | .programming pr => .programming { pr with left := pr.left - 1 }
          | .heldProgramming er pr => .heldProgramming er { pr with left := pr.left - 1 }
          | .erasing er => .erasing { er with left := er.left - 1 }
          | op => op }
      ∧ t.line = { s.line with
          panels := s.line.panels.map fun x => { x with probe := match x.probe with
            | .running ms => .running (ms - 1)
            | y => y }
          flight := s.line.flight.map fun fr => match fr.body with
            | .sent _ => { fr with ackLeft := fr.ackLeft - 1 }
            | .waiting _ => fr
          rotationLeft := s.line.rotationLeft - 1 }
      ∧ t.bright = { s.bright with windowMs := next 1000 s.bright.windowMs }
      ∧ { t with clock := s.clock, odo := s.odo, seq := s.seq, store := s.store, line := s.line,
                 bright := s.bright, pending := [] } = s
      ∧ (∀ c, c ∈ t.pending ↔
          (c = .dwellExpiry ∧ s.seq.active ≠ none ∧ s.seq.dwellLeft = 1)
          ∨ (∃ n ∈ s.seq.all, n.validity = .limit 1 ∧ c = .noticeValidityExpiry (match n.kind with
              | none => .posted n.tag
              | some k => .journey k (n.stop.getD 0)))
          ∨ (c = .rotationTimerExpiry ∧ s.line.rotationLeft = 1)
          ∨ (∃ x ∈ s.line.panels, x.probe = .running 1 ∧ c = .probeTimerExpiry x.addr)
          ∨ (c = .ackTimeout ∧ ∃ fr ∈ s.line.flight, fr.ackLeft = 1 ∧ ∃ bytes, fr.body = .sent bytes)
          ∨ (c = .programComplete ∧ ∃ pr ∈ s.store.op.program?, pr.left ≤ 1)
          ∨ (c = .sectorEraseFinish ∧ ∃ er, s.store.op = .erasing er ∧ er.left ≤ 1)
          ∨ (c = .speedStale ∧ s.odo.freshLeft = 1)
          ∨ (c = .clockTick ∧ s.clock.set = true ∧ 999 ≤ s.clock.phase)
          ∨ (c = .heatWindowEnd ∧ 999 ≤ s.bright.windowMs)
          ∨ (c = .odometerWindowEnd ∧ 199 ≤ s.odo.windowMs)))

/-- Every command is carried out in every state: none ends in a fault or a refusal (each row of chapter
95 has an effect), and none touches the commands that wait, nor the identity of R13.  That a command
outside its conditions, or without power, changes nothing is the model's choice (log entries 2 and 8). -/
def Obligations.EveryCommandCompletes : Prop :=
  ∀ (c : Instr) (s : State), ∃ t, exec c s = .next t ∧ t.pending = s.pending ∧ t.unitId = s.unitId

/-- R1 to R3: a whole frame on a listening receiver is checked and queued, discarded with FRAME_ERROR
when its CRC differs, or discarded with OVERRUN when the queue holds 4; a length above 1024 discards
at once; bytes before the line has been idle are ignored.  The line falling idle inside a frame discards
it with FRAME_ERROR, and the next 0xC3 starts a new frame; after ignored bytes an idle line makes the
receiver listen again.  Bytes come without an idle gap, those after a frame are ignored, and both commands
of an idle line discard a frame that is not complete (log entry 31). -/
def Obligations.FramesReceived : Prop :=
  ((∀ (s : State) (p : Port) (k : Byte) (b : List Byte) (c : Nat),
    s.powered = true → (s.port p).rx = .listening → b.length ≤ 1024 → c < 65536 →
    exec (.frameReceived p (0xC3 :: (be 2 b.length ++ [k] ++ b ++ be 2 c))) s
      = .next (s.onPort p fun ps =>
          if c ≠ (crc (be 2 b.length ++ [k] ++ b)).toNat then { ps with rx := .ignoring, frameError := true }
          else if ps.queue.length < 4 then { ps with rx := .ignoring, queue := ps.queue ++ [⟨k, b⟩] }
          else { ps with rx := .ignoring, overrun := true }))
  ∧ (∀ (s : State) (p : Port) (hi lo : Byte) (more : List Byte),
    s.powered = true → (s.port p).rx = .listening → 1024 < 256 * hi.toNat + lo.toNat →
    exec (.frameReceived p (0xC3 :: hi :: lo :: more)) s
      = .next (s.onPort p fun ps => { ps with rx := .ignoring, frameError := true }))
  ∧ (∀ (s : State) (p : Port) (bytes : List Byte),
    s.powered = true → (s.port p).rx = .ignoring → exec (.frameReceived p bytes) s = .next s))
  ∧ (∀ (s : State) (p : Port), s.powered = true →
    (∀ got, (s.port p).rx = .receiving got →
      exec (.frameIdleTimeout p) s
        = .next (s.onPort p fun ps => { ps with rx := .listening, frameError := true })
      ∧ exec (.lineIdle p) s = exec (.frameIdleTimeout p) s)
    ∧ ((s.port p).rx = .ignoring →
      exec (.lineIdle p) s = .next (s.onPort p fun ps => { ps with rx := .listening })))

/-- R6 steps 1 to 3, R7, R8 and R18: a kind outside the catalogue of 1.10 is answered UNKNOWN_KIND, the
reply's kind being the request's with its top bit set, or 0x80 for 0x7F and for every kind whose top bit
is set already; on the Content port a kind of the Operations port, or a Post Notice of another class than
INFORMATION, is refused with PRIVILEGE; in rest a kind not allowed there is refused with ASLEEP.  None has
an effect beyond those that every refusal of its kind has. -/
def Obligations.LinkUnitChecks : Prop :=
  (∀ (s : State) (p : Port) (k : Byte) (b : List Byte),
    s.inService p k b = true → catalogueRow k = none →
    exec (.unknownKindRequest p k b) s = .next (s.replied p k b .unknownKind [])
    ∧ ((s.replied p k b .unknownKind []).port p).reply
      = some ⟨if k = 0x7F ∨ 0x80 ≤ k.toNat then 0x80 else k ||| 0x80, .unknownKind, []⟩)
  ∧ (∀ (c : Instr) (s : State) (p : Port) (k : Byte) (b : List Byte),
    c.wf = true → c.request? = some (p, k, b) → (∀ q l d, c ≠ .unknownKindRequest q l d) →
    s.inService p k b = true →
    let operationsOnly : List Byte :=
      [0x03, 0x04, 0x05, 0x06, 0x10, 0x11, 0x12, 0x13, 0x14, 0x15, 0x20, 0x21, 0x22, 0x23, 0x24, 0x30,
       0x31, 0x32, 0x33, 0x35, 0x41, 0x52, 0x67, 0x68, 0x70, 0x71, 0x73, 0x74, 0x75, 0x76]
    let restricted := p = .content ∧ (k ∈ operationsOnly ∨ (k = 0x50 ∧ ∃ x more, b = x :: more ∧ x ≠ 3))
    let allowedInRest := k = 0x01 ∨ k = 0x02 ∨ (p = .operations ∧ (k = 0x03 ∨ k = 0x05))
    (restricted → exec c s = .next ((s.refusalEffect p k).replied p k b .privilege []))
    ∧ (¬ restricted → s.link.rest = .resting → ¬ allowedInRest →
      exec c s = .next ((s.refusalEffect p k).replied p k b .asleep [])))

/-- R6: a refused request changes nothing but its port's service and waiting reply, except that Write
Phrase and Erase Sectors clear the latch and Commit Seat ends its port's hold. -/
def Obligations.RefusalHasNoEffect : Prop :=
  ∀ (c : Instr) (s t : State) (p : Port) (k : Byte) (b : List Byte) (r : Reply),
    c.wf = true → c.request? = some (p, k, b) → s.inService p k b = true → exec c s = .next t →
    (t.port p).service = .answered → (t.port p).reply = some r → r.status ≠ .done →
    t = (s.refusalEffect p k).replied p k b r.status r.payload

/-- R4 and R11: a reply's first byte carries the port flags and RESTING, and clears FRAME_ERROR and
OVERRUN; the frame is that of 1.10.  No frame begins while the reset of a Restart is due (log entry 28). -/
def Obligations.ReplySent : Prop :=
  ∀ (s : State) (p : Port) (r : Reply), s.powered = true → s.link.restart ≠ .due → (s.port p).tx = .free →
    (s.port p).reply = some r →
    let flags := (if (s.port p).frameError then 1 else 0) + (if (s.port p).overrun then 2 else 0)
      + (if s.link.rest = .resting then 4 else 0)
    let counted := be 2 r.payload.length ++ [r.kind, r.status.code] ++ be 1 flags ++ r.payload
    exec (.replySend p) s
      = .next (s.onPort p fun ps => { ps with
          tx := .reply (0xC3 :: (counted ++ be 2 (crc counted).toNat))
          reply := none
          frameError := false
          overrun := false })

/-- R3 and R11: when a reply's last byte has been sent, its request leaves the queue and the transmitter
is free, or starts a report of the whole pending set where no other request waits, whose reply goes first
again (log entry 43); after the reply to Restart the reset is due and nothing is sent (R16).  That nothing
happens between that and the reset is log entry 28. -/
def Obligations.ReplyEnds : Prop :=
  ∀ (s : State) (p : Port) (frame : List Byte), s.powered = true → (s.port p).tx = .reply frame →
    (s.port p).reply = none →
    (p = .operations ∧ s.link.restart = .replying →
      exec (.replyComplete p) s
        = .next { s with link := { s.link with
            restart := .due
            operations := { s.link.operations with
              queue := s.link.operations.queue.tail
              service := .untaken
              tx := .free } } })
    ∧ (¬ (p = .operations ∧ s.link.restart = .replying) →
      (s.port p).events = [] ∨ (s.port p).queue.tail ≠ [] ∨ s.link.restart = .due →
      exec (.replyComplete p) s
        = .next (s.onPort p fun ps => { ps with queue := ps.queue.tail, service := .untaken, tx := .free }))
    ∧ (¬ (p = .operations ∧ s.link.restart = .replying) → s.link.restart ≠ .due → (s.port p).queue.tail = [] →
      (s.port p).events ≠ [] →
      ∃ t, exec (.replyComplete p) s = .next t
        ∧ t.link = (s.onPort p fun ps => { ps with
            queue := ps.queue.tail
            service := .untaken
            tx := .report (reportBytes ps.events)
            events := [] }).link
        ∧ t.holds.unreported = (if ∃ bays, .marks bays ∈ (s.port p).events then 0 else s.holds.unreported)
        ∧ { t with link := s.link, holds := { t.holds with unreported := s.holds.unreported } } = s)

/-- R10, R11 and R135: a report carries every pending entry with its data of 1.10 and empties the set, and the unreported
marks with it when it carries MARKS; its end starts the waiting reply, with the bytes of R4, else another
report where the set has filled again, else frees the transmitter.  A SEND or COMPLETE command says when
a frame begins and ends (log entry 36); none begins while the reset of a Restart is due (log entry 28). -/
def Obligations.ReportsCarryTheWholeSet : Prop :=
  ∀ (s : State) (p : Port), s.powered = true →
    let reported (t : State) : Prop :=
      t.link = (s.onPort p fun ps => { ps with
        tx := .report (reportBytes (s.port p).events)
        events := [] }).link
      ∧ t.holds.unreported = (if ∃ bays, .marks bays ∈ (s.port p).events then 0 else s.holds.unreported)
      ∧ { t with link := s.link, holds := { t.holds with unreported := s.holds.unreported } } = s
    (s.link.restart ≠ .due → (s.port p).tx = .free → (s.port p).reply = none → (s.port p).events ≠ [] →
      ∃ t, exec (.reportSend p) s = .next t ∧ reported t)
    ∧ (∀ frame, s.link.restart ≠ .due → (s.port p).tx = .report frame → (s.port p).reply = none →
      (s.port p).events ≠ [] →
      ∃ t, exec (.reportComplete p) s = .next t ∧ reported t)
    ∧ (∀ frame, (s.port p).tx = .report frame →
      s.link.restart = .due ∨ ((s.port p).reply = none ∧ (s.port p).events = []) →
      exec (.reportComplete p) s = .next (s.onPort p fun ps => { ps with tx := .free }))
    ∧ (∀ frame r, s.link.restart ≠ .due → (s.port p).tx = .report frame → (s.port p).reply = some r →
      let flags := (if (s.port p).frameError then 1 else 0) + (if (s.port p).overrun then 2 else 0)
        + (if s.link.rest = .resting then 4 else 0)
      let body := be 2 r.payload.length ++ [r.kind, r.status.code] ++ be 1 flags ++ r.payload
      exec (.reportComplete p) s
        = .next (s.onPort p fun ps => { ps with
            tx := .reply (0xC3 :: (body ++ be 2 (crc body).toNat))
            reply := none
            frameError := false
            overrun := false }))

/-- R12, R125, R135 and R171: a break empties its port's queue, reply, events and flags and breaks the
port's hold; on Content it clears the latch and the unreported marks besides.  A report already being
sent goes on (log entry 11), and a frame under reception is dropped without FRAME_ERROR (log entry 38).
With a Restart under way a break on the Operations port carries out its reset at once (R16). -/
def Obligations.BreakEmptiesItsPort : Prop :=
  ∀ s : State, s.powered = true →
    let broken (ps : PortState) : PortState :=
      { queue := [], service := .untaken, reply := none
        tx := match ps.tx with
          | .report f => .report f
          | _ => .free
        rx := .ignoring, events := [], frameError := false, overrun := false }
    let brokenHold (h : Hold) : Hold := match h with
      | .standing n => .broken n
      | x => x
    exec (.portBreak .content) s
      = .next { s with
          link := { s.link with content := broken s.link.content }
          store := { s.store with latch := false }
          holds := { s.holds with content := brokenHold s.holds.content, unreported := 0 } }
    ∧ (s.link.restart = .none →
      exec (.portBreak .operations) s
        = .next { s with
            link := { s.link with operations := broken s.link.operations }
            holds := { s.holds with operations := brokenHold s.holds.operations } })
    ∧ (s.link.restart ≠ .none →
      exec (.portBreak .operations) s
        = exec .restartReset { s with link := { s.link with restart := .due } })

/-- R15, R41, R59, R88, R122, R133, R137, R191, R199, R210, R214, R216: what a power-up reset leaves;
the non-volatile marks of the Phrase Store survive it (R186), its scan counts the damage (R185), and
MARKS is pending on Content (R135).  That the receivers wait for an idle line is R1; that no reset raises
MODE, STAGE or another event of a block it sets is log entry 23. -/
def Obligations.PowerUpValues : Prop :=
  ∀ s : State, ∃ t, exec .powerUpReset s = .next t
    ∧ t.powered = true ∧ t.unitId = s.unitId ∧ t.doorLine = s.doorLine ∧ t.overheatLine = s.overheatLine
    ∧ t.link.rest = .awake ∧ t.link.restart = .none
    ∧ (∀ p, t.port p = ⟨[], .untaken, none, .free, .ignoring, (t.port p).events, false, false⟩)
    ∧ t.plan = ⟨.empty, []⟩ ∧ t.clock = ⟨false, 0, 0⟩
    ∧ t.odo = ⟨920, 100, 28902, 0, 0, 0, 0, .wheel, .healthy, 0, false, 0, 0, 0, 0, 0, 0, 0, false, 0, 0, false⟩
    ∧ t.appr = ⟨none, none, none, false, 0, s.doorLine, 180, 6000, 45, false, none⟩
    ∧ t.form = ⟨[], [], .one, none, List.replicate 24 ⟨.absent, false⟩, List.replicate 24 ⟨.absent, false⟩⟩
    ∧ t.table = ⟨[], 256⟩ ∧ t.holds = ⟨.absent, .absent, 0xFFFFFF, 0xFFFFFF⟩
    ∧ t.seq.queue = [] ∧ t.seq.active = none ∧ t.seq.slot1 = none ∧ t.seq.slot2 = none
    ∧ t.line = ⟨[], none, none, none, none, [0], 8, 0, 0, none⟩
    ∧ t.bright = ⟨⟨12, 6, 8⟩, ⟨12, 6, 8⟩, ⟨12, 6, 8⟩, 1200, 360, [], ⟨0, 0, false, 10, 4, false, false⟩,
        0, 0, 0, 0, .off, s.overheatLine⟩
    ∧ t.store = { s.store with
        latch := false
        op := .idle
        tornCount := s.store.entries.countP fun x =>
          decide (x.2 = .torn) && !s.store.incomplete.getLsbD (x.1 / 32)
        incompleteCount := (List.range 128).countP fun i => s.store.incomplete.getLsbD i }
    ∧ (let damage : List Event :=
        if 0 < t.store.tornCount ∨ 0 < t.store.incompleteCount then
          [.storeDamage t.store.tornCount t.store.incompleteCount]
        else []
      t.link.operations.events = (if s.overheatLine then [.overheat true] else []) ++ damage
      ∧ t.link.content.events = damage ++ [.marks 0xFFFFFF])

/-- R16: Restart answers DONE and the reset is still to come; once due, it is a power-up reset in which
the clock and the heat guard configuration keep their values, the heat state of an enabled guard is
HOT (R216), and the damage counts are kept, with the entry being programmed joining the TORN count
(R186; the entry is held as TORN from the start of its program, log entry 29).  MARKS is pending on Content
(R135), STORE_DAMAGE on both ports where a count is above 0 (R186), OVERHEAT where its line is active
(R217); and HEAT where the heat state or the ceiling differs from before, no other event (log entry 23). -/
def Obligations.RestartIsAResetButForThree : Prop :=
  (∀ s : State, s.Takes .operations 0x03 [] →
    exec (.restart .operations []) s
      = .next (State.replied { s with link := { s.link with restart := .replying } }
          .operations 0x03 [] .done []))
  ∧ (∀ s : State, s.powered = true → s.link.restart = .due →
    ∃ t u, exec .restartReset s = .next t ∧ exec .powerUpReset s = .next u
      ∧ t.clock = s.clock
      ∧ t.bright = { u.bright with
          guard := s.bright.guard
          heat := if s.bright.guard.enabled then .hot else .off }
      ∧ t.store = { s.store with
          latch := false
          op := .idle
          tornCount := s.store.tornCount + (if s.store.op.program?.isSome then 1 else 0) }
      ∧ t.link.quiet = u.link.quiet
      ∧ (let damage : List Event :=
          if 0 < t.store.tornCount ∨ 0 < t.store.incompleteCount then
            [.storeDamage t.store.tornCount t.store.incompleteCount]
          else []
        t.link.operations.events
          = (if s.bright.heat ≠ t.bright.heat ∨ s.bright.ceiling ≠ t.bright.ceiling then
              [.heat t.bright.heat t.bright.ceiling]
            else [])
            ++ (if s.overheatLine then [.overheat true] else []) ++ damage
        ∧ t.link.content.events = damage ++ [.marks 0xFFFFFF])
      ∧ { t with link := u.link, clock := u.clock, bright := u.bright, store := u.store } = u)

/-- R186: loss of power keeps the places, markers and locks of the store and the identity, through the
power-up reset that follows; between them no request is taken (log entry 8).  A program or an erase under
way has left its place TORN or its sector INCOMPLETE from its start (log entry 29). -/
def Obligations.PowerLossKeepsTheStore : Prop :=
  ∀ s : State, ∃ t u, exec .powerLoss s = .next t ∧ exec .powerUpReset t = .next u
    ∧ t.powered = false ∧ t.store.op = .idle ∧ t.store.latch = false
    ∧ (∀ c : Instr, c.request?.isSome = true → exec c t = .next t)
    ∧ u.powered = true ∧ u.unitId = s.unitId ∧ u.store.entries = s.store.entries
    ∧ u.store.incomplete = s.store.incomplete ∧ u.store.locks = s.store.locks
    ∧ u.store.fixedLock = s.store.fixedLock

/-- R13 and R14: Identify and Status answer DONE on both ports in both rest states, with the items of
1.10, and change nothing. -/
def Obligations.IdentifyAndStatus : Prop :=
  ∀ (s : State) (p : Port),
    (s.inService p 0x01 [] = true →
      exec (.identify p []) s
        = .next (s.replied p 0x01 [] .done (be 8 s.unitId.toNat ++ [0x4C, 0x16] ++ [1])))
    ∧ (s.inService p 0x02 [] = true →
      exec (.status p []) s
        = .next (s.replied p 0x02 []
            .done (be 1 s.link.rest.code ++ be 1 s.plan.state.code ++ flag s.clock.set ++ be 4 s.clock.second
              ++ be 1 s.odo.mode.code ++ flag s.appr.standstill ++ be 4 s.odo.position
              ++ orFF s.appr.current ++ orFF (s.appr.stage.map Stage.code) ++ flag s.attached
              ++ be 1 s.store.op.code ++ be 1 s.level ++ be 1 s.bright.heat.code ++ be 1 s.bright.ceiling
              ++ flag s.overheatLine
              ++ be 1 (s.line.panels.filter fun x => x.state = .failed).length)))

/-- R17: Rest with the store IDLE, level 0 and the train not running or standing still answers DONE:
the rest state is RESTING, holds break (R125), the latch clears (R171), the notices end (R166), and
the panels' timers stop for the blank pages (R207); nothing else differs.  A probe that is due is
forgotten (log entry 19). -/
def Obligations.RestEntered : Prop :=
  ∀ s : State, s.Takes .operations 0x04 [] → s.store.op = .idle → s.level = 0 →
    (s.plan.state = .running → s.appr.standstill = true) →
    ∃ t, exec (.rest .operations []) s = .next t
      ∧ t.link = (State.replied { s with link := { s.link with rest := .resting } }
          .operations 0x04 [] .done []).link
      ∧ (∀ p, t.holds.get p = match s.holds.get p with
          | .standing n => .broken n
          | x => x)
      ∧ t.holds.marks = s.holds.marks ∧ t.holds.unreported = s.holds.unreported
      ∧ t.seq = ⟨[], none, s.seq.slot1, s.seq.slot2, t.seq.dwellLeft⟩
      ∧ t.store = { s.store with latch := false } ∧ t.odo = { s.odo with pulseInRest := false }
      ∧ t.line = { s.line with panels := t.line.panels, rotationLeft := 0, blankFrom := some 1 }
      ∧ t.line.unmarked.panels = (s.line.panels.map fun x => { x with stale := false, probe := .stopped })
      ∧ { t with link := s.link, holds := s.holds, seq := s.seq, store := s.store, odo := s.odo,
                 line := s.line } = s

/-- R19, R57, R58 and R208: in rest, a Wake request, the door release line becoming active, and a window
of 8 or more pulses each wake the part with its reason; a window of fewer does not.  Pulses are noted as
log entry 12 says. -/
def Obligations.ThreeWaysToWake : Prop :=
  (∀ s : State, s.Takes .operations 0x05 [] → s.link.rest = .resting →
    ∃ t, exec (.wake .operations []) s = .next t ∧ s.Woken .wakeMessage t
      ∧ s.RaisesOnly [0x02, 0x0B] t
      ∧ (t.port .operations).service = .answered
      ∧ (t.port .operations).reply = some ⟨0x85, .done, []⟩)
  ∧ (∀ s : State, s.powered = true → s.link.rest = .resting → s.doorLine = false →
    ∃ t, exec (.doorReleaseChange true) s = .next t ∧ State.Woken { s with doorLine := true } .doorRelease t)
  ∧ (∀ s : State, s.powered = true → s.link.rest = .resting →
    let s1 := { s with odo := { s.odo with
      count := 0, windowMs := 0, pulseInRest := s.odo.pulseInRest || decide (0 < s.odo.count) } }
    (8 ≤ s.odo.count → ∃ t, exec .odometerWindowEnd s = .next t ∧ s1.Woken .wheelPulses t)
    ∧ (s.odo.count < 8 → exec .odometerWindowEnd s = .next s1))

/-! ### Journey Plan and clock (chapter 2) -/

/-- R38, R37, R39: Set Clock sets the journey second and starts its timing afresh; a tick of a set clock
advances it by one second and holds it at 172,799; an unset clock does not move.  A change of the
minute, by Set Clock or by advance, marks door maps and banners stale.  Becoming set is a change of the
minute (log entry 22); the tick's command acts whatever is left of its second (log entry 30). -/
def Obligations.ClockSetAndTicked : Prop :=
  (∀ (s : State) (day sec : Nat), day ≤ 1 → sec < 86400 →
    s.Takes .operations 0x06 (be 1 day ++ be 4 sec) →
    ∃ t, exec (.setClock .operations (be 1 day ++ be 4 sec)) s = .next t
      ∧ t.clock = ⟨true, day * 86400 + sec, 0⟩
      ∧ t.link = (s.replied .operations 0x06 (be 1 day ++ be 4 sec) .done []).link
      ∧ (s.clock.minute ≠ some ((day * 86400 + sec) / 60) →
          t.StaleAt fun x => decide (x.kind = .doorMap) || decide (x.kind = .banner))
      ∧ { t with clock := s.clock, link := s.link, line := { t.line with panels := s.line.panels } } = s
      ∧ t.line.unmarked = s.line.unmarked)
  ∧ (∀ s : State, s.powered = true → s.clock.set = true →
    ∃ t, exec .clockTick s = .next t
      ∧ t.clock = ⟨true, if s.clock.second < 172799 then s.clock.second + 1 else s.clock.second, 0⟩
      ∧ (t.clock.second / 60 ≠ s.clock.second / 60 →
          t.StaleAt fun x => decide (x.kind = .doorMap) || decide (x.kind = .banner))
      ∧ { t with clock := s.clock, line := { t.line with panels := s.line.panels } } = s
      ∧ t.line.unmarked = s.line.unmarked)
  ∧ (∀ s : State, s.powered = true → s.clock.set = false → exec .clockTick s = .next s)

/-- R21: a Load Stop whose fields are in their codings, the delay within its clamp, writes the record at
its number, or appends it for the number equal to the count or 0xFF; the plan is LOADING and the reply
gives the number and the count.  No segment list, hold, mark, notice or C changes. -/
def Obligations.LoadStopWritesTheRecord : Prop :=
  ∀ (s : State) (n : Nat) (r : StopRecord),
    r.name < 1024 → r.line ≤ 4000000 → (∀ m, r.arrival = some m → m < 2880) →
    (∀ m, r.departure = some m → m < 2880) → -15 ≤ r.delay → r.delay ≤ 720 →
    (∀ m, r.platform = some m → m < 1024) → (∀ k, r.length = some k → 1 ≤ k ∧ k ≤ 16) →
    r.connections.length ≤ 4 → (∀ c ∈ r.connections, c < 1024) →
    (n ≤ s.plan.stops.length ∧ n < 48 ∨ n = 0xFF ∧ s.plan.stops.length < 48) →
    s.plan.state = .empty ∨ s.plan.state = .loading
      ∨ (s.plan.state = .ready ∧ ∀ x ∈ s.table.seats, x.segments = []) →
    s.Takes .operations 0x10 (r.encode n) →
    ∃ t, exec (.loadStop .operations (r.encode n)) s = .next t
      ∧ t.plan = ⟨.loading, if n < s.plan.stops.length then s.plan.stops.set n r else s.plan.stops ++ [r]⟩
      ∧ t.link = (s.replied .operations 0x10 (r.encode n) .done
          (be 1 (if n = 0xFF then s.plan.stops.length else n) ++ be 1 t.plan.stops.length)).link
      ∧ t.table.undisplayed = s.table.undisplayed ∧ t.line.unmarked = s.line.unmarked
      ∧ (s.plan.state = .ready → t.StaleAt fun _ => true)
      ∧ { t with plan := s.plan, link := s.link, table := s.table, line := s.line } = s

/-- R24 and R25: Close Plan in LOADING takes the plan to READY, with every panel stale and an empty DONE,
exactly when some portion has a route and every portion's route, if any, begins and ends at a calling
stop, has two of them, rises in line position, and never goes back in time; else CONFLICT, with no
effect, naming the first failure: no portion with a route, or the first test that the first failing
portion fails, A before B before C (the first stop's own times are tested as log entry 39 says). -/
def Obligations.ClosePlanValidates : Prop :=
  ∀ s : State, s.plan.state = .loading → s.Takes .operations 0x11 [] →
    let sound (po : Portion) : Prop :=
      s.plan.route po = []
      ∨ ((s.plan.route po).head? = (s.plan.calls po).head?
        ∧ (s.plan.route po).getLast? = (s.plan.calls po).getLast?
        ∧ 2 ≤ (s.plan.calls po).length
        ∧ (s.plan.route po).Pairwise (fun m n => s.plan.lineAt m < s.plan.lineAt n)
        ∧ ((s.plan.route po).flatMap fun n => match s.plan.stops[n]? with
            | some r => r.arrival.toList ++ r.departure.toList
            | none => []).Pairwise (· ≤ ·))
    ((∃ po, s.plan.route po ≠ []) ∧ (∀ po, sound po) →
      ∃ t, exec (.closePlan .operations []) s = .next t ∧ t.plan = ⟨.ready, s.plan.stops⟩
        ∧ t.link = (s.replied .operations 0x11 [] .done []).link ∧ t.StaleAt (fun _ => true)
        ∧ t.table.undisplayed = s.table.undisplayed ∧ t.line.unmarked = s.line.unmarked
        ∧ { t with plan := s.plan, link := s.link, table := s.table, line := s.line } = s)
    ∧ (¬ ((∃ po, s.plan.route po ≠ []) ∧ ∀ po, sound po) →
      ∃ stop portion reason, exec (.closePlan .operations []) s
        = .next (s.replied .operations 0x11 [] .conflict (be 1 stop ++ be 1 portion ++ be 1 reason)))
    ∧ ((∀ po, s.plan.route po = []) →
      exec (.closePlan .operations []) s = .next (s.replied .operations 0x11 [] .conflict [0xFF, 0xFF, 0]))
    ∧ (∀ po n reason, (∀ q : Portion, q.code < po.code → sound q) → s.plan.FirstFailure po n reason →
      exec (.closePlan .operations []) s
        = .next (s.replied .operations 0x11 [] .conflict (be 1 n ++ be 1 po.code ++ be 1 reason)))

/-- R23: for a stop on a portion's route the effective stop is the first calling stop at or after it, and
where there is none the last calling stop before it; off the route it is not defined; a calling stop is
its own.  That there is none on a route without a calling stop is log entry 45. -/
def Obligations.EffectiveStop : Prop :=
  ∀ (pl : Plan) (po : Portion) (n : Nat),
    (n ∉ pl.route po → pl.eff po n = none)
    ∧ (n ∈ pl.calls po → pl.eff po n = some n)
    ∧ (n ∈ pl.route po → ∀ c, pl.eff po n = some c ↔
        (c ∈ pl.calls po ∧ n ≤ c ∧ ∀ m ∈ pl.calls po, n ≤ m → c ≤ m)
        ∨ (c ∈ pl.calls po ∧ c < n ∧ (∀ m ∈ pl.calls po, m < n ∧ m ≤ c)))

/-- R26, R41, R70, R78: Start Journey in READY with the origin c makes the plan RUNNING with C the origin
at AT_PLATFORM and L none, S at the origin's line position, the mode WHEEL with a HEALTHY channel, every
mode run 0 and the entry exemption set, the arrival end taken, every panel stale, STAGE pending, and the
reply naming the origin and the portion.  WELCOME arrives at the Notice Sequencer, and nothing else does
(R146, R147, R149). -/
def Obligations.StartJourneyAtTheOrigin : Prop :=
  ∀ (s : State) (c : Nat) (po : Portion), s.plan.state = .ready → s.portion = some po →
    (s.plan.calls po).head? = some c → s.Takes .operations 0x12 [] →
    ∃ t, exec (.startJourney .operations []) s = .next t
      ∧ t.plan = ⟨.running, s.plan.stops⟩
      ∧ t.odo = { s.odo with
          position := s.plan.lineAt c, remainder := 0, mode := .wheel, channel := .healthy, sinceFix := 0
          suspectRun := 0, failureRun := 0, disagreementRun := 0, agreementRun := 0, exemption := true }
      ∧ t.appr = { s.appr with
          current := some c, last := none, stage := some .atPlatform, passed := false, departureRun := 0
          standstill := t.appr.standstill }
      ∧ t.form = { s.form with arrival := some s.form.lead }
      ∧ t.StaleAt (fun _ => true) ∧ .stage c .atPlatform false ∈ t.link.operations.events
      ∧ s.Answers .operations 0x12 [] .done (be 1 c ++ be 1 po.code) t
      ∧ t.seq = s.seq.arrive (t.journeyPost .welcome c
          [.phrase 10, .phrase 11, .destination po, .coach s.coachNumber] (.stage .departed))
      ∧ t.table.undisplayed = s.table.undisplayed ∧ t.line.unmarked = s.line.unmarked
      ∧ { t with plan := s.plan, odo := s.odo, appr := s.appr, form := s.form, table := s.table,
                 seq := s.seq, link := s.link, line := s.line } = s

/-- R27, R28, R102, R107, R118, R124, R128, R164: Clear Plan, in every plan state, empties the stop table and every segment
list, gives S 0, C, L and the stage none, breaks both holds, sets all marks, ends the queue, the slots
and an active JOURNEY or INFORMATION notice, keeps an active SERVICE or ALARM, and marks every panel
stale.  With the plan EMPTY a Put Segment, a Move Seat, and a Commit Seat of one segment or more that passes
the hold check, are refused with WRONG_STATE; the hold check comes first (log entry 44). -/
def Obligations.ClearPlanInEveryState : Prop :=
  (∀ s : State, s.Takes .operations 0x13 [] →
    ∃ t, exec (.clearPlan .operations []) s = .next t
      ∧ t.plan = ⟨.empty, []⟩
      ∧ t.odo = { s.odo with position := 0, remainder := 0, sinceFix := 0 }
      ∧ t.appr = { s.appr with
          current := none, last := none, stage := none, passed := false, departureRun := 0, eta := none }
      ∧ t.form = { s.form with arrival := none }
      ∧ t.table.free = s.table.free + (s.table.seats.map fun x => x.segments.length).sum
      ∧ t.table.undisplayed.seats
          = (s.table.seats.map fun x => { x with segments := [], lastDisplay := none })
      ∧ s.HoldsBroken t ∧ s.Marked (fun _ => true) t ∧ t.holds.marks = BitVec.allOnes 24
      ∧ t.seq.queue = [] ∧ t.seq.slot1 = none ∧ t.seq.slot2 = none
      ∧ (∀ n, t.seq.active = some n ↔
          s.seq.active = some n ∧ (n.cls = .service ∨ n.cls = .alarm))
      ∧ t.StaleAt (fun _ => true) ∧ t.line.unmarked = s.line.unmarked
      ∧ s.Answers .operations 0x13 [] .done [] t ∧ s.RaisesOnly [0x06, 0x09, 0x10] t
      ∧ { t with plan := s.plan, odo := s.odo, appr := s.appr, form := s.form, table := s.table,
                 holds := s.holds, seq := s.seq, link := s.link, line := s.line } = s)
  ∧ ∀ (s : State) (p : Port), s.plan.state = .empty →
    (∀ (num f e tag : Nat) (k : SegmentKind) (label : Option Nat) (replace : Bool),
      1 ≤ num → num ≤ 999 → f < 48 → e < 48 → tag < 65536 → (∀ l, label = some l → l < 1024) →
      let b := be 2 num ++ be 1 f ++ be 1 e ++ be 1 k.code ++ be 2 tag ++ orFFFF label ++ flag replace
      s.Takes p 0x42 b → exec (.putSegment p b) s = .next (s.replied p 0x42 b .wrongState []))
    ∧ (∀ m n : Nat, 1 ≤ m → m ≤ 999 → 1 ≤ n → n ≤ 999 → m ≠ n → s.Takes p 0x45 (be 2 m ++ be 2 n) →
      exec (.moveSeat p (be 2 m ++ be 2 n)) s
        = .next (s.replied p 0x45 (be 2 m ++ be 2 n) .wrongState []))
    ∧ (∀ (num : Nat) (x : Seat) (legs : List Segment),
      1 ≤ num → num ≤ 999 → 1 ≤ legs.length → legs.length ≤ 8 →
      (∀ g ∈ legs, g.fromStop < 48 ∧ g.toStop < 48 ∧ g.tag < 65536 ∧ (∀ l, g.label = some l → l < 1024)) →
      s.holds.get p = .standing num → s.seat? num = some x →
      let b := be 2 num ++ be 1 legs.length ++ legs.flatMap fun g =>
        be 1 g.fromStop ++ be 1 g.toStop ++ be 1 g.kind.code ++ be 2 g.tag ++ orFFFF g.label
      s.Takes p 0x49 b → exec (.commitSeat p b) s = .next ((s.setHold p .absent).replied p 0x49 b .wrongState []))

/-- R31: Amend Stop replaces the fields its mask selects, the delay clamped to -15..720, marks door maps
and banners stale for a mask other than 0, and answers the stop's delay; nothing else changes. -/
def Obligations.AmendStopReplacesSelectedFields : Prop :=
  ∀ (s : State) (n mask platform side length : Nat) (delay : Int) (r : StopRecord),
    n < 48 → mask < 16 → -32768 ≤ delay → delay < 32768 → platform < 1024 ∨ platform = 0xFFFF →
    side ≤ 2 → length ≤ 16 → s.plan.state = .ready ∨ s.plan.state = .running →
    s.plan.stops[n]? = some r →
    let b := be 1 n ++ be 1 mask ++ beInt 2 delay ++ be 2 platform ++ be 1 side ++ be 1 length
    let r1 : StopRecord := { r with
      delay := if mask % 2 = 1 then max (-15) (min 720 delay) else r.delay
      platform := if mask / 2 % 2 = 1 then (if platform = 0xFFFF then none else some platform) else r.platform
      doorSide := if mask / 4 % 2 = 1 then DoorSide.ofCode side else r.doorSide
      length := if mask / 8 % 2 = 1 then (if length = 0 then none else some length) else r.length }
    s.Takes .operations 0x14 b →
    ∃ t, exec (.amendStop .operations b) s = .next t
      ∧ t.plan = { s.plan with stops := s.plan.stops.set n r1 }
      ∧ t.link = (s.replied .operations 0x14 b .done (beInt 2 r1.delay)).link
      ∧ t.line = { s.line with panels := s.line.panels.map fun x =>
          { x with stale := x.stale || (decide (mask ≠ 0) && decide (x.kind ≠ .seatStrip)) } }
      ∧ { t with plan := s.plan, link := s.link, line := s.line } = s

/-- R32 to R34, R99, R111, R113, R114, R124, R150: Set Call answers DONE, and a change of call state leaves
every other record and call state.  For a portion not this coach's, door maps alone go stale besides.
For this coach's portion a cancellation voids the segments whose effective stops have met; each seat of
which a list or an effective stop changed is handed on, and every display re-formed.  C stays, or moves by
the table of R33: to the next calling stop when C is cancelled, to a stop reinstated before it; the new C is
evaluated at once.  The state already held is answered with no change.  The order of the effects, and that
the state held passes after the third check, is log entry 25; that STAGE of the new C carries the passed
flag 0 is log entry 21.  That C and its stage become none, the plan RUNNING, where no calling stop follows a
cancelled C, is the model's choice (log entry 46). -/
def Obligations.SetCallChangesOneCallState : Prop :=
  ∀ (s : State) (n : Nat) (po : Portion) (cancel : Bool) (r : StopRecord),
    s.plan.stops[n]? = some r → n < 48 → s.plan.state = .ready ∨ s.plan.state = .running →
    let b := be 1 n ++ be 1 po.code ++ be 1 (if cancel then 3 else 2)
    s.Takes .operations 0x15 b →
    (r.callOf po = (if cancel then .cancelled else .call) →
      exec (.setCall .operations b) s
        = .next (s.replied .operations 0x15 b .done
            (orFF s.appr.current ++ orFF (s.appr.stage.map Stage.code) ++ be 2 0)))
    ∧ (r.callOf po = (if cancel then .call else .cancelled) →
      (∀ l, s.appr.last = some l → l < n) → ¬ (s.appr.current = some n ∧ s.appr.stage = some .atPlatform) →
      (cancel = true → 3 ≤ (s.plan.calls po).length
        ∧ ∀ l, s.appr.last = some l → ∃ m ∈ s.plan.calls po, l < m ∧ m ≠ n) →
      (cancel = false → s.plan.state = .running → s.odo.position < r.line) →
      let own := decide (s.portion = some po)
      let stops := s.plan.stops.set n (r.withCall po (if cancel then .cancelled else .call))
      let after : State := { s with plan := { s.plan with stops := stops } }
      let voids (g : Segment) : Bool := own && cancel && !g.stranded
        && match after.eff g.fromStop, after.eff g.toStop with
          | some f, some e => decide (f = e)
          | _, _ => false
      let kept (x : Seat) := x.segments.filter fun g => !voids g
      let voided := (s.table.seats.map fun x => (x.segments.filter voids).length).sum
      let changed := s.table.seats.filter fun x => own && (decide (kept x ≠ x.segments)
        || x.segments.any fun g => !g.stranded
          && (decide (s.eff g.fromStop ≠ after.eff g.fromStop) || decide (s.eff g.toStop ≠ after.eff g.toStop)))
      let moved : Option (Nat × Option Nat) := match s.appr.current with
        | some c =>
          if own = true ∧ s.plan.state = .running then
            (if cancel = true ∧ n = c then some (c, after.nextCall c)
            else if cancel = false ∧ n < c then some (c, some n)
            else none)
          else none
        | none => none
      ∃ t, exec (.setCall .operations b) s = .next t
        ∧ t.plan.stops = stops
        ∧ s.Answers .operations 0x15 b .done
            (orFF t.appr.current ++ orFF (t.appr.stage.map Stage.code) ++ be 2 voided) t
        ∧ { t with plan := s.plan, appr := s.appr, form := s.form, table := s.table, holds := s.holds,
                   seq := s.seq, link := s.link, line := s.line } = s
        ∧ t.line.unmarked = s.line.unmarked
        ∧ (own = false →
          t = State.replied { s with
              plan := { s.plan with stops := stops }
              line := { s.line with panels := s.line.panels.map fun x =>
                { x with stale := x.stale || decide (x.kind = .doorMap) } } }
            .operations 0x15 b .done (orFF s.appr.current ++ orFF (s.appr.stage.map Stage.code) ++ be 2 0))
        ∧ (own = true →
          t.StaleAt (fun x => decide (x.kind = .doorMap) || decide (x.kind = .banner))
          ∧ s.Reformed (fun _ => true) t
          ∧ (t.plan.state ≠ .ended →
            (∀ c d, moved = some (c, some d) → s.odo.position ≤ s.plan.lineAt d + 400) →
            t.table.undisplayed = (s.table.keeping kept).undisplayed
            ∧ s.HandedOn (changed.map Seat.number) (changed.map Seat.bay) t))
        ∧ (own = true → moved = none →
          t.plan.state = s.plan.state ∧ t.appr = s.appr ∧ t.form = s.form ∧ t.seq = s.seq ∧ s.RaisesOnly [0x10] t)
        ∧ (∀ c d, moved = some (c, some d) → s.odo.position ≤ s.plan.lineAt d + 400 →
          let st := t.stageAfter d .cruise
          t.appr = { s.appr with
            current := some d, stage := some st, departureRun := 0, eta := t.minutesOfC }
          ∧ t.form = State.formAt { s with form := { s.form with arrival := none } } d st
          ∧ .stage d st false ∈ t.link.operations.events
          ∧ t.plan.state = (if st = .atPlatform ∧ after.coachCalls.getLast? = some d then .ended else .running)
          ∧ (t.plan.state = .ended → s.JourneyEnded t)
          ∧ (t.plan.state = .running → ∀ m ∈ t.seq.all, m.stop = some c → ∀ v, m.validity ≠ .stage v)
          ∧ ((∀ m ∈ s.seq.all, m.stop ≠ some c ∧ m.stop ≠ some d) → t.seq = t.seqPosted d st (s.seqTurned t)))
        ∧ (∀ c, moved = some (c, none) →
          t.appr = { s.appr with current := none, stage := none, departureRun := 0 }
          ∧ t.form = { s.form with arrival := none } ∧ t.plan.state = .running
          ∧ (∀ m ∈ t.seq.all, m.stop = some c → ∀ v, m.validity ≠ .stage v)))

/-- R35, R36, R71, R91, R61, R62 and R46: Read Stop gives the record as Load Stop lays it out, its effective
stops and the forecast minute clamped to 0..2879, and for 0xFF the summary of the plan; Read Position and
Read Formation give the values of the moment in the order their rules list.  None changes anything.  Read
Position forms d, t and the minutes afresh (log entry 20).  The facing byte of Read Formation while DETACHED
is log entry 40; the effective stop sent of a route without a calling stop is log entry 45. -/
def Obligations.JourneyAndCoachReads : Prop :=
  (∀ (s : State) (p : Port),
    (∀ (n : Nat) (r : StopRecord), n < 48 → s.plan.stops[n]? = some r → s.Takes p 0x16 [BitVec.ofNat 8 n] →
      exec (.readStop p [BitVec.ofNat 8 n]) s
        = .next (s.replied p 0x16 [BitVec.ofNat 8 n] .done
            (r.encode n ++ orFF (s.plan.eff .a n) ++ orFF (s.plan.eff .b n) ++ orFF (s.plan.eff .c n)
              ++ (match r.arrival with
                | none => be 2 0xFFFF
                | some m => be 2 (max 0 (min 2879 ((m : Int) + r.delay))).toNat))))
    ∧ (s.Takes p 0x16 [0xFF] →
      let ends (po : Portion) := orFF (s.plan.calls po).head? ++ orFF (s.plan.calls po).getLast?
      exec (.readPlanSummary p) s
        = .next (s.replied p 0x16 [0xFF] .done
            (be 1 s.plan.state.code ++ be 1 s.plan.stops.length ++ ends .a ++ ends .b ++ ends .c
              ++ orFF (s.portion.map Portion.code)))))
  ∧ (∀ (s : State) (p : Port),
    (s.Takes p 0x25 [] →
      let d := (s.appr.current.map fun c => s.plan.lineAt c - s.odo.position).getD 0
      let t := match s.appr.current with
        | none => 0
        | some _ => if d = 0 then 0 else if s.odo.speed = 0 then 65535 else min 65535 (d * 1000 / s.odo.speed)
      let eta := if s.appr.current = none ∨ s.appr.stage = none ∨ t = 65535 ∨ s.odo.mode = .hold
          ∨ s.appr.stage = some .atPlatform ∨ s.appr.stage = some .departed then 0
        else max 1 (min 99 ((t + 59) / 60))
      exec (.readPosition p []) s
        = .next (s.replied p 0x25 [] .done
            (be 4 s.odo.position ++ be 4 s.odo.remainder ++ be 4 s.odo.speed ++ be 2 (s.odo.speed * 36 / 10000)
              ++ be 1 s.odo.mode.code ++ flag s.appr.standstill ++ flag (decide (s.odo.channel = .failed))
              ++ be 2 s.odo.reported ++ flag s.odo.fresh ++ be 4 s.odo.sinceFix ++ orFF s.appr.current
              ++ orFF s.appr.last ++ flag s.appr.passed ++ orFF (s.appr.stage.map Stage.code) ++ be 4 d
              ++ be 2 t ++ be 1 eta ++ be 2 s.odo.diameter ++ be 1 s.odo.pulsesPerRev
              ++ be 4 s.odo.travelPerPulse ++ be 2 s.appr.annTime ++ be 2 s.appr.annDist
              ++ be 2 s.appr.appTime)))
    ∧ (s.Takes p 0x34 [0] →
      let entry (x : CoachEntry) := be 8 x.unit.toNat ++ be 1 x.coach ++ be 1 x.portion.code ++ flag x.endATo2
      exec (.readFormation p [0]) s
        = .next (s.replied p 0x34 [0] .done
            (be 1 s.form.lead.code ++ orFF (s.form.arrival.map TrainEnd.code) ++ flag s.attached
              ++ be 1 s.position ++ orFF (s.portion.map Portion.code) ++ be 1 s.facing.code
              ++ be 1 s.coachNumber ++ be 1 s.facing.code ++ be 1 s.form.active.length
              ++ s.form.active.flatMap entry ++ be 1 s.form.staged.length ++ s.form.staged.flatMap entry)))
    ∧ (∀ bankB : Bool, s.Takes p 0x34 [if bankB then 2 else 1] →
      exec (.readFormation p [if bankB then 2 else 1]) s
        = .next (s.replied p 0x34 [if bankB then 2 else 1] .done
            ((if bankB then s.form.bankB else s.form.bankA).flatMap fun x =>
              be 1 x.arrow.code ++ flag x.firstRight))))
/-! ### Odometer and Approach Monitor (chapter 3) -/

/-- R42, R60, R43, R57 and R213: Set Wheel takes D and N and forms P = floor(D × 3141593 / (N × 1000)),
which it answers; Set Approach takes the three thresholds.  A wheel pulse adds 1 to the window count,
saturating at 4095, and is noted while the part rests; a rising edge of the temperature waveform adds 1
to the heat count, saturating at 65535.  Nothing else changes.  When a pulse in rest is noted is log
entry 12. -/
def Obligations.WheelThresholdsAndCounts : Prop :=
  ((∀ (s : State) (d n : Nat), 600 ≤ d → d ≤ 1250 → 20 ≤ n → n ≤ 200 →
    (s.plan.state = .running → s.appr.standstill = true) → s.Takes .operations 0x20 (be 2 d ++ be 1 n) →
    exec (.setWheel .operations (be 2 d ++ be 1 n)) s
      = .next (State.replied { s with odo := { s.odo with
            diameter := d, pulsesPerRev := n, travelPerPulse := d * 3141593 / (n * 1000) } }
          .operations 0x20 (be 2 d ++ be 1 n) .done (be 4 (d * 3141593 / (n * 1000)))))
  ∧ (∀ (s : State) (annTime annDist appTime : Nat), 60 ≤ annTime → annTime ≤ 600 → 1000 ≤ annDist →
    annDist ≤ 20000 → 20 ≤ appTime → appTime ≤ 120 →
    let b := be 2 annTime ++ be 2 annDist ++ be 2 appTime
    s.Takes .operations 0x21 b →
    exec (.setApproach .operations b) s
      = .next (State.replied { s with appr := { s.appr with
            annTime := annTime, annDist := annDist, appTime := appTime } } .operations 0x21 b .done [])))
  ∧ (∀ s : State, s.powered = true →
    (s.odo.count < 4095 →
      exec .wheelPulse s = .next { s with odo := { s.odo with
        count := s.odo.count + 1
        pulseInRest := s.odo.pulseInRest || decide (s.link.rest = .resting) } })
    ∧ (s.odo.count = 4095 → exec .wheelPulse s = .next s)
    ∧ (s.bright.count < 65535 →
      exec .cabinetEdge s = .next { s with bright := { s.bright with count := s.bright.count + 1 } })
    ∧ (s.bright.count = 65535 → exec .cabinetEdge s = .next s))

/-- R43 to R51, R54 and R61 to R68: what the end of a window while AWAKE leaves in the Odometer, from each
mode.  In WHEEL a sound window counts n × P and keeps the failure and disagreement runs; a suspect one goes
to GUARDED and travels at v_prev; the tenth suspect window of GUARDED fails the channel; DEAD_RECKON
travels at v_r, HOLD not at all, and the fiftieth agreeing window of either readmits the channel.  A change
of mode leaves MODE pending.  Standstill is judged by the mode then in force, and the stage of C is
evaluated, with the departure run counted at AT_PLATFORM (log entry 13).  That STAGE of a stage other than
DEPARTED carries the passed flag 0 is log entry 21; the window's command acts whatever is left of it (log
entry 30). -/
def Obligations.WindowEnds : Prop :=
  ∀ s : State, s.powered = true → s.link.rest = .awake →
    let close (o : Odometer) (increment v : Nat) : Odometer :=
      { o with
        position := min 4000000 (o.position + (o.remainder + increment) / 1000000)
        remainder :=
          if 4000000 < o.position + (o.remainder + increment) / 1000000 then 0
          else (o.remainder + increment) % 1000000
        sinceFix := min 4000000 (o.sinceFix
          + (min 4000000 (o.position + (o.remainder + increment) / 1000000) - o.position))
        speed := v
        prevSpeed := v
        zeroRun := if o.count = 0 then min 4095 (o.zeroRun + 1) else 0
        count := 0
        windowMs := 0
        exemption := false }
    let n := s.odo.count
    let vw := n * s.odo.travelPerPulse / 200
    let vr := s.odo.reported * 1000 / 36
    let suspect := n = 4095 ∨ (s.odo.exemption = false
      ∧ (vw + 800 < s.odo.prevSpeed ∨ s.odo.prevSpeed + 800 < vw))
    let agree := vw ≤ vr + (vr / 10 + 1000) ∧ vr ≤ vw + (vr / 10 + 1000)
    let failure := if n = 0 ∧ s.odo.fresh = true ∧ 50 ≤ s.odo.reported then s.odo.failureRun + 1 else 0
    let disagreement := if s.odo.fresh = true ∧ ¬ agree then s.odo.disagreementRun + 1 else 0
    let agreement := if 200 ≤ s.odo.reported ∧ n < 4095 ∧ agree ∧ (s.odo.mode = .hold → s.odo.fresh = true) then
        s.odo.agreementRun + 1
      else 0
    ∃ t, exec .odometerWindowEnd s = .next t
      ∧ (s.odo.mode = .wheel → ¬ suspect → failure < 15 → disagreement < 25 →
        t.odo = { close s.odo (n * s.odo.travelPerPulse) vw with
          failureRun := failure, disagreementRun := disagreement })
      ∧ (s.odo.mode = .wheel → ¬ suspect → 15 ≤ failure ∨ 25 ≤ disagreement →
        t.odo = { close s.odo (vr * 200) vr with
          mode := .deadReckon, channel := .failed, suspectRun := 0, failureRun := 0
          disagreementRun := 0, agreementRun := 0 })
      ∧ (s.odo.mode = .wheel → suspect →
        t.odo = { close s.odo (s.odo.prevSpeed * 200) s.odo.prevSpeed with
          mode := .guarded, suspectRun := 1, failureRun := 0, disagreementRun := 0 })
      ∧ (s.odo.mode = .guarded → ¬ suspect →
        t.odo = { close s.odo (n * s.odo.travelPerPulse) vw with mode := .wheel, suspectRun := 0 })
      ∧ (s.odo.mode = .guarded → suspect → s.odo.suspectRun < 9 →
        t.odo = { close s.odo (s.odo.prevSpeed * 200) s.odo.prevSpeed with
          suspectRun := s.odo.suspectRun + 1 })
      ∧ (s.odo.mode = .guarded → suspect → 9 ≤ s.odo.suspectRun →
        t.odo = { close s.odo (if s.odo.fresh then vr * 200 else 0) (if s.odo.fresh then vr else 0) with
          mode := if s.odo.fresh then .deadReckon else .hold
          channel := .failed, suspectRun := 0, failureRun := 0, disagreementRun := 0, agreementRun := 0 })
      ∧ (s.odo.mode = .deadReckon ∨ s.odo.mode = .hold → 50 ≤ agreement →
        t.odo = { close s.odo (n * s.odo.travelPerPulse) vw with
          mode := .wheel, channel := .healthy, suspectRun := 0, failureRun := 0
          disagreementRun := 0, agreementRun := 0 })
      ∧ (s.odo.mode = .deadReckon → agreement < 50 →
        t.odo = { close s.odo (vr * 200) vr with agreementRun := agreement })
      ∧ (s.odo.mode = .hold → agreement < 50 → t.odo = { close s.odo 0 0 with agreementRun := agreement })
      ∧ (t.odo.mode ≠ s.odo.mode → .mode t.odo.mode ∈ t.link.operations.events)
      ∧ (t.odo.mode = s.odo.mode → s.RaisesOnly [0x01, 0x05, 0x06, 0x07, 0x09, 0x0D, 0x10] t)
      ∧ t.appr.standstill = (match t.odo.mode with
          | .wheel | .guarded => decide (10 ≤ t.odo.zeroRun)
          | .deadReckon => decide (t.odo.reported = 0)
          | .hold => decide (t.odo.reported = 0) || !t.odo.fresh)
      ∧ s.Evaluated (if s.appr.stage ≠ some .atPlatform then s.appr.departureRun
          else if s.appr.doorTaken = false ∧ 1389 < t.odo.speed then min 3 (s.appr.departureRun + 1) else 0) t
      ∧ t.plan.stops = s.plan.stops ∧ t.clock = s.clock ∧ t.store = s.store ∧ t.bright = s.bright

/-- R51 to R54 and R61 to R68: Motion Report stores r, clamped to 4000, as fresh for 10 s, takes HOLD with a
FAILED channel to DEAD_RECKON, judges standstill, evaluates the stage of C, and answers the mode and the
standstill flag.  When the speed goes stale while AWAKE, DEAD_RECKON becomes HOLD with MODE raised and
standstill is judged again; r keeps its value, and no stage is evaluated.  That STAGE of a stage other than
DEPARTED carries the passed flag 0 is log entry 21; the stale speed's command acts whatever is left of the
10 s (log entry 30). -/
def Obligations.ReportedSpeedFreshAndStale : Prop :=
  (∀ (s : State) (r : Nat), r < 65536 → s.Takes .operations 0x22 (be 2 r) →
    ∃ t, exec (.motionReport .operations (be 2 r)) s = .next t
      ∧ t.odo = { s.odo with
          reported := min 4000 r
          fresh := true
          freshLeft := 10000
          mode := if s.odo.mode = .hold ∧ s.odo.channel = .failed then .deadReckon else s.odo.mode }
      ∧ t.appr.standstill = (match t.odo.mode with
          | .wheel | .guarded => decide (10 ≤ s.odo.zeroRun)
          | .deadReckon | .hold => decide (r = 0))
      ∧ (t.odo.mode ≠ s.odo.mode → .mode .deadReckon ∈ t.link.operations.events)
      ∧ s.Evaluated s.appr.departureRun t
      ∧ s.Answers .operations 0x22 (be 2 r) .done (be 1 t.odo.mode.code ++ flag t.appr.standstill) t
      ∧ t.plan.stops = s.plan.stops ∧ t.clock = s.clock ∧ t.store = s.store ∧ t.bright = s.bright)
  ∧ (∀ s : State, s.powered = true → s.link.rest = .awake → s.odo.fresh = true →
    ∃ t, exec .speedStale s = .next t
      ∧ t.odo = { s.odo with
          fresh := false
          freshLeft := 0
          mode := if s.odo.mode = .deadReckon then .hold else s.odo.mode }
      ∧ t.appr = { s.appr with standstill := match t.odo.mode with
          | .wheel | .guarded => decide (10 ≤ s.odo.zeroRun)
          | .deadReckon | .hold => true }
      ∧ (s.odo.mode = .deadReckon → .mode .hold ∈ t.link.operations.events)
      ∧ (s.odo.mode ≠ .deadReckon → t.link = s.link)
      ∧ s.RaisesOnly [0x02] t ∧ { t with odo := s.odo, appr := s.appr, link := s.link } = s)

/-- R55, R56 and R51: an accepted fix sets S to the fix carried on by its age, at most 2 s, at v, the
remainder and the travel since fix to 0, raises FIX_JUMP beyond the tolerance, returns a HEALTHY HOLD to
WHEEL with the entry exemption, evaluates the stage of C (R61 to R68), and answers S, the jump, the
tolerance and the mode.  That STAGE of a stage other than DEPARTED carries the passed flag 0 is log entry
21. -/
def Obligations.PositionFixMovesS : Prop :=
  ∀ (s : State) (f age x y : Nat) (po : Portion), f ≤ 4000000 → age < 65536 →
    s.plan.state = .running → s.portion = some po →
    (s.plan.route po).head? = some x → (s.plan.route po).getLast? = some y →
    s.plan.lineAt x ≤ f → f ≤ s.plan.lineAt y →
    s.Takes .operations 0x23 (be 4 f ++ be 2 age) →
    let fixed := min 4000000 (f + s.odo.speed * min 2000 age / 1000000)
    let jump : Int := (fixed : Int) - s.odo.position
    let tolerance := max 50 (s.odo.sinceFix / 50)
    ∃ t, exec (.positionFix .operations (be 4 f ++ be 2 age)) s = .next t
      ∧ t.odo = { s.odo with
          position := fixed
          remainder := 0
          sinceFix := 0
          mode := if s.odo.mode = .hold ∧ s.odo.channel = .healthy then .wheel else s.odo.mode
          exemption := s.odo.exemption || decide (s.odo.mode = .hold ∧ s.odo.channel = .healthy) }
      ∧ (tolerance < jump.natAbs → .fixJump jump ∈ t.link.operations.events)
      ∧ (t.odo.mode ≠ s.odo.mode → .mode .wheel ∈ t.link.operations.events)
      ∧ s.Evaluated s.appr.departureRun t
      ∧ (jump.natAbs ≤ tolerance → s.RaisesOnly [0x01, 0x02, 0x05, 0x06, 0x07, 0x09, 0x0D, 0x10] t)
      ∧ s.Answers .operations 0x23 (be 4 f ++ be 2 age) .done
          (be 4 fixed ++ beInt 4 jump ++ be 4 tolerance ++ be 1 t.odo.mode.code) t
      ∧ t.plan.stops = s.plan.stops ∧ t.clock = s.clock ∧ t.store = s.store ∧ t.bright = s.bright

/-- R63 to R66: a change of the door release line while AWAKE is recorded.  With C at APPROACH or BERTHING,
or at CRUISE or ANNOUNCE in the mode HOLD, and S no more than 400 m beyond it, an activation takes C to
AT_PLATFORM; at CRUISE or ANNOUNCE outside HOLD it raises DOOR_UNSCHEDULED with C and its stage, and takes no C to AT_PLATFORM: where the standstill
flag is clear and S is no more than 400 m beyond C, C stays below AT_PLATFORM (log entry 37).  A
deactivation, and an activation at AT_PLATFORM, which sets the departure run to 0, are evaluated without
door activation.  While the plan is not RUNNING the change is recorded and changes nothing else.  That
the STAGE entry of AT_PLATFORM carries the passed flag 0 is log entry 21. -/
def Obligations.DoorLineChanges : Prop :=
  ∀ (s : State) (active : Bool), s.powered = true → s.link.rest = .awake → s.doorLine ≠ active →
    ∃ t, exec (.doorReleaseChange active) s = .next t
      ∧ t.doorLine = active ∧ t.appr.doorTaken = active
      ∧ t.odo = s.odo ∧ t.plan.stops = s.plan.stops ∧ t.clock = s.clock ∧ t.store = s.store
      ∧ t.bright = s.bright ∧ t.link.quiet = s.link.quiet
      ∧ (s.plan.state ≠ .running →
        t = { s with doorLine := active, appr := { s.appr with doorTaken := active } })
      ∧ (active = false ∨ s.appr.stage = some .atPlatform →
        State.Evaluated { s with appr := { s.appr with doorTaken := active } }
          (if active then 0 else s.appr.departureRun) t)
      ∧ (s.plan.state = .running → s.hasRoute = true → active = true →
        ∀ c st, s.appr.current = some c → s.appr.stage = some st →
          (st = .approach ∨ st = .berthing ∨ ((st = .cruise ∨ st = .announce) ∧ s.odo.mode = .hold) →
            s.odo.position ≤ s.plan.lineAt c + 400 →
            s.CameTo c .atPlatform t ∧ s.StageShown t)
          ∧ (st = .cruise ∨ st = .announce → s.odo.mode ≠ .hold →
            .doorUnscheduled (some c) st ∈ t.link.operations.events
            ∧ (s.appr.standstill = false → s.odo.position ≤ s.plan.lineAt c + 400 →
              t.appr.current = some c ∧ t.appr.stage.any Stage.isBelow = true)))

/-- R69, R67, R68, R29, R30, R78, R86, R112 and R146 to R151: Set Stage to AT_PLATFORM takes C there, with the
arrival end taken, a REVERSE stop turned, notices ended, re-tested and posted and STAGE pending; where S lies more than
400 m beyond it, and it is not the final call, C departs at once.  To DEPARTED, L becomes C with its flag,
segments expire, and C becomes the next calling stop; without one the plan is ENDED.  The reply carries C
and its stage after the evaluation.  That STAGE of a stage other than DEPARTED carries the passed flag 0 is
log entry 21. -/
def Obligations.SetStageByCommand : Prop :=
  ∀ (s : State) (c : Nat) (st : Stage), s.plan.state = .running → s.hasRoute = true →
    s.appr.current = some c → s.appr.stage = some st →
    let untouched (t : State) : Prop := t.plan.stops = s.plan.stops ∧ t.odo = s.odo ∧ t.clock = s.clock
      ∧ t.store = s.store ∧ t.bright = s.bright
    let answer (t : State) := orFF t.appr.current ++ orFF (t.appr.stage.map Stage.code)
    (st.code < 4 → s.odo.position ≤ s.plan.lineAt c + 400 ∨ s.coachCalls.getLast? = some c →
      s.Takes .operations 0x24 [4] →
      ∃ t, exec (.setStage .operations [4]) s = .next t
        ∧ s.CameTo c .atPlatform t ∧ s.StageShown t
        ∧ (∀ r v, s.plan.stops[c]? = some r → r.connections ≠ [] → s.coachCalls.getLast? ≠ some c →
          (∀ n ∈ s.seq.all, n.stop ≠ some c ∧ n.kind ≠ some .shortPlatform) → s.seq.active ≠ none →
          s.seq.full = true → s.seq.victim = some v →
          .noticeDropped v.cls v.tag v.kind v.stop .displaced ∈ t.link.operations.events)
        ∧ s.Answers .operations 0x24 [4] .done (be 1 c ++ be 1 4) t ∧ untouched t)
    ∧ (st.code < 4 → s.plan.lineAt c + 400 < s.odo.position → s.coachCalls.getLast? ≠ some c →
      s.Takes .operations 0x24 [4] →
      ∃ t, exec (.setStage .operations [4]) s = .next t
        ∧ (let arrived : State := { s with form := s.formAt c .atPlatform }
          State.DepartedFrom { arrived with seq := s.seqTurned arrived } c false t)
        ∧ s.Answers .operations 0x24 [4] .done (answer t) t ∧ untouched t)
    ∧ (st ≠ .departed → s.Takes .operations 0x24 [5] →
      ∃ t, exec (.setStage .operations [5]) s = .next t
        ∧ s.DepartedFrom c (decide (st.code < 4)) t ∧ s.StageShown t
        ∧ s.Answers .operations 0x24 [5] .done (answer t) t ∧ untouched t)

/-! ### Formation Table (chapter 4) -/

/-- R73: Stage Coach appends its entry at the formation end 2 side and answers the number of staged
entries; the sixteenth is the last that fits.  A payload that is no formation entry is MALFORMED. -/
def Obligations.StageCoachAppends : Prop :=
  (∀ (s : State) (x : CoachEntry), 1 ≤ x.coach → x.coach ≤ 99 →
    let b := be 8 x.unit.toNat ++ be 1 x.coach ++ be 1 x.portion.code ++ flag x.endATo2
    s.Takes .operations 0x30 b →
    (s.form.staged.length < 16 →
      exec (.stageCoach .operations b) s
        = .next (State.replied { s with form := { s.form with staged := s.form.staged ++ [x] } }
            .operations 0x30 b .done (be 1 (s.form.staged.length + 1))))
    ∧ (16 ≤ s.form.staged.length →
      exec (.stageCoach .operations b) s = .next (s.replied .operations 0x30 b .noRoom [])))
  ∧ (∀ (s : State) (b : List Byte), s.Takes .operations 0x30 b →
    b.length ≠ 11 ∨ u8 b 8 < 1 ∨ 99 < u8 b 8 ∨ 2 < u8 b 9 ∨ 1 < u8 b 10 →
    exec (.stageCoach .operations b) s = .next (s.replied .operations 0x30 b .malformed []))

/-- R74: Clear Staged empties the staged formation and answers DONE; all else is left as it was. -/
def Obligations.ClearStagedEmptiesTheList : Prop :=
  ∀ s : State, s.Takes .operations 0x31 [] →
    exec (.clearStaged .operations []) s
      = .next (State.replied { s with form := { s.form with staged := [] } } .operations 0x31 [] .done [])

/-- R81 to R83, R99, R111, R115 to R117, R124, R132, R151 and R163: Apply Formation with no two entries sharing an
identity or a coach number makes the staged entries active with the leading end given, empties the staged
list, breaks both holds, raises FORMATION, and answers the derived values; in a plan that is RUNNING, at
standstill, and where the portion view changes, at AT_PLATFORM of a C at which the new portion calls.  The
portion view unchanged, no segment list and no mark changes; changed, every mark is set, every panel
stale, and for a new portion the segments are stranded or removed by it, with STRANDED where more are
stranded than before.  A facing change marks every panel stale.  Journey notices off the new route, or
all of them, are flushed, then the SHORT_PLATFORM notices left are tested again.  The facing byte of the reply while DETACHED is log entry 40. -/
def Obligations.ApplyFormation : Prop :=
  ∀ (s : State) (two : Bool), s.form.staged ≠ [] →
    (s.form.staged.map CoachEntry.unit).Nodup → (s.form.staged.map CoachEntry.coach).Nodup →
    let b : List Byte := [if two then 2 else 1]
    let own (es : List CoachEntry) := (es.find? fun x => x.unit = s.unitId).map CoachEntry.portion
    (s.plan.state = .running → s.appr.standstill = true
      ∧ (own s.form.active = own s.form.staged
        ∨ (s.appr.stage = some .atPlatform
          ∧ ∀ po, own s.form.staged = some po → ∃ c ∈ s.appr.current, c ∈ s.plan.calls po))) →
    s.Takes .operations 0x32 b →
    ∃ t, exec (.applyFormation .operations b) s = .next t
      ∧ t.form = { s.form with staged := [], active := s.form.staged, lead := if two then .two else .one }
      ∧ s.HoldsBroken t
      ∧ .formation false t.attached t.position t.portion t.facing ∈ t.link.operations.events
      ∧ s.Answers .operations 0x32 b .done
          (flag t.attached ++ be 1 t.position ++ orFF (t.portion.map Portion.code) ++ be 1 t.facing.code
            ++ be 1 t.coachNumber ++ be 1 s.form.staged.length) t
      ∧ (own s.form.active = own s.form.staged →
        t.table = s.table ∧ t.holds.marks = s.holds.marks ∧ t.holds.unreported = s.holds.unreported)
      ∧ (own s.form.active ≠ own s.form.staged →
        t.holds.marks = BitVec.allOnes 24 ∧ s.Marked (fun _ => true) t ∧ t.StaleAt (fun _ => true)
        ∧ s.Reformed (fun _ => true) t)
      ∧ (own s.form.active ≠ own s.form.staged → own s.form.staged = none →
        t.table.undisplayed = s.table.undisplayed)
      ∧ (∀ po, own s.form.active ≠ own s.form.staged → own s.form.staged = some po →
        let off (n : Nat) : Bool := !(s.plan.route po).contains n
        let flagged (g : Segment) : Segment := { g with stranded := off g.fromStop || off g.toStop }
        let removed (g : Segment) : Bool := !g.stranded
          && match s.plan.eff po g.fromStop, s.plan.eff po g.toStop with
            | some f, some e => decide (f = e) || t.refStop.any fun r => decide (e ≤ r)
            | _, _ => false
        let kept (x : Seat) := (x.segments.map flagged).filter fun g => !removed g
        let held (tb : SeatTable) := (tb.seats.map fun x => (x.segments.filter Segment.stranded).length).sum
        t.table.undisplayed = (s.table.keeping kept).undisplayed
        ∧ (held s.table < held t.table →
          .stranded (held t.table) ∈ t.link.operations.events ∧ .stranded (held t.table) ∈ t.link.content.events)
        ∧ (held t.table ≤ held s.table → s.RaisesOnly [0x05, 0x06, 0x07, 0x10] t))
      ∧ (s.facing ≠ t.facing → t.StaleAt fun _ => true)
      ∧ t.StaleAt (fun x => decide (x.kind = .doorMap)) ∧ t.line.unmarked = s.line.unmarked
      ∧ (∀ po, own s.form.staged = some po →
        let gone (n : Notice) : Bool := decide (n.cls = .journey)
          && n.stop.any fun k => !(s.plan.route po).contains k
        let saved := s.seq.slot1.toList ++ s.seq.slot2.toList ++ s.seq.queue
        let drops (n : Notice) : Bool := gone n || decide (t.targeted n = none)
        t.seq = t.retested { s.seq with
          queue := s.seq.queue.filter fun n => !gone n
          slot1 := s.seq.slot1.filter fun n => !gone n
          slot2 := s.seq.slot2.filter fun n => !gone n }
        ∧ (saved.filter drops ≠ [] →
          ∃ n ∈ saved, drops n = true
            ∧ .noticeDropped n.cls n.tag n.kind n.stop .expired ∈ t.link.operations.events))
      ∧ (own s.form.staged = none →
        let posted (n : Notice) : Bool := decide (n.cls ≠ .journey)
        let q : Sequencer := { s.seq with
          queue := s.seq.queue.filter posted
          slot1 := s.seq.slot1.filter posted
          slot2 := s.seq.slot2.filter posted }
        t.seq = t.retested (if s.seq.active.all posted then q else q.returned))
      ∧ (s.level ≠ t.level → .noticeLevel s.level t.level ∈ t.link.operations.events)
      ∧ (s.seq.active ≠ t.seq.active → t.StaleAt fun x => decide (x.kind = .banner))
      ∧ s.RaisesOnly [0x05, 0x06, 0x07, 0x0E, 0x10] t
      ∧ { t with form := s.form, holds := s.holds, table := s.table, seq := s.seq, link := s.link,
                 line := s.line } = s

/-- R85, R151 and R89: Set Leading End to another end turns the coach: when it is attached, FORMATION, every
panel stale, and its SHORT_PLATFORM notices tested again, a saved one that is no longer off the platform
dropped, an active one ended with its return, the others retargeted; to the end it has, nothing but the
reply.  Write Layout writes one entry of one bank and
marks its panel stale when the bank is the active one. -/
def Obligations.LeadingEndAndLayout : Prop :=
  (∀ (s : State) (e : TrainEnd), (s.plan.state = .running → s.appr.standstill = true) →
    s.Takes .operations 0x33 [BitVec.ofNat 8 e.code] →
    ∃ t, exec (.setLeadingEnd .operations [BitVec.ofNat 8 e.code]) s = .next t
      ∧ t.form = { s.form with lead := e }
      ∧ s.Answers .operations 0x33 [BitVec.ofNat 8 e.code] .done
          (be 1 e.code ++ be 1 t.position ++ be 1 t.facing.code) t
      ∧ (s.form.lead ≠ e → s.attached = true →
        t.StaleAt (fun _ => true)
        ∧ .formation false true t.position t.portion t.facing ∈ t.link.operations.events
        ∧ t.seq = t.retested s.seq
        ∧ (let saved := s.seq.slot1.toList ++ s.seq.slot2.toList ++ s.seq.queue
          (∃ n ∈ saved, t.targeted n = none) →
            ∃ n ∈ saved, t.targeted n = none
              ∧ .noticeDropped n.cls n.tag n.kind n.stop .expired ∈ t.link.operations.events)
        ∧ (s.level ≠ t.level → .noticeLevel s.level t.level ∈ t.link.operations.events)
        ∧ s.RaisesOnly [0x05, 0x06, 0x07] t)
      ∧ (s.form.lead = e ∨ s.attached = false →
        t.line = s.line ∧ t.seq = s.seq ∧ t.link = (s.replied .operations 0x33 [BitVec.ofNat 8 e.code] .done
          (be 1 e.code ++ be 1 t.position ++ be 1 t.facing.code)).link)
      ∧ t.line.unmarked = s.line.unmarked
      ∧ { t with form := s.form, seq := s.seq, link := s.link, line := s.line } = s)
  ∧ (∀ (s : State) (bankB right : Bool) (addr : Nat) (arrow : Arrow), 1 ≤ addr → addr ≤ 24 →
    let b := be 1 (if bankB then 1 else 0) ++ be 1 addr ++ be 1 arrow.code ++ flag right
    let x : LayoutEntry := ⟨arrow, right⟩
    s.Takes .operations 0x35 b →
    exec (.writeLayout .operations b) s
      = .next (State.replied { s with
          form := { s.form with
            bankA := if bankB then s.form.bankA else s.form.bankA.set (addr - 1) x
            bankB := if bankB then s.form.bankB.set (addr - 1) x else s.form.bankB }
          line := { s.line with panels := s.line.panels.map fun y =>
            { y with stale := y.stale
                || (decide (y.addr = addr) && decide (s.facing = if bankB then .bLeads else .aLeads)) } } }
        .operations 0x35 b .done []))

/-! ### Seat Table (chapter 5) -/

/-- R94 and R95: Define Seat with action 0 adds a seat with its blocked flag clear and an empty list at the
end of the table, or redefines one whose list is empty; action 1 removes one whose list is empty.  Each
is handed on, and the reply counts the seats defined and those of the bay.  That a removal marks no strip
stale is log entry 34. -/
def Obligations.SeatsDefinedAndRemoved : Prop :=
  ∀ (s : State) (p : Port) (num bay : Nat) (cat : SeatCategory) (e : CoachEnd),
    1 ≤ num → num ≤ 999 → bay ≤ 23 →
    let b (action : Nat) := be 1 action ++ be 2 num ++ be 1 bay ++ be 1 cat.code ++ be 1 e.code
    let others := s.table.seats.filter fun x => decide (x.bay = bay) && decide (x.number ≠ num)
    (s.Takes p 0x40 (b 0) → s.seat? num = none → s.table.seats.length < 96 → others.length < 6 →
      ∃ t, exec (.defineSeat p (b 0)) s = .next t
        ∧ t.table.undisplayed = SeatTable.undisplayed
            ⟨s.table.seats ++ [⟨num, bay, cat, e, false, [], none⟩], s.table.free⟩
        ∧ s.Handed [num] [bay] t ∧ s.SeatEventOnly t
        ∧ t.StaleAt (fun x => decide (x.kind = .seatStrip) && decide (x.param = bay))
        ∧ s.Answers p 0x40 (b 0) .done (be 1 t.table.seats.length ++ be 1 (others.length + 1)) t)
    ∧ (∀ x, s.Takes p 0x40 (b 0) → s.seat? num = some x → x.segments = [] → others.length < 6 →
      ∃ t, exec (.defineSeat p (b 0)) s = .next t
        ∧ t.table.undisplayed = SeatTable.undisplayed
            ⟨s.table.seats.map fun y =>
              if y.number = num then { y with bay := bay, category := cat, seatEnd := e } else y, s.table.free⟩
        ∧ s.Handed [num] [x.bay, bay] t ∧ s.SeatEventOnly t
        ∧ s.Answers p 0x40 (b 0) .done
            (be 1 s.table.seats.length ++ be 1 (t.seatsOfBay bay).length) t)
    ∧ (∀ x, s.Takes p 0x40 (b 1) → s.seat? num = some x → x.segments = [] →
      ∃ t, exec (.removeSeat p (b 1)) s = .next t
        ∧ t.table = ⟨s.table.seats.filter fun y => decide (y.number ≠ num), s.table.free⟩
        ∧ s.Handed [num] [x.bay] t ∧ s.SeatEventOnly t ∧ t.line = s.line
        ∧ s.Answers p 0x40 (b 1) .done
            (be 1 t.table.seats.length ++ be 1 (t.seatsOfBay x.bay).length) t)

/-- R96: Block Seat gives the seat's blocked flag the value sent, keeps its segments, hands the seat on and
answers their number; where the value is the one held, nothing changes; a seat that does not exist is
NOT_FOUND. -/
def Obligations.BlockSeatSetsTheFlag : Prop :=
  ∀ (s : State) (num : Nat) (value : Bool), 1 ≤ num → num ≤ 999 →
    let b := be 2 num ++ flag value
    s.Takes .operations 0x41 b →
    (s.seat? num = none → exec (.blockSeat .operations b) s = .next (s.replied .operations 0x41 b .notFound []))
    ∧ ∀ x, s.seat? num = some x →
    (x.blocked = value →
      exec (.blockSeat .operations b) s
        = .next (s.replied .operations 0x41 b .done (be 1 x.segments.length)))
    ∧ (x.blocked ≠ value →
      ∃ t, exec (.blockSeat .operations b) s = .next t
        ∧ t.table.undisplayed = SeatTable.undisplayed
            ⟨s.table.seats.map fun y => if y.number = num then { y with blocked := value } else y, s.table.free⟩
        ∧ s.Handed [num] [x.bay] t ∧ s.SeatEventOnly t
        ∧ s.Answers .operations 0x41 b .done (be 1 x.segments.length) t)

/-- R102 to R104 and R97: a put of a leg that fits, on a seat that is not blocked, stores it with its from
stop raised to R where its effective stop is below R; the segments it overlaps are removed when the
replace flag is set, else the put is refused with CONFLICT.  The list keeps its order by from stop, one
record is taken and those removed are returned, and the reply gives what was stored and replaced. -/
def Obligations.PutSegmentStoresTheLeg : Prop :=
  ∀ (s : State) (p : Port) (num f e tag : Nat) (k : SegmentKind) (label : Option Nat) (replace : Bool)
    (x : Seat),
    s.PoolLaw → 1 ≤ num → num ≤ 999 → e < 48 → tag < 65536 → (∀ l, label = some l → l < 1024) →
    s.plan.state = .ready ∨ s.plan.state = .running → s.seat? num = some x → x.blocked = false →
    s.LegFits f e →
    let b := be 2 num ++ be 1 f ++ be 1 e ++ be 1 k.code ++ be 2 tag ++ orFFFF label ++ flag replace
    let leg : Segment := ⟨s.storedFrom f, e, k, tag, label, false⟩
    let hit := x.segments.filter fun g => decide (leg.fromStop < g.toStop) && decide (g.fromStop < e)
    let kept := x.segments.filter fun g => !(decide (leg.fromStop < g.toStop) && decide (g.fromStop < e))
    s.Takes p 0x42 b →
    (hit ≠ [] → replace = false → exec (.putSegment p b) s = .next (s.replied p 0x42 b .conflict []))
    ∧ (hit = [] ∨ replace = true → 8 ≤ kept.length ∨ s.table.free + hit.length = 0 →
      exec (.putSegment p b) s = .next (s.replied p 0x42 b .noRoom []))
    ∧ (hit = [] ∨ replace = true → kept.length < 8 → 0 < s.table.free + hit.length →
      ∃ t new, exec (.putSegment p b) s = .next t
        ∧ new.Perm (leg :: kept)
        ∧ (x.segments.Pairwise (fun g h => g.fromStop ≤ h.fromStop) →
            new.Pairwise fun g h => g.fromStop ≤ h.fromStop)
        ∧ t.table.undisplayed = SeatTable.undisplayed
            ⟨s.table.seats.map fun y => if y.number = num then { y with segments := new } else y,
             s.table.free + hit.length - 1⟩
        ∧ s.Handed [num] [x.bay] t ∧ s.SeatEventOnly t
        ∧ s.Answers p 0x42 b .done
            (be 1 leg.fromStop ++ be 1 new.length ++ be 2 t.table.free ++ be 1 hit.length
              ++ hit.flatMap fun g => be 2 g.tag) t)

/-- R105 and R106: Remove Segment takes the segment with the stored from stop out of the seat's list,
Clear Seat every segment; the records return to the pool and the seat is handed on, unless Clear Seat
found an empty list.  A seat or a segment that does not exist is answered NOT_FOUND. -/
def Obligations.SegmentsRemoved : Prop :=
  (∀ (s : State) (p : Port) (num f : Nat), 1 ≤ num → num ≤ 999 → f < 48 →
    (s.Takes p 0x43 (be 2 num ++ be 1 f) →
      (s.seat? num = none ∨ ∃ x, s.seat? num = some x ∧ ∀ g ∈ x.segments, g.fromStop ≠ f) →
      exec (.removeSegment p (be 2 num ++ be 1 f)) s
        = .next (s.replied p 0x43 (be 2 num ++ be 1 f) .notFound []))
    ∧ (s.Takes p 0x44 (be 2 num) → s.seat? num = none →
      exec (.clearSeat p (be 2 num)) s = .next (s.replied p 0x44 (be 2 num) .notFound [])))
  ∧ ∀ (s : State) (p : Port) (num : Nat) (x : Seat), s.PoolLaw → 1 ≤ num → num ≤ 999 → s.seat? num = some x →
    (∀ (f : Nat) (g : Segment), f < 48 → x.segments.find? (fun g => g.fromStop = f) = some g →
      s.Takes p 0x43 (be 2 num ++ be 1 f) →
      ∃ t, exec (.removeSegment p (be 2 num ++ be 1 f)) s = .next t
        ∧ t.table.undisplayed = SeatTable.undisplayed
            ⟨s.table.seats.map fun y =>
              if y.number = num then { y with segments := x.segments.erase g } else y, s.table.free + 1⟩
        ∧ s.Handed [num] [x.bay] t ∧ s.SeatEventOnly t
        ∧ s.Answers p 0x43 (be 2 num ++ be 1 f) .done (be 2 g.tag ++ be 1 g.kind.code) t)
    ∧ (x.segments ≠ [] → s.Takes p 0x44 (be 2 num) →
      ∃ t, exec (.clearSeat p (be 2 num)) s = .next t
        ∧ t.table.undisplayed = SeatTable.undisplayed
            ⟨s.table.seats.map fun y => if y.number = num then { y with segments := [] } else y,
             s.table.free + x.segments.length⟩
        ∧ s.Handed [num] [x.bay] t ∧ s.SeatEventOnly t
        ∧ s.Answers p 0x44 (be 2 num) .done (be 1 x.segments.length ++ be 2 t.table.free) t)
    ∧ (x.segments = [] → s.Takes p 0x44 (be 2 num) →
      exec (.clearSeat p (be 2 num)) s
        = .next (s.replied p 0x44 (be 2 num) .done (be 1 0 ++ be 2 s.table.free)))

/-- R107, R108 and R97: Move Seat carries the segments of seat a that are not stranded and whose effective to
stop is above R to seat b, their from stops raised to R where below it, each at its place; the others stay;
the pool's free count is as before, and both seats are handed on.  With none to move nothing changes. -/
def Obligations.MoveSeatCarriesTheRest : Prop :=
  ∀ (s : State) (p : Port) (m n : Nat) (x y : Seat), s.PoolLaw → 1 ≤ m → m ≤ 999 → 1 ≤ n → n ≤ 999 →
    m ≠ n → s.plan.state = .ready ∨ s.plan.state = .running → s.hasRoute = true →
    s.seat? m = some x → s.seat? n = some y → y.blocked = false →
    let goes (g : Segment) : Bool := match s.eff g.toStop, s.refStop with
      | some e, some r => !g.stranded && decide (r < e)
      | _, _ => false
    let moving := (x.segments.filter goes).map fun g => { g with fromStop := s.storedFrom g.fromStop }
    let staying := x.segments.filter fun g => !goes g
    y.segments.length + moving.length ≤ 8 →
    (∀ g ∈ moving, ∀ h ∈ y.segments, ¬ (g.fromStop < h.toStop ∧ h.fromStop < g.toStop)) →
    s.Takes p 0x45 (be 2 m ++ be 2 n) →
    ∃ t new, exec (.moveSeat p (be 2 m ++ be 2 n)) s = .next t
      ∧ s.Answers p 0x45 (be 2 m ++ be 2 n) .done
          (be 1 moving.length ++ be 1 staying.length ++ be 1 (y.segments.length + moving.length)) t
      ∧ s.SeatEventOnly t
      ∧ (moving = [] → t.table = s.table ∧ t.holds = s.holds ∧ t.line = s.line)
      ∧ (moving ≠ [] → new.Perm (moving ++ y.segments)
        ∧ (y.segments.Pairwise (fun g h => g.fromStop ≤ h.fromStop) →
            new.Pairwise fun g h => g.fromStop ≤ h.fromStop)
        ∧ t.table.undisplayed = SeatTable.undisplayed
            ⟨s.table.seats.map fun z =>
              if z.number = m then { z with segments := staying }
              else if z.number = n then { z with segments := new } else z, s.table.free⟩
        ∧ s.Handed [m, n] [x.bay, y.bay] t)

/-- R119, R120 and R123: Read Seat and Read Bay answer the seat entries of 5.8 as they stand, the free
records and R, and change nothing; Held Read answers what Read Seat does and makes its port's hold stand
on the seat.  R is that of R100, and the display in an entry is that of R109 and R110. -/
def Obligations.SeatReads : Prop :=
  ∀ (s : State) (p : Port),
    let segment (g : Segment) := be 1 g.fromStop ++ be 1 g.toStop ++ orFF (s.eff g.fromStop)
      ++ orFF (s.eff g.toStop) ++ be 1 g.kind.code ++ be 2 g.tag ++ orFFFF g.label ++ flag g.stranded
    let direction (x : Seat) : Nat := match s.entry with
      | none => 2
      | some i => match i.facing s.form.lead, x.seatEnd with
        | .aLeads, .a => 0
        | .aLeads, .b => 1
        | .bLeads, .a => 1
        | .bLeads, .b => 0
    let entry (x : Seat) := be 2 x.number ++ be 1 x.bay ++ be 1 x.category.code ++ be 1 x.seatEnd.code
      ++ flag x.blocked ++ be 1 (s.display x).state.code ++ orFF (s.display x).boundary
      ++ orFFFF (s.display x).label ++ be 1 (direction x) ++ be 1 x.segments.length
      ++ x.segments.flatMap segment
    let tail := be 2 s.table.free ++ orFF s.refStop
    let first := s.coachCalls.head?
    s.refStop = (if s.coachRoute = [] then none else match s.plan.state, s.appr.stage, s.appr.last with
      | .empty, _, _ => none
      | .loading, _, _ => none
      | .ready, _, _ => first
      | .running, some .atPlatform, _ => s.appr.current
      | .running, _, some l => some l
      | .running, _, none => first
      | .ended, _, l => if s.appr.current ≠ none then s.appr.current else l)
    ∧ (∀ x, s.display x = s.shown x) ∧
    (∀ num x, 1 ≤ num → num ≤ 999 → s.seat? num = some x →
      (s.Takes p 0x46 (be 2 num) →
        exec (.readSeat p (be 2 num)) s = .next (s.replied p 0x46 (be 2 num) .done (entry x ++ tail)))
      ∧ (s.Takes p 0x48 (be 2 num) →
        exec (.heldRead p (be 2 num)) s
          = .next (State.replied { s with holds := match p with
                | .operations => { s.holds with operations := .standing num }
                | .content => { s.holds with content := .standing num } }
              p 0x48 (be 2 num) .done (entry x ++ tail))))
    ∧ (∀ bay, bay ≤ 23 → s.Takes p 0x47 (be 1 bay) →
      let seats := s.table.seats.filter fun x => x.bay = bay
      exec (.readBay p (be 1 bay)) s
        = .next (s.replied p 0x47 (be 1 bay) .done
            (be 1 bay ++ be 1 seats.length ++ seats.flatMap entry ++ tail)))

/-- R98 and R93: whatever happens, the segments in seat lists and the free records together number 256,
seat numbers stay distinct, at most 96 seats are defined and at most 6 stand in one bay. -/
def Obligations.PoolLawKept : Prop :=
  ∀ s t : State, s.PoolLaw → s.SeatLimits → step s = .next t → t.PoolLaw ∧ t.SeatLimits

/-! ### Hold and Mark Unit (chapter 6) -/

/-- R126 to R130 and R135: with its port's hold standing on the seat, a commit of segments that all fit and
do not overlap, for which there are records, replaces the seat's whole list by them in order of from
stop; the hold becomes ABSENT and the seat is handed on, except where its list was empty and none is
sent.  Its reply gives the numbers removed and stored, the free records, and the from stops stored. -/
def Obligations.CommitReplacesTheList : Prop :=
  ∀ (s : State) (p : Port) (num : Nat) (x : Seat) (legs : List Segment),
    s.PoolLaw → 1 ≤ num → num ≤ 999 → s.holds.get p = .standing num → s.seat? num = some x →
    legs.length ≤ 8 → (legs ≠ [] → (s.plan.state = .ready ∨ s.plan.state = .running) ∧ x.blocked = false) →
    (∀ g ∈ legs, s.LegFits g.fromStop g.toStop ∧ g.toStop < 48 ∧ g.tag < 65536
      ∧ (∀ l, g.label = some l → l < 1024)) →
    let b := be 2 num ++ be 1 legs.length ++ legs.flatMap fun g =>
      be 1 g.fromStop ++ be 1 g.toStop ++ be 1 g.kind.code ++ be 2 g.tag ++ orFFFF g.label
    let stored := legs.map fun g => { g with fromStop := s.storedFrom g.fromStop, stranded := false }
    stored.Pairwise (fun g h => ¬ (g.fromStop < h.toStop ∧ h.fromStop < g.toStop)) →
    legs.length ≤ s.table.free + x.segments.length →
    s.Takes p 0x49 b →
    ∃ t new, exec (.commitSeat p b) s = .next t
      ∧ new.Perm stored ∧ new.Pairwise (fun g h => g.fromStop ≤ h.fromStop)
      ∧ t.table.undisplayed = SeatTable.undisplayed
          ⟨s.table.seats.map fun y => if y.number = num then { y with segments := new } else y,
           s.table.free + x.segments.length - legs.length⟩
      ∧ (x.segments ≠ [] ∨ legs ≠ [] → State.Handed (s.setHold p .absent) [num] [x.bay] t)
      ∧ (x.segments = [] → legs = [] → t.holds = (s.setHold p .absent).holds)
      ∧ s.SeatEventOnly t
      ∧ s.Answers p 0x49 b .done
          (be 1 x.segments.length ++ be 1 legs.length ++ be 2 t.table.free ++ new.flatMap fun g => be 1 g.fromStop)
          t

/-- R127 and R130: a commit taken into service changes a seat list only when its port's hold stood on the
seat it names; without that every well-formed payload is refused with STALE and a reason; and whatever the
outcome its port's hold is ABSENT afterwards.  It holds in every plan state, EMPTY among them: a hold that a
Clear Plan broke gives STALE with reason 2 (log entry 44). -/
def Obligations.CommitNeedsStandingHold : Prop :=
  ∀ (s t : State) (p : Port) (b : List Byte), s.inService p 0x49 b = true →
    exec (.commitSeat p b) s = .next t →
    t.holds.get p = .absent
    ∧ (t.table ≠ s.table → s.holds.get p = .standing (u16 b 0))
    ∧ (∀ (num : Nat) (legs : List Segment), s.link.rest = .awake → 1 ≤ num → num ≤ 999 → legs.length ≤ 8 →
      (∀ g ∈ legs, g.fromStop < 48 ∧ g.toStop < 48 ∧ g.tag < 65536 ∧ (∀ l, g.label = some l → l < 1024)) →
      (b = be 2 num ++ be 1 legs.length ++ legs.flatMap fun g =>
        be 1 g.fromStop ++ be 1 g.toStop ++ be 1 g.kind.code ++ be 2 g.tag ++ orFFFF g.label) →
      ∀ reason, (s.holds.get p = .absent ∧ reason = 0)
        ∨ (∃ n, n ≠ num ∧ (s.holds.get p = .standing n ∨ s.holds.get p = .broken n) ∧ reason = 1)
        ∨ (s.holds.get p = .broken num ∧ reason = 2) →
      t = (s.setHold p .absent).replied p 0x49 b .stale (be 1 reason))

/-- R134: Take Marks answers the marks as they stood, clears those the request names, and gives those left
and the state and seat of its own port's hold; nothing else changes. -/
def Obligations.TakeMarksClearsTheNamed : Prop :=
  ∀ (s : State) (p : Port) (named : BitVec 24), s.Takes p 0x4A (be 3 named.toNat) →
    let hold := match s.holds.get p with
      | .absent => be 2 0 ++ [0]
      | .standing n => be 2 n ++ [1]
      | .broken n => be 2 n ++ [2]
    let left := s.holds.marks &&& ~~~named
    exec (.takeMarks p (be 3 named.toNat)) s
      = .next (State.replied { s with holds := { s.holds with marks := left } } p 0x4A (be 3 named.toNat) .done
          (be 3 s.holds.marks.toNat ++ be 3 left.toNat ++ hold))

/-! ### Notice Sequencer (chapter 7) -/

/-- R142, R143, R152 to R154 and R156: an accepted Post Notice takes its dwell clamped to 3..30, a mask of 0 as
all four languages and its expiry as a time limit, and is placed by its class and the active notice: it
starts, saving the notice it pre-empts in slot 1 or 2 or replacing an alarm, or it joins the queue.  Where
the queue has no room a SERVICE notice displaces one of lower rank, with NOTICE_DROPPED; an INFORMATION
notice, and a SERVICE notice in a queue of 16 SERVICE notices, is refused with NO_ROOM. -/
def Obligations.PostNoticeIsPlaced : Prop :=
  ∀ (s : State) (p : Port) (cls : NoticeClass) (tag reps dwell mask expiry : Nat) (items : List Item),
    cls ≠ .journey → 1 ≤ tag → tag < 65536 → 1 ≤ reps → reps ≤ 3 → dwell < 256 → mask < 16 →
    expiry ≤ 3600 → (cls = .alarm → expiry = 0) → 1 ≤ items.length → items.length ≤ 6 →
    (∀ i ∈ items, i.InRange) → (∀ n ∈ s.seq.all, n.kind = none → n.tag ≠ tag) →
    let b := be 1 cls.code ++ be 2 tag ++ be 1 reps ++ be 1 dwell ++ be 1 mask ++ be 2 expiry
      ++ be 1 items.length ++ items.flatMap Item.encode
    let n : Notice :=
      ⟨cls, tag, none, none, items, reps, max 3 (min 30 dwell),
       if mask = 0 then 0xF else BitVec.ofNat 4 mask,
       if expiry = 0 then .unlimited else .limit (1000 * expiry), 0, 0⟩
    let upper (m : Notice) : Bool := decide (m.cls = .service) || decide (m.cls = .alarm)
    let room : Prop := match s.seq.active with
      | none => True
      | some a =>
        (cls = .information → s.seq.queue.length < 16
          ∧ (s.seq.queue.filter fun m => decide (m.cls ≠ .service)).length < 12)
        ∧ (cls = .service → upper a = true → s.seq.queue.length < 16)
    let seq1 : Sequencer := match s.seq.active with
      | none => s.seq.started n
      | some a =>
        if cls = .alarm then
          (if a.cls = .alarm then s.seq else { s.seq with slot2 := some a }).started n
        else if cls = .service ∧ upper a = false then Sequencer.started n { s.seq with slot1 := some a }
        else if cls = .service then
          { s.seq with queue := s.seq.queue.takeWhile upper ++ n :: s.seq.queue.dropWhile upper }
        else { s.seq with queue := s.seq.queue ++ [n] }
    s.Takes p 0x50 b →
    (room →
      ∃ t, exec (.postNotice p b) s = .next t ∧ t.seq = seq1 ∧ s.NoticeEventOnly t
        ∧ (∀ a, cls = .alarm → s.seq.active = some a → a.cls = .alarm →
          .noticeDropped .alarm a.tag a.kind a.stop .replaced ∈ t.link.operations.events)
        ∧ s.Answers p 0x50 b .done
            ([if t.seq.queue.length = s.seq.queue.length then 0 else 1] ++ be 1 t.seq.queue.length
              ++ be 1 t.level) t)
    ∧ (¬ room → cls = .information ∨ (∀ m ∈ s.seq.queue, m.cls = .service) →
      exec (.postNotice p b) s = .next (s.replied p 0x50 b .noRoom []))
    ∧ (∀ v, ¬ room → cls = .service → s.seq.victim = some v →
      ∃ t, exec (.postNotice p b) s = .next t
        ∧ t.seq = { s.seq with queue :=
            (s.seq.queue.erase v).takeWhile upper ++ n :: (s.seq.queue.erase v).dropWhile upper }
        ∧ s.NoticeEventOnly t
        ∧ .noticeDropped v.cls v.tag v.kind v.stop .displaced ∈ t.link.operations.events
        ∧ s.Answers p 0x50 b .done ([1] ++ be 1 t.seq.queue.length ++ be 1 t.level) t)

/-- R144, R145, R158 to R162: a notice leaves the place it is in by withdrawal, by Clear Alarm or at the end
of its time limit, a posted one and a journey notice alike.  From the queue the others move up, from a save
slot the slot is emptied, from the active place the return of R159 or R160 is made at once; an expiry of a
queued or saved notice raises NOTICE_DROPPED with reason expired.  On the Content port a notice that is not
INFORMATION is not withdrawn.  A time limit's command acts whatever is left of it (log entry 30). -/
def Obligations.NoticesLeaveTheirPlace : Prop :=
  (∀ (s : State) (p : Port) (tag : Nat), 1 ≤ tag → tag < 65536 → s.Takes p 0x51 (be 2 tag) →
    let tagged (m : Notice) : Bool := decide (m.kind = none) && decide (m.tag = tag)
    let withdrawn (q : Sequencer) (place : Nat) : State :=
      State.replied { s with seq := q } p 0x51 (be 2 tag) .done (be 1 place ++ be 1 s.level)
    ((∀ m ∈ s.seq.all, tagged m = false) →
      exec (.withdrawNotice p (be 2 tag)) s = .next (s.replied p 0x51 (be 2 tag) .notFound []))
    ∧ ∀ n : Notice, tagged n = true →
    (p = .content → n.cls ≠ .information → (∀ m ∈ s.seq.all, tagged m = true → m = n) → n ∈ s.seq.all →
      exec (.withdrawNotice p (be 2 tag)) s = .next (s.replied p 0x51 (be 2 tag) .privilege []))
    ∧ ((p = .content → n.cls = .information) →
      (s.seq.active = some n →
        ∃ t, exec (.withdrawNotice p (be 2 tag)) s = .next t
          ∧ t.seq = (if n.cls = .alarm then s.seq.returnedFromAlarm else s.seq.returned)
          ∧ s.NoticeEventOnly t ∧ s.Answers p 0x51 (be 2 tag) .done (be 1 0 ++ be 1 t.level) t)
      ∧ ((∀ m ∈ s.seq.active, tagged m = false) → s.seq.slot1 = some n →
        exec (.withdrawNotice p (be 2 tag)) s = .next (withdrawn { s.seq with slot1 := none } 1))
      ∧ ((∀ m ∈ s.seq.active.toList ++ s.seq.slot1.toList, tagged m = false) → s.seq.slot2 = some n →
        exec (.withdrawNotice p (be 2 tag)) s = .next (withdrawn { s.seq with slot2 := none } 2))
      ∧ ((∀ m ∈ s.seq.active.toList ++ s.seq.slot1.toList ++ s.seq.slot2.toList, tagged m = false) →
        s.seq.queue.find? tagged = some n →
        exec (.withdrawNotice p (be 2 tag)) s
          = .next (withdrawn { s.seq with queue := s.seq.queue.erase n } 3))))
  ∧ (∀ s : State, s.level = 2 → s.Takes .operations 0x52 [] →
    ∃ t, exec (.clearAlarm .operations []) s = .next t ∧ t.seq = s.seq.returnedFromAlarm
      ∧ s.NoticeEventOnly t
      ∧ s.Answers .operations 0x52 [] .done (be 1 t.level ++ orFF (t.seq.active.map fun n => n.cls.code)) t)
  ∧ (∀ (s : State) (ref : NoticeRef) (n : Notice) (ms : Nat), s.powered = true →
    let named (m : Notice) : Bool := match ref with
      | .posted tag => decide (m.kind = none) && decide (m.tag = tag)
      | .journey k stop => decide (m.kind = some k) && decide (m.stop = some stop)
    let alone (others : List Notice) : Prop := ∀ m ∈ others, named m = false
    named n = true → n.validity = .limit ms →
    let q := s.seq
    let dropped (t : State) (seq : Sequencer) : Prop := t.seq = seq ∧ s.NoticeEventOnly t
      ∧ .noticeDropped n.cls n.tag n.kind n.stop .expired ∈ t.link.operations.events
    (∀ front back, q.queue = front ++ n :: back →
      alone (q.active.toList ++ q.slot1.toList ++ q.slot2.toList ++ front ++ back) →
      ∃ t, exec (.noticeValidityExpiry ref) s = .next t ∧ dropped t { q with queue := front ++ back })
    ∧ (q.slot1 = some n → alone (q.active.toList ++ q.slot2.toList ++ q.queue) →
      ∃ t, exec (.noticeValidityExpiry ref) s = .next t ∧ dropped t { q with slot1 := none })
    ∧ (q.slot2 = some n → alone (q.active.toList ++ q.slot1.toList ++ q.queue) →
      ∃ t, exec (.noticeValidityExpiry ref) s = .next t ∧ dropped t { q with slot2 := none })
    ∧ (q.active = some n → alone (q.slot1.toList ++ q.slot2.toList ++ q.queue) →
      ∃ t, exec (.noticeValidityExpiry ref) s = .next t
        ∧ t.seq = (if n.cls = .alarm then q.returnedFromAlarm else q.returned) ∧ s.NoticeEventOnly t))

/-- R138, R139 and R158: when the dwell of the active notice runs out, its cycle is complete: the next
language of its mask is shown for the full dwell, or, once a notice other than an ALARM has been shown
repeat count times in each language, it ends and the return is made.  The dwell's command acts whatever
is left of it (log entry 30). -/
def Obligations.DwellRunsOut : Prop :=
  ∀ (s : State) (n : Notice), s.powered = true → s.seq.active = some n → n.cycles < 255 →
    let count := ((List.range 4).filter fun i => n.mask.getLsbD i).length
    let next := ((List.range 4).find? fun i => n.mask.getLsbD i && decide (n.lang < i)).getD (firstLanguage n.mask)
    ∃ t, exec .dwellExpiry s = .next t
      ∧ s.NoticeEventOnly t
      ∧ (n.cls ≠ .alarm → n.cycles + 1 = count * n.repeats → t.seq = s.seq.returned)
      ∧ (n.cls = .alarm ∨ n.cycles + 1 ≠ count * n.repeats →
        t.seq = { s.seq with active := some { n with cycles := n.cycles + 1, lang := next }
                             dwellLeft := 1000 * n.dwell })

/-- R152 and R155 to R159: whatever happens, slot 1 holds a notice, of class JOURNEY or INFORMATION, only at
level 1 or 2, slot 2 only at level 2, and the queue holds at most 16 notices, at most 12 of them not
SERVICE. -/
def Obligations.NoticePlacesKept : Prop :=
  ∀ s t : State, s.SlotLaw → s.QueueLaw → step s = .next t → t.SlotLaw ∧ t.QueueLaw

/-! ### Phrase Store (chapter 8) -/

/-- R171 to R174, R182, R187 and R195: Store Unlock sets the latch; a Write Phrase that finds it set, its sector not
protected, the store IDLE or the erase held elsewhere and the entry ERASED starts a program that leaves
every other place as it was; at its completion the entry is VALID with the text, STORE_DONE is pending on
Content, a page that waited goes out with the brightness of that moment (R195), a Read Phrase that waited is
answered (R187), and the incomplete panels are stale.  Without the latch it answers NOT_ENABLED.  The entry is
held as TORN until then (log entry 29).  Well-formed text is log entry 16; a page that waited for the program
goes on before the incomplete panels are marked stale (log entry 17); the program's command acts whatever
is left of its time (log entry 30). -/
def Obligations.PhraseProgrammed : Prop :=
  (∀ (s : State) (p : Port), s.Takes p 0x60 [] →
    exec (.storeUnlock p []) s
      = .next (State.replied { s with store := { s.store with latch := true } } p 0x60 [] .done []))
  ∧ (∀ (s : State) (p : Port) (phrase lang : Nat) (text : List Byte), phrase < 1024 → lang < 4 →
    1 ≤ text.length → text.length ≤ 120 → utf8 text = true →
    let b := be 2 phrase ++ be 1 lang ++ text
    s.Takes p 0x61 b →
    (s.store.latch = false → exec (.writePhrase p b) s = .next (s.replied p 0x61 b .notEnabled []))
    ∧ (s.store.latch = true → s.store.locks.getLsbD (phrase / 8) = false →
      (phrase / 8 < 8 → s.store.fixedLock = false) →
      (s.store.op = .idle ∨ ∃ er, s.store.op = .eraseHeld er ∧ (phrase / 8 < er.current ∨ er.last < phrase / 8)) →
      getEntry s.store.entries (4 * phrase + lang) = none → s.store.incomplete.getLsbD (phrase / 8) = false →
      ∃ t, exec (.writePhrase p b) s = .next t
        ∧ t.link = (s.replied p 0x61 b .done (be 2 phrase ++ be 1 lang)).link
        ∧ t.store.latch = false
        ∧ t.store.op = (match s.store.op with
            | .eraseHeld er => .heldProgramming er ⟨phrase, lang, text, 2⟩
            | _ => .programming ⟨phrase, lang, text, 2⟩)
        ∧ (∀ k, getEntry t.store.entries k
            = if k = 4 * phrase + lang then some .torn else getEntry s.store.entries k)
        ∧ { t with link := s.link
                   store := { t.store with
                     latch := s.store.latch, op := s.store.op, entries := s.store.entries } } = s))
  ∧ (∀ (s : State) (pr : Program), s.powered = true →
    (s.store.op = .programming pr ∨ ∃ er, s.store.op = .heldProgramming er pr) →
    ∃ t, exec .programComplete s = .next t
      ∧ (∀ k, getEntry t.store.entries k
          = if k = 4 * pr.phrase + pr.lang then some (.valid pr.text) else getEntry s.store.entries k)
      ∧ t.store.op = (match s.store.op with
          | .heldProgramming er _ => .eraseHeld er
          | _ => .idle)
      ∧ .storeDone false pr.phrase ∈ t.link.content.events ∧ s.RaisesOnly [0x11] t
      ∧ (∀ p, { t.port p with events := [] } = { (match (s.port p).service with
          | .deferred phrase lang => { s.port p with
              service := .answered, reply := some ⟨0xE5, .done, t.store.entryRead phrase lang⟩ }
          | _ => s.port p) with events := [] })
      ∧ t.link.rest = s.link.rest ∧ t.link.restart = s.link.restart
      ∧ t.StaleAt (fun x => x.incomplete)
      ∧ ((∀ fr ∈ s.line.flight, ∀ cells, fr.body ≠ .waiting cells) → t.line.unmarked = s.line.unmarked)
      ∧ (∀ fr cells, s.line.flight = some fr → fr.body = .waiting cells →
        let bright := min (s.ambient fr.panelKind) s.bright.ceiling
        t.line.unmarked = PanelLine.unmarked { s.line with
          flight := some { fr with
            body := .sent (panelFrame .page fr.addr bright fr.lang (cells.flatMap (t.store.cellBytes fr.lang)))
            ackLeft := 20 }
          panels := s.line.panels.map fun y =>
            if y.addr = fr.addr ∧ fr.discard = false then
              { y with incomplete := cells.any (t.store.blankCell fr.lang), bright := some bright }
            else y })
      ∧ { t with link := s.link, line := s.line
                 store := { t.store with op := s.store.op, entries := s.store.entries } } = s)

/-- R168, R175 to R178, R182 and R185: an accepted Erase Sectors makes its first sector current and
INCOMPLETE with 200 ms to go; when a sector's time is used up its entries are ERASED and its marker is
back, and the next sector begins, or the erase ends with STORE_DONE; Hold Erase and Resume Erase keep the
time still needed and answer the current sector and how many are to go.  An INCOMPLETE sector keeps its
entries until its erase finishes (log entry 29); the finish's command acts whatever is left of the sector's
time (log entry 30). -/
def Obligations.SectorsErased : Prop :=
  (∀ (s : State) (p : Port) (first last : Nat), first ≤ last → last < 128 →
    let b := be 1 first ++ be 1 last
    s.store.latch = true → s.store.op = .idle →
    (∀ i, first ≤ i → i ≤ last → s.store.locks.getLsbD i = false ∧ (i < 8 → s.store.fixedLock = false)) →
    s.Takes p 0x62 b →
    ∃ t, exec (.eraseSectors p b) s = .next t
      ∧ t.link = (s.replied p 0x62 b .done (be 1 (last + 1 - first))).link
      ∧ t.store.op = .erasing ⟨first, last, first, 200⟩ ∧ t.store.latch = false
      ∧ (∀ i < 128, t.store.incomplete.getLsbD i = (s.store.incomplete.getLsbD i || decide (i = first)))
      ∧ t.store.incompleteCount
        = s.store.incompleteCount + (if s.store.incomplete.getLsbD first then 0 else 1)
      ∧ t.store.entries = s.store.entries ∧ t.store.locks = s.store.locks
      ∧ t.store.fixedLock = s.store.fixedLock ∧ { t with link := s.link, store := s.store } = s)
  ∧ (∀ (s : State) (er : Erase), s.powered = true → s.store.op = .erasing er →
    ∃ t, exec .sectorEraseFinish s = .next t
      ∧ (∀ k, getEntry t.store.entries k
          = if k / 32 = er.current then none else getEntry s.store.entries k)
      ∧ t.store.locks = s.store.locks ∧ t.store.latch = s.store.latch
      ∧ (er.current < er.last →
        t.store.op = .erasing ⟨er.first, er.last, er.current + 1, 200⟩
        ∧ (∀ i < 128, t.store.incomplete.getLsbD i
          = ((s.store.incomplete.getLsbD i && decide (i ≠ er.current)) || decide (i = er.current + 1)))
        ∧ { t with store := s.store } = s)
      ∧ (er.last ≤ er.current →
        t.store.op = .idle ∧ .storeDone true er.last ∈ t.link.content.events ∧ s.RaisesOnly [0x11] t
        ∧ (∀ i < 128, t.store.incomplete.getLsbD i
          = (s.store.incomplete.getLsbD i && decide (i ≠ er.current)))
        ∧ t.StaleAt (fun x => x.incomplete) ∧ t.line.unmarked = s.line.unmarked
        ∧ { t with store := s.store, link := s.link, line := s.line } = s))
  ∧ (∀ (s : State) (p : Port) (er : Erase),
    let progress := be 1 er.current ++ be 1 (er.last + 1 - er.current)
    (s.store.op = .erasing er → s.Takes p 0x63 [] →
      exec (.holdErase p []) s
        = .next (State.replied { s with store := { s.store with op := .eraseHeld er } } p 0x63 [] .done progress))
    ∧ (s.store.op = .eraseHeld er → s.Takes p 0x64 [] →
      exec (.resumeErase p []) s
        = .next (State.replied { s with store := { s.store with op := .erasing er } } p 0x64 [] .done progress))
    ∧ (∀ pr, s.store.op = .heldProgramming er pr → s.Takes p 0x64 [] →
      exec (.resumeErase p []) s = .next (s.replied p 0x64 [] .busy [])))

/-- R183 and R184: with the store IDLE, Lock Sectors gives the lock bits of its range the value and answers
how many changed, where the fixed-area lock is clear or the range lies outside sectors 0..7; Lock Fixed
Area sets the fixed-area lock and answers what it was. -/
def Obligations.SectorsLocked : Prop :=
  (∀ (s : State) (first last : Nat) (value : Bool), first ≤ last → last < 128 →
    let b := be 1 first ++ be 1 last ++ flag value
    s.Takes .operations 0x67 b →
    (s.store.fixedLock = true → first < 8 →
      exec (.lockSectors .operations b) s = .next (s.replied .operations 0x67 b .locked []))
    ∧ (s.store.fixedLock = false ∨ 8 ≤ first → s.store.op ≠ .idle →
      exec (.lockSectors .operations b) s = .next (s.replied .operations 0x67 b .busy []))
    ∧ (s.store.fixedLock = false ∨ 8 ≤ first → s.store.op = .idle →
      ∃ locks : BitVec 128,
        (∀ i < 128, locks.getLsbD i = if first ≤ i ∧ i ≤ last then value else s.store.locks.getLsbD i)
        ∧ exec (.lockSectors .operations b) s
          = .next (State.replied { s with store := { s.store with locks := locks } } .operations 0x67 b .done
              (be 1 ((List.range 128).filter fun i =>
                decide (first ≤ i) && decide (i ≤ last) && (s.store.locks.getLsbD i != value)).length))))
  ∧ (∀ s : State, s.Takes .operations 0x68 [] →
    (s.store.op ≠ .idle →
      exec (.lockFixedArea .operations []) s = .next (s.replied .operations 0x68 [] .busy []))
    ∧ (s.store.op = .idle →
      exec (.lockFixedArea .operations []) s
        = .next (State.replied { s with store := { s.store with fixedLock := true } } .operations 0x68 [] .done
            (flag s.store.fixedLock))))

/-- R171, R169, R183, R184: a program or an erase starts only while the latch is set, and each Write Phrase
and Erase Sectors taken leaves it clear; lock bits change by Lock Sectors alone, and the fixed-area lock
once set is never cleared. -/
def Obligations.StoreProtected : Prop :=
  ∀ (c : Instr) (s t : State), exec c s = .next t →
    (s.store.op.program? = none → t.store.op.program? ≠ none → s.store.latch = true)
    ∧ (s.store.op.erase? = none → t.store.op.erase? ≠ none → s.store.latch = true)
    ∧ (∀ p b, (c = .writePhrase p b ∧ s.inService p 0x61 b = true)
        ∨ (c = .eraseSectors p b ∧ s.inService p 0x62 b = true) → t.store.latch = false)
    ∧ ((∀ p b, c ≠ .lockSectors p b) → t.store.locks = s.store.locks)
    ∧ (s.store.fixedLock = true → t.store.fixedLock = true)

/-! ### Panel line (chapter 9) -/

/-- R191, R192, R197 to R200: Define Panel creates a record IDLE and stale at its place by address, or gives
a defined one its new kind and parameter and its stale flag; with action 1 the record leaves, and the
answer to a frame in flight to it will be discarded.  Set Languages and the rotation timer set the list,
the position and the timer, and mark what the rotation drives stale.  The rotation timer's command acts
whatever is left of it (log entry 30). -/
def Obligations.PanelsAndLanguages : Prop :=
  (∀ (s : State) (addr param : Nat) (k : PanelKind), s.PanelLaw → 1 ≤ addr → addr ≤ 24 →
    (k = .seatStrip → param ≤ 23) → (k = .doorMap → param ≤ 1) → (k = .banner → param = 0) →
    (k ≠ .seatStrip → (s.line.panels.filter fun x => decide (x.kind = k) && decide (x.addr ≠ addr)).length < 4) →
    let b (action : Nat) := be 1 action ++ be 1 addr ++ be 1 k.code ++ be 1 param
    let counts (l : List Panel) := be 1 l.length ++ be 1 (l.filter fun x => x.kind = .doorMap).length
      ++ be 1 (l.filter fun x => x.kind = .banner).length
    (s.Takes .operations 0x70 (b 0) →
      ∃ panels, exec (.definePanel .operations (b 0)) s
        = .next (State.replied { s with line := { s.line with panels := panels } } .operations 0x70 (b 0) .done
            (counts panels))
      ∧ panels.Pairwise (fun x y => x.addr < y.addr)
      ∧ ((∀ x ∈ s.line.panels, x.addr ≠ addr) →
          panels.Perm (⟨addr, k, param, .idle, true, 0, false, none, .stopped⟩ :: s.line.panels))
      ∧ ((∃ x ∈ s.line.panels, x.addr = addr) →
          panels = s.line.panels.map fun x =>
            if x.addr = addr then { x with kind := k, param := param, stale := true } else x))
    ∧ (s.Takes .operations 0x70 (b 1) → (∃ x ∈ s.line.panels, x.addr = addr) →
      let panels := s.line.panels.filter fun x => decide (x.addr ≠ addr)
      exec (.removePanel .operations (b 1)) s
        = .next (State.replied { s with line := { s.line with
              panels := panels
              flight := s.line.flight.map fun fr =>
                { fr with discard := fr.discard || decide (fr.addr = addr) } } }
            .operations 0x70 (b 1) .done (counts panels))))
  ∧ (∀ (s : State) (langs : List (Fin 4)) (dwell : Nat), 1 ≤ langs.length → langs.Nodup → 4 ≤ dwell →
    dwell ≤ 30 →
    let b := be 1 langs.length ++ be 1 dwell ++ langs.map fun l => BitVec.ofNat 8 l.val
    s.Takes .operations 0x71 b →
    exec (.setLanguages .operations b) s
      = .next (State.replied { s with line := { s.line with
            panels := s.line.panels.map fun x =>
              { x with stale := x.stale || decide (x.kind ≠ .banner) || s.seq.active.isNone }
            rotation := langs.map Fin.val
            dwell := dwell
            place := 0
            rotationLeft := if 2 ≤ langs.length then 1000 * dwell else 0 } } .operations 0x71 b .done []))
  ∧ (∀ s : State, s.powered = true → s.link.rest = .awake → 2 ≤ s.line.rotation.length →
    s.line.place < s.line.rotation.length →
    exec .rotationTimerExpiry s
      = .next { s with line := { s.line with
          panels := s.line.panels.map fun x =>
            { x with stale := x.stale || decide (x.kind ≠ .banner) || s.seq.active.isNone }
          place := (s.line.place + 1) % s.line.rotation.length
          rotationLeft := 1000 * s.line.dwell } })

/-- R194, R195, R198, R207 and R218: with the line free while AWAKE and no probe due, a page goes to a
stale, IDLE panel, a banner before a door map before a seat strip, in turn above the last served; it is
composed then and carries the lower of the ambient level and the ceiling in force; during a program it
waits.  The panel becomes the last served of its kind, its incomplete flag says whether a TEXT cell reads
blank (R206), and an erase that runs takes longer by the reads (R179, a free value, log entry 4).  A due
probe goes first, to the lowest FAILED panel; in rest each blank page in address order.  Every page is the
one that R202 to R205 and R141 give, with the texts of R180 and the cells of 1.10.  That every page waits
during a program is log entry 17, that a text with a blank phrase is blank log entry 15, that it is cut at a
character boundary by the Unicode standard's form log entry 16, that a DOOR_SIDE item of a stop that is not
loaded has no cell log entry 42, that an acknowledgement counts from the start of the page log entry 18. -/
def Obligations.FramesSentToPanels : Prop :=
  (∀ s : State, s.powered = true → s.link.rest = .awake → s.line.flight = none → s.PanelLaw →
    (∀ x ∈ s.line.panels, ¬ (x.state = .failed ∧ x.probe = .due)) →
    (∃ x ∈ s.line.panels, x.stale = true ∧ x.state = .idle) →
    ∃ t x fr, exec .pageSend s = .next t ∧ x ∈ s.line.panels ∧ x.stale = true ∧ x.state = .idle
      ∧ (∀ y ∈ s.line.panels, y.stale = true → y.state = .idle → x.kind.code ≤ y.kind.code →
          y.kind = x.kind
          ∧ (let last := ((match x.kind with
                | .banner => s.line.lastBanner
                | .doorMap => s.line.lastDoorMap
                | .seatStrip => s.line.lastStrip).getD 0)
             (last < x.addr → last < y.addr → x.addr ≤ y.addr)
             ∧ (x.addr ≤ last → y.addr ≤ last ∧ x.addr ≤ y.addr)))
      ∧ t.line.flight = some fr ∧ fr.kind = .page ∧ fr.addr = x.addr ∧ fr.discard = false
      ∧ (∀ y ∈ t.line.panels, y.addr = x.addr → y.state = .sending ∧ y.stale = false)
      ∧ t.line.lastBanner = (if x.kind = .banner then some x.addr else s.line.lastBanner)
      ∧ t.line.lastDoorMap = (if x.kind = .doorMap then some x.addr else s.line.lastDoorMap)
      ∧ t.line.lastStrip = (if x.kind = .seatStrip then some x.addr else s.line.lastStrip)
      ∧ (s.store.op.program? = none →
        let lang := s.pageLang x.kind
        (∀ y ∈ t.line.panels, y.addr = x.addr → y.incomplete = (s.page x).any (s.store.blankCell lang))
        ∧ (∀ er, s.store.op = .erasing er → (s.page x).any Cell.isText = true →
          t.store = { s.store with op := .erasing { er with left := er.left + Config.readTime s.freeCount } }
          ∧ t.freeCount = s.freeCount + 1)
        ∧ ((∀ er, s.store.op ≠ .erasing er) ∨ (s.page x).any Cell.isText = false →
          t.store = s.store ∧ t.freeCount = s.freeCount))
      ∧ (s.store.op.program? = none →
        let bright := min (s.ambient x.kind) s.bright.ceiling
        fr.body = .sent (panelFrame .page x.addr bright (s.pageLang x.kind)
          (pageBody s.store (s.pageLang x.kind) (s.compose x)))
        ∧ fr.ackLeft = 20 ∧ (∀ y ∈ t.line.panels, y.addr = x.addr → y.bright = some bright))
      ∧ (s.store.op.program? ≠ none → fr.body = .waiting (s.compose x))
      ∧ t.link = s.link ∧ t.seq = s.seq ∧ t.table = s.table ∧ t.plan = s.plan ∧ t.bright = s.bright)
  ∧ (∀ (s : State) (x : Panel), s.powered = true → s.link.rest = .awake → s.line.flight = none → s.PanelLaw →
    x ∈ s.line.panels → x.state = .failed → x.probe = .due →
    (∀ y ∈ s.line.panels, y.state = .failed → y.probe = .due → x.addr ≤ y.addr) →
    exec .probeSend s
      = .next { s with line := { s.line with
          panels := s.line.panels.map fun y => if y.addr = x.addr then { y with probe := .stopped } else y
          flight := some ⟨.probe, x.addr, x.kind, 0,
            .sent (0x5A :: withCrc [BitVec.ofNat 8 x.addr, 3, 0, 0, 0, 0]), false, 20⟩ } })
  ∧ (∀ (s : State) (x : Panel) (n : Nat), s.powered = true → s.link.rest = .resting → s.line.flight = none →
    s.PanelLaw → s.line.blankFrom = some n → x ∈ s.line.panels → n ≤ x.addr →
    (∀ y ∈ s.line.panels, n ≤ y.addr → x.addr ≤ y.addr) →
    exec .blankPageSend s
      = .next { s with line := { s.line with
          blankFrom := some (x.addr + 1)
          flight := some ⟨.blank, x.addr, x.kind, 0,
            .sent (0x5A :: withCrc [BitVec.ofNat 8 x.addr, 2, 0, 0, 0, 0]), false, 20⟩ } })
  ∧ (∀ (s : State) (x : Panel), s.compose x = s.page x)
  ∧ (∀ (s : State) (k : PanelKind), s.pageLang k
      = ((if k = .banner then s.seq.active.map Notice.lang else none).getD
          (s.line.rotation.getD s.line.place 0)))
  ∧ (∀ (st : Store) (lang : Nat) (cells : List Cell), pageBody st lang cells = cells.flatMap (st.cellBytes lang))
  ∧ (∀ (addr bright lang : Nat) (body : List Byte), panelFrame .page addr bright lang body
      = 0x5A :: withCrc (be 1 addr ++ [1] ++ be 1 bright ++ be 1 lang ++ be 2 body.length ++ body))

/-- R196 to R198 and R207: the outcome of a frame whose bytes are on the line.  A right acknowledgement OK
of a page makes its panel IDLE with no misses; FAULT, or a third silence, makes it FAILED with PANEL
raised and its probe timer at 10 s; a probe answered OK recovers it; a discarded or blank frame changes
no record; any other frame is ignored.  A FAILED panel whose timer runs out is due a probe.  That other
results are ignored is log entry 18, that no probe timer starts in rest log entry 19, that a wait's or a
timer's command acts whatever is left of it log entry 30. -/
def Obligations.FramesAnswered : Prop :=
  (∀ (s : State) (fr : Frame) (sent : List Byte), s.powered = true → s.line.flight = some fr →
    fr.body = .sent sent →
    let ack (result : Byte) := 0x5A :: withCrc [BitVec.ofNat 8 (0x80 + fr.addr), result]
    let after (f : Panel → Panel) : State := { s with line := { s.line with
      flight := none, panels := s.line.panels.map fun y => if y.addr = fr.addr then f y else y } }
    let timer : ProbeTimer := if s.link.rest = .awake then .running 10000 else .stopped
    (∀ bytes, bytes ≠ ack 0 → bytes ≠ ack 1 → exec (.panelAck bytes) s = .next s)
    ∧ (fr.discard = true ∨ fr.kind = .blank →
      exec (.panelAck (ack 0)) s = .next (after id) ∧ exec .ackTimeout s = .next (after id))
    ∧ (∀ x, s.line.panel? fr.addr = some x → fr.discard = false → fr.kind = .page →
      exec (.panelAck (ack 0)) s = .next (after fun y => { y with state := .idle, miss := 0 })
      ∧ exec (.panelAck (ack 1)) s
        = .next ((after fun y =>
            { y with state := .failed, stale := true, miss := x.miss, probe := timer }).raise (.panel fr.addr true))
      ∧ (x.miss < 2 →
        exec .ackTimeout s
          = .next (after fun y => { y with state := .idle, stale := true, miss := x.miss + 1 }))
      ∧ (2 ≤ x.miss →
        exec .ackTimeout s
          = .next ((after fun y =>
              { y with state := .failed, stale := true, miss := 3, probe := timer }).raise (.panel fr.addr true))))
    ∧ (∀ x, s.line.panel? fr.addr = some x → fr.discard = false → fr.kind = .probe →
      exec (.panelAck (ack 0)) s
        = .next ((after fun y =>
            { y with state := .idle, miss := 0, stale := true, probe := .stopped }).raise (.panel fr.addr false))
      ∧ exec (.panelAck (ack 1)) s = .next (after fun y => { y with probe := timer })
      ∧ exec .ackTimeout s = .next (after fun y => { y with probe := timer })))
  ∧ (∀ (s : State) (addr : Nat), s.powered = true →
    (∀ y ∈ s.line.panels, y.addr = addr → y.state = .failed ∧ ∃ ms, y.probe = .running ms) →
    exec (.probeTimerExpiry addr) s
      = .next { s with line := { s.line with panels := s.line.panels.map fun y =>
          if y.addr = addr then { y with probe := .due } else y } })

/-! ### Brightness and heat guard (chapter 10) -/

/-- R210 to R212 and R216 to R218: the ambient level of a kind is its tunnel level where S lies in a tunnel
range, else its night level where the clock is set and in the night span, which may wrap past midnight, else
its day level; the ceiling in force is that of the heat state, at most 1 while the overheat flag is set; and
the brightness is the lower of the two.  Set Levels and Set Tunnels replace what they name, and a change of the
overheat line sets the flag and raises OVERHEAT; every panel goes stale where the ceiling or a brightness
differs after the event, and HEAT is raised where the ceiling does. -/
def Obligations.BrightnessReformed : Prop :=
  let reformed (s t : State) : Prop :=
    (s.bright.ceiling ≠ t.bright.ceiling ∨ (∃ k, s.brightness k ≠ t.brightness k) → t.StaleAt fun _ => true)
    ∧ (s.bright.ceiling = t.bright.ceiling → (∀ k, s.brightness k = t.brightness k) → t.line = s.line)
    ∧ t.line.unmarked = s.line.unmarked
  (∀ (s : State) (l m n : Levels) (dusk dawn : Nat),
    (∀ x ∈ [l, m, n], x.day ≤ 15 ∧ x.night ≤ 15 ∧ x.tunnel ≤ 15) → dusk < 1440 → dawn < 1440 →
    let three (x : Levels) := be 1 x.day ++ be 1 x.night ++ be 1 x.tunnel
    let b := three l ++ three m ++ three n ++ be 2 dusk ++ be 2 dawn
    s.Takes .operations 0x73 b →
    ∃ t, exec (.setLevels .operations b) s = .next t
      ∧ t.bright = { s.bright with strip := l, doorMap := m, banner := n, dusk := dusk, dawn := dawn }
      ∧ t.link = (s.replied .operations 0x73 b .done []).link ∧ reformed s t
      ∧ { t with bright := s.bright, link := s.link, line := s.line } = s)
  ∧ (∀ (s : State) (ranges : List (Nat × Nat)), ranges.length ≤ 16 →
    (∀ r ∈ ranges, r.1 < r.2 ∧ r.2 ≤ 4000000) →
    let b := be 1 ranges.length ++ ranges.flatMap fun r => be 4 r.1 ++ be 4 r.2
    s.Takes .operations 0x74 b →
    ∃ t, exec (.setTunnels .operations b) s = .next t ∧ t.bright = { s.bright with tunnels := ranges }
      ∧ t.link = (s.replied .operations 0x74 b .done
          (flag (ranges.any fun r => decide (r.1 ≤ s.odo.position) && decide (s.odo.position < r.2)))).link
      ∧ reformed s t ∧ { t with bright := s.bright, link := s.link, line := s.line } = s)
  ∧ (∀ (s : State) (active : Bool), s.powered = true → s.overheatLine ≠ active →
    ∃ t, exec (.overheatLineChange active) s = .next t
      ∧ t.overheatLine = active ∧ t.bright = { s.bright with overheat := active }
      ∧ .overheat active ∈ t.link.operations.events
      ∧ (s.bright.ceiling ≠ t.bright.ceiling → .heat s.bright.heat t.bright.ceiling ∈ t.link.operations.events)
      ∧ t.link.quiet = s.link.quiet ∧ s.RaisesOnly [0x09, 0x0A] t ∧ reformed s t
      ∧ { t with overheatLine := s.overheatLine, bright := s.bright, link := s.link, line := s.line } = s)
  ∧ (∀ (s : State) (k : PanelKind),
    let levels := match k with
      | .seatStrip => s.bright.strip
      | .doorMap => s.bright.doorMap
      | .banner => s.bright.banner
    let m := s.clock.second / 60 % 1440
    let tunnel := ∃ r ∈ s.bright.tunnels, r.1 ≤ s.odo.position ∧ s.odo.position < r.2
    let night := s.clock.set = true
      ∧ if s.bright.dusk < s.bright.dawn then s.bright.dusk ≤ m ∧ m < s.bright.dawn
        else s.bright.dawn < s.bright.dusk ∧ (s.bright.dusk ≤ m ∨ m < s.bright.dawn)
    let guard := match s.bright.heat with
      | .off | .cool => 15
      | .warm => s.bright.guard.warmCeiling
      | .hot | .lost => s.bright.guard.hotCeiling
    s.ambient k = (if tunnel then levels.tunnel else if night then levels.night else levels.day)
    ∧ s.ambientSource = (if tunnel then 2 else if night then 1 else 0)
    ∧ s.bright.guard.ceiling s.bright.heat = guard
    ∧ s.bright.ceiling = (if s.bright.overheat then min 1 guard else guard)
    ∧ s.brightness k = min (s.ambient k) s.bright.ceiling)

/-- R213 to R216 and R218: a heat window's count becomes f, and the zero run follows; an enabled guard forms
its heat state by the table of R216.  Set Heat Guard writes the configuration while the guard is not
enabled, and is LOCKED after; Enable Heat Guard enables a configured one; and an enabled guard keeps its
configuration through everything but a power-up reset and the loss of power.  The window's command acts
whatever is left of it (log entry 30). -/
def Obligations.HeatGuardMeasuresAndLocks : Prop :=
  let table (g : HeatGuard) (f zeros : Nat) : HeatState :=
    if zeros = 3 then .lost
    else if f < g.lo then (if g.falling then .hot else .cool)
    else if f < g.hi then .warm
    else (if g.falling then .cool else .hot)
  (∀ s : State, s.powered = true →
    ∃ t, exec .heatWindowEnd s = .next t
      ∧ (let zeros := if s.bright.count = 0 then min 3 (s.bright.zeroRun + 1) else 0
        t.bright = { s.bright with
          freq := s.bright.count
          zeroRun := zeros
          count := 0
          windowMs := 0
          heat := if s.bright.guard.enabled then table s.bright.guard s.bright.count zeros else .off })
      ∧ (s.bright.heat ≠ t.bright.heat ∨ s.bright.ceiling ≠ t.bright.ceiling →
        .heat t.bright.heat t.bright.ceiling ∈ t.link.operations.events)
      ∧ (s.bright.ceiling ≠ t.bright.ceiling → t.StaleAt fun _ => true)
      ∧ { t with bright := s.bright, link := s.link, line := s.line } = s)
  ∧ (∀ (s : State) (lo hi warm hot : Nat) (falling : Bool), lo < hi → hi < 65536 → warm ≤ 15 → hot ≤ warm →
    let b := be 2 lo ++ be 2 hi ++ flag falling ++ be 1 warm ++ be 1 hot
    s.Takes .operations 0x75 b →
    (s.bright.guard.enabled = true →
      exec (.setHeatGuard .operations b) s = .next (s.replied .operations 0x75 b .locked []))
    ∧ (s.bright.guard.enabled = false →
      exec (.setHeatGuard .operations b) s
        = .next (State.replied { s with bright := { s.bright with
            guard := ⟨lo, hi, falling, warm, hot, true, false⟩ } } .operations 0x75 b .done [])))
  ∧ (∀ s : State, s.bright.guard.configured = true → s.Takes .operations 0x76 [] →
    (s.bright.guard.enabled = true →
      exec (.enableHeatGuard .operations []) s
        = .next (s.replied .operations 0x76 [] .done (be 1 s.bright.heat.code ++ be 1 s.bright.ceiling)))
    ∧ (s.bright.guard.enabled = false →
      ∃ t, exec (.enableHeatGuard .operations []) s = .next t
        ∧ t.bright = { s.bright with
            guard := { s.bright.guard with enabled := true }
            heat := table s.bright.guard s.bright.freq s.bright.zeroRun }
        ∧ s.Answers .operations 0x76 [] .done (be 1 t.bright.heat.code ++ be 1 t.bright.ceiling) t
        ∧ { t with bright := s.bright, link := s.link, line := s.line } = s))
  ∧ (∀ (c : Instr) (s t : State), s.bright.guard.enabled = true → c ≠ .powerUpReset → c ≠ .powerLoss →
    exec c s = .next t → t.bright.guard = s.bright.guard)

/-! ### Reading the blocks (chapters 7 to 10) -/

/-- R165, R187, R188, R209 and R219: the reads of the Notice Sequencer, the Phrase Store, the panel line and
the Brightness Unit answer DONE with their items in order and change nothing, but for the time of a
running erase, which grows by the time of a Read Phrase (R179, a free value); during a program a Read
Phrase waits. -/
def Obligations.UnitReads : Prop :=
  ∀ (s : State) (p : Port),
    (s.Takes p 0x53 [] →
      let place (o : Option Notice) := match o with
        | none => [0]
        | some n => 1 :: n.entry false
      exec (.readNotices p []) s
        = .next (s.replied p 0x53 [] .done
            (be 1 s.level ++ place s.seq.active ++ place s.seq.slot1 ++ place s.seq.slot2
              ++ be 1 s.seq.queue.length ++ s.seq.queue.flatMap fun n => n.entry true)))
    ∧ (∀ phrase lang, phrase < 1024 → lang < 4 → s.Takes p 0x65 (be 2 phrase ++ be 1 lang) →
      let b := be 2 phrase ++ be 1 lang
      let payload := s.store.entryRead phrase lang
      (s.store.op.program? = none → (∀ er, s.store.op ≠ .erasing er) →
        exec (.readPhrase p b) s = .next (s.replied p 0x65 b .done payload))
      ∧ (∀ er, s.store.op = .erasing er →
        exec (.readPhrase p b) s
          = .next (State.replied { s with
              store := { s.store with op := .erasing { er with
                left := er.left + Config.readTime s.freeCount } }
              freeCount := s.freeCount + 1 } p 0x65 b .done payload))
      ∧ (s.store.op.program? ≠ none →
        ∃ t, exec (.readPhrase p b) s = .next t ∧ (t.port p).service = .deferred phrase lang
          ∧ (t.port p).reply = (s.port p).reply ∧ { t with link := s.link } = s))
    ∧ (s.Takes p 0x66 [] →
      let er := s.store.op.erase?
      exec (.readStore p []) s
        = .next (s.replied p 0x66 [] .done
            (be 1 s.store.op.code ++ flag s.store.latch ++ flag s.store.fixedLock ++ orFF (er.map Erase.first)
              ++ orFF (er.map Erase.last) ++ orFF (er.map Erase.current)
              ++ be 1 ((er.map fun e => e.last + 1 - e.current).getD 0) ++ be 2 ((er.map Erase.left).getD 0)
              ++ orFFFF (s.store.op.program?.map Program.phrase) ++ orFF (s.store.op.program?.map Program.lang)
              ++ be 16 s.store.locks.toNat ++ be 2 s.store.tornCount ++ be 1 s.store.incompleteCount)))
    ∧ (s.Takes p 0x72 [] →
      let line := match s.line.flight with
        | none => be 1 0 ++ be 1 0
        | some fr => be 1 (match fr.kind with
            | .page => 1
            | .probe => 2
            | .blank => 3) ++ be 1 fr.addr
      exec (.readPanels p []) s
        = .next (s.replied p 0x72 [] .done
            (be 1 s.line.rotation.length ++ s.line.rotation.flatMap (be 1) ++ be 1 s.line.dwell
              ++ be 1 (s.line.rotation.getD s.line.place 0) ++ line ++ be 1 (s.line.lastBanner.getD 0)
              ++ be 1 (s.line.lastDoorMap.getD 0) ++ be 1 (s.line.lastStrip.getD 0)
              ++ be 1 s.line.panels.length
              ++ s.line.panels.flatMap fun x => be 1 x.addr ++ be 1 x.kind.code ++ be 1 x.param
                ++ be 1 x.state.code ++ flag x.stale ++ be 1 x.miss ++ flag x.incomplete ++ orFF x.bright)))
    ∧ (s.Takes p 0x77 [] →
      let three (l : Levels) := be 1 l.day ++ be 1 l.night ++ be 1 l.tunnel
      let each (f : PanelKind → Nat) := be 1 (f .seatStrip) ++ be 1 (f .doorMap) ++ be 1 (f .banner)
      let g := s.bright.guard
      exec (.readBrightness p []) s
        = .next (s.replied p 0x77 [] .done
            (three s.bright.strip ++ three s.bright.doorMap ++ three s.bright.banner ++ be 2 s.bright.dusk
              ++ be 2 s.bright.dawn ++ be 1 s.ambientSource ++ each s.ambient
              ++ each (fun k => min (s.ambient k) s.bright.ceiling) ++ be 1 s.bright.tunnels.length
              ++ (s.bright.tunnels.flatMap fun r => be 4 r.1 ++ be 4 r.2) ++ be 2 g.lo ++ be 2 g.hi
              ++ flag g.falling ++ be 1 g.warmCeiling ++ be 1 g.hotCeiling ++ flag g.configured
              ++ flag g.enabled ++ be 2 s.bright.freq ++ be 1 s.bright.zeroRun ++ be 1 s.bright.heat.code
              ++ be 1 (g.ceiling s.bright.heat) ++ flag s.bright.overheat ++ be 1 s.bright.ceiling)))

/-! ### Invariants -/

/-- R3, R20, R37, R45, R54, R167, R191, R214 and R216: every step keeps the receive queues within 4 frames,
the stop table, S and the Odometer's counters within their ranges, the clock within day 1, the store's
places in canonical form, the panel table in address order with its limits, and the ceilings ordered. -/
def Obligations.RangesKept : Prop :=
  ∀ s t : State, step s = .next t →
    (s.ReceiveLaw → t.ReceiveLaw) ∧ (s.TravelLaw → t.TravelLaw) ∧ (s.ClockLaw → t.ClockLaw)
    ∧ (s.StoreLaw → t.StoreLaw) ∧ (s.PanelLaw → t.PanelLaw) ∧ (s.HeatLaw → t.HeatLaw)

/-- Every law that the statements above say a step keeps holds at State.reset. -/
def Obligations.ResetMeetsTheLaws : Prop :=
  State.reset.PoolLaw ∧ State.reset.SeatLimits ∧ State.reset.SlotLaw ∧ State.reset.QueueLaw
  ∧ State.reset.ReceiveLaw ∧ State.reset.TravelLaw ∧ State.reset.ClockLaw ∧ State.reset.StoreLaw
  ∧ State.reset.PanelLaw ∧ State.reset.HeatLaw
end

