-- ==== Sys2Proof/Laws/Bytes.lean ====
section
/-!
SUPPORT. Bytes and numbers: what is written big-endian is read back (1.10).
-/
namespace Sys2Proof.Machine

@[simp] theorem be_length (n v : Nat) : (be n v).length = n := by
  induction n with
  | zero => rfl
  | succ n ih => simp [be, ih]

theorem be_one (v : Nat) : be 1 v = [BitVec.ofNat 8 v] := by simp [be]

theorem be_two (v : Nat) : be 2 v = [BitVec.ofNat 8 (v / 256), BitVec.ofNat 8 v] := by simp [be]

theorem be_three (v : Nat) : be 3 v = BitVec.ofNat 8 (v / 65536) :: be 2 v := by simp [be]

theorem be_four (v : Nat) : be 4 v = BitVec.ofNat 8 (v / 16777216) :: be 3 v := by simp [be]

@[simp] theorem u8_cons_zero (x : Byte) (bs : List Byte) : u8 (x :: bs) 0 = x.toNat := by simp [u8]

@[simp] theorem u8_cons_succ (x : Byte) (bs : List Byte) (i : Nat) : u8 (x :: bs) (i + 1) = u8 bs i := by
  simp [u8]

/-- Reading past the first bytes of a joined payload. -/
theorem u8_append_right (as bs : List Byte) (i : Nat) : u8 (as ++ bs) (as.length + i) = u8 bs i := by
  simp [u8, List.getElem?_append_right]

theorem u8_be_one (v : Nat) (rest : List Byte) (h : v < 256) : u8 (be 1 v ++ rest) 0 = v := by
  simp [be_one, u8, Nat.mod_eq_of_lt h]

theorem u16_be_two (v : Nat) (rest : List Byte) (h : v < 65536) : u16 (be 2 v ++ rest) 0 = v := by
  simp [be_two, u16, u8]; omega

theorem u24_be_three (v : Nat) (rest : List Byte) (h : v < 16777216) : u24 (be 3 v ++ rest) 0 = v := by
  simp [be_three, be_two, u24, u16, u8]; omega

theorem u32_be_four (v : Nat) (rest : List Byte) (h : v < 4294967296) : u32 (be 4 v ++ rest) 0 = v := by
  simp [be_four, be_three, be_two, u32, u16, u8]; omega

end Sys2Proof.Machine
end

