-- ==== Sys2Proof/Laws/Events.lean ====
section
/-!
SUPPORT. The pending event sets: one entry of each kind, the latest (R9).
-/
namespace Sys2Proof.Machine

/-- An event placed in a set is in it. -/
theorem mem_insertEvent_self (e : Event) (l : List Event) : e ∈ insertEvent e l := by
  induction l with
  | nil => simp [insertEvent]
  | cons x xs ih =>
    unfold insertEvent
    split
    · simp
    · split <;> simp [ih]

/-- What is in a set after an event has been placed in it. -/
theorem mem_insertEvent (e x : Event) (l : List Event) (h : x ∈ insertEvent e l) : x = e ∨ x ∈ l := by
  induction l with
  | nil => simpa [insertEvent] using h
  | cons y ys ih =>
    unfold insertEvent at h
    split at h
    · rcases List.mem_cons.mp h with h | h
      · exact .inl h
      · exact .inr (List.mem_cons_of_mem _ h)
    · split at h
      · rcases List.mem_cons.mp h with h | h
        · exact .inl h
        · exact .inr h
      · rcases List.mem_cons.mp h with rfl | h
        · exact .inr List.mem_cons_self
        · rcases ih h with h | h
          · exact .inl h
          · exact .inr (List.mem_cons_of_mem _ h)

/-- A raised event is in the set of every port that receives its kind (R9). -/
theorem State.raise_mem_operations (s : State) (e : Event) (h : e.toOperations = true) :
    e ∈ (s.raise e).link.operations.events := by
  simp [State.raise, PortState.receive, h, mem_insertEvent_self]

theorem State.raise_mem_content (s : State) (e : Event) (h : e.toContent = true) :
    e ∈ (s.raise e).link.content.events := by
  simp [State.raise, PortState.receive, h, mem_insertEvent_self]

end Sys2Proof.Machine
end

