-- ==== Sys2Proof/Laws/State.lean ====
section
/-!
SUPPORT. What each named update of the state does to each field, true by definition: the updates of one
block leave every other block as it was.
-/
namespace Sys2Proof.Machine


/-! ### State.raise -/

@[simp] theorem State.raise_powered (s : State) (e : Event) : (s.raise e).powered = s.powered := rfl
@[simp] theorem State.raise_unitId (s : State) (e : Event) : (s.raise e).unitId = s.unitId := rfl
@[simp] theorem State.raise_doorLine (s : State) (e : Event) : (s.raise e).doorLine = s.doorLine := rfl
@[simp] theorem State.raise_overheatLine (s : State) (e : Event) : (s.raise e).overheatLine = s.overheatLine := rfl
@[simp] theorem State.raise_plan (s : State) (e : Event) : (s.raise e).plan = s.plan := rfl
@[simp] theorem State.raise_clock (s : State) (e : Event) : (s.raise e).clock = s.clock := rfl
@[simp] theorem State.raise_odo (s : State) (e : Event) : (s.raise e).odo = s.odo := rfl
@[simp] theorem State.raise_appr (s : State) (e : Event) : (s.raise e).appr = s.appr := rfl
@[simp] theorem State.raise_form (s : State) (e : Event) : (s.raise e).form = s.form := rfl
@[simp] theorem State.raise_table (s : State) (e : Event) : (s.raise e).table = s.table := rfl
@[simp] theorem State.raise_holds (s : State) (e : Event) : (s.raise e).holds = s.holds := rfl
@[simp] theorem State.raise_seq (s : State) (e : Event) : (s.raise e).seq = s.seq := rfl
@[simp] theorem State.raise_store (s : State) (e : Event) : (s.raise e).store = s.store := rfl
@[simp] theorem State.raise_line (s : State) (e : Event) : (s.raise e).line = s.line := rfl
@[simp] theorem State.raise_bright (s : State) (e : Event) : (s.raise e).bright = s.bright := rfl
@[simp] theorem State.raise_freeCount (s : State) (e : Event) : (s.raise e).freeCount = s.freeCount := rfl
@[simp] theorem State.raise_pending (s : State) (e : Event) : (s.raise e).pending = s.pending := rfl

/-! ### State.enter -/

@[simp] theorem State.enter_powered (s : State) (p : Port) (k : Byte) (b : List Byte) : (s.enter p k b).powered = s.powered := rfl
@[simp] theorem State.enter_unitId (s : State) (p : Port) (k : Byte) (b : List Byte) : (s.enter p k b).unitId = s.unitId := rfl
@[simp] theorem State.enter_doorLine (s : State) (p : Port) (k : Byte) (b : List Byte) : (s.enter p k b).doorLine = s.doorLine := rfl
@[simp] theorem State.enter_overheatLine (s : State) (p : Port) (k : Byte) (b : List Byte) : (s.enter p k b).overheatLine = s.overheatLine := rfl
@[simp] theorem State.enter_plan (s : State) (p : Port) (k : Byte) (b : List Byte) : (s.enter p k b).plan = s.plan := rfl
@[simp] theorem State.enter_clock (s : State) (p : Port) (k : Byte) (b : List Byte) : (s.enter p k b).clock = s.clock := rfl
@[simp] theorem State.enter_odo (s : State) (p : Port) (k : Byte) (b : List Byte) : (s.enter p k b).odo = s.odo := rfl
@[simp] theorem State.enter_appr (s : State) (p : Port) (k : Byte) (b : List Byte) : (s.enter p k b).appr = s.appr := rfl
@[simp] theorem State.enter_form (s : State) (p : Port) (k : Byte) (b : List Byte) : (s.enter p k b).form = s.form := rfl
@[simp] theorem State.enter_table (s : State) (p : Port) (k : Byte) (b : List Byte) : (s.enter p k b).table = s.table := rfl
@[simp] theorem State.enter_holds (s : State) (p : Port) (k : Byte) (b : List Byte) : (s.enter p k b).holds = s.holds := rfl
@[simp] theorem State.enter_seq (s : State) (p : Port) (k : Byte) (b : List Byte) : (s.enter p k b).seq = s.seq := rfl
@[simp] theorem State.enter_store (s : State) (p : Port) (k : Byte) (b : List Byte) : (s.enter p k b).store = s.store := rfl
@[simp] theorem State.enter_line (s : State) (p : Port) (k : Byte) (b : List Byte) : (s.enter p k b).line = s.line := rfl
@[simp] theorem State.enter_bright (s : State) (p : Port) (k : Byte) (b : List Byte) : (s.enter p k b).bright = s.bright := rfl
@[simp] theorem State.enter_freeCount (s : State) (p : Port) (k : Byte) (b : List Byte) : (s.enter p k b).freeCount = s.freeCount := rfl
@[simp] theorem State.enter_pending (s : State) (p : Port) (k : Byte) (b : List Byte) : (s.enter p k b).pending = s.pending := rfl

/-! ### State.answer -/

@[simp] theorem State.answer_powered (s : State) (p : Port) (k : Byte) (st : Status) (b : List Byte) : (s.answer p k st b).powered = s.powered := rfl
@[simp] theorem State.answer_unitId (s : State) (p : Port) (k : Byte) (st : Status) (b : List Byte) : (s.answer p k st b).unitId = s.unitId := rfl
@[simp] theorem State.answer_doorLine (s : State) (p : Port) (k : Byte) (st : Status) (b : List Byte) : (s.answer p k st b).doorLine = s.doorLine := rfl
@[simp] theorem State.answer_overheatLine (s : State) (p : Port) (k : Byte) (st : Status) (b : List Byte) : (s.answer p k st b).overheatLine = s.overheatLine := rfl
@[simp] theorem State.answer_plan (s : State) (p : Port) (k : Byte) (st : Status) (b : List Byte) : (s.answer p k st b).plan = s.plan := rfl
@[simp] theorem State.answer_clock (s : State) (p : Port) (k : Byte) (st : Status) (b : List Byte) : (s.answer p k st b).clock = s.clock := rfl
@[simp] theorem State.answer_odo (s : State) (p : Port) (k : Byte) (st : Status) (b : List Byte) : (s.answer p k st b).odo = s.odo := rfl
@[simp] theorem State.answer_appr (s : State) (p : Port) (k : Byte) (st : Status) (b : List Byte) : (s.answer p k st b).appr = s.appr := rfl
@[simp] theorem State.answer_form (s : State) (p : Port) (k : Byte) (st : Status) (b : List Byte) : (s.answer p k st b).form = s.form := rfl
@[simp] theorem State.answer_table (s : State) (p : Port) (k : Byte) (st : Status) (b : List Byte) : (s.answer p k st b).table = s.table := rfl
@[simp] theorem State.answer_holds (s : State) (p : Port) (k : Byte) (st : Status) (b : List Byte) : (s.answer p k st b).holds = s.holds := rfl
@[simp] theorem State.answer_seq (s : State) (p : Port) (k : Byte) (st : Status) (b : List Byte) : (s.answer p k st b).seq = s.seq := rfl
@[simp] theorem State.answer_store (s : State) (p : Port) (k : Byte) (st : Status) (b : List Byte) : (s.answer p k st b).store = s.store := rfl
@[simp] theorem State.answer_line (s : State) (p : Port) (k : Byte) (st : Status) (b : List Byte) : (s.answer p k st b).line = s.line := rfl
@[simp] theorem State.answer_bright (s : State) (p : Port) (k : Byte) (st : Status) (b : List Byte) : (s.answer p k st b).bright = s.bright := rfl
@[simp] theorem State.answer_freeCount (s : State) (p : Port) (k : Byte) (st : Status) (b : List Byte) : (s.answer p k st b).freeCount = s.freeCount := rfl
@[simp] theorem State.answer_pending (s : State) (p : Port) (k : Byte) (st : Status) (b : List Byte) : (s.answer p k st b).pending = s.pending := rfl

/-! ### State.onPort -/

@[simp] theorem State.onPort_powered (s : State) (p : Port) (f : PortState → PortState) : (s.onPort p f).powered = s.powered := rfl
@[simp] theorem State.onPort_unitId (s : State) (p : Port) (f : PortState → PortState) : (s.onPort p f).unitId = s.unitId := rfl
@[simp] theorem State.onPort_doorLine (s : State) (p : Port) (f : PortState → PortState) : (s.onPort p f).doorLine = s.doorLine := rfl
@[simp] theorem State.onPort_overheatLine (s : State) (p : Port) (f : PortState → PortState) : (s.onPort p f).overheatLine = s.overheatLine := rfl
@[simp] theorem State.onPort_link (s : State) (p : Port) (f : PortState → PortState) : (s.onPort p f).link = s.link.setPort p (f (s.link.port p)) := rfl
@[simp] theorem State.onPort_plan (s : State) (p : Port) (f : PortState → PortState) : (s.onPort p f).plan = s.plan := rfl
@[simp] theorem State.onPort_clock (s : State) (p : Port) (f : PortState → PortState) : (s.onPort p f).clock = s.clock := rfl
@[simp] theorem State.onPort_odo (s : State) (p : Port) (f : PortState → PortState) : (s.onPort p f).odo = s.odo := rfl
@[simp] theorem State.onPort_appr (s : State) (p : Port) (f : PortState → PortState) : (s.onPort p f).appr = s.appr := rfl
@[simp] theorem State.onPort_form (s : State) (p : Port) (f : PortState → PortState) : (s.onPort p f).form = s.form := rfl
@[simp] theorem State.onPort_table (s : State) (p : Port) (f : PortState → PortState) : (s.onPort p f).table = s.table := rfl
@[simp] theorem State.onPort_holds (s : State) (p : Port) (f : PortState → PortState) : (s.onPort p f).holds = s.holds := rfl
@[simp] theorem State.onPort_seq (s : State) (p : Port) (f : PortState → PortState) : (s.onPort p f).seq = s.seq := rfl
@[simp] theorem State.onPort_store (s : State) (p : Port) (f : PortState → PortState) : (s.onPort p f).store = s.store := rfl
@[simp] theorem State.onPort_line (s : State) (p : Port) (f : PortState → PortState) : (s.onPort p f).line = s.line := rfl
@[simp] theorem State.onPort_bright (s : State) (p : Port) (f : PortState → PortState) : (s.onPort p f).bright = s.bright := rfl
@[simp] theorem State.onPort_freeCount (s : State) (p : Port) (f : PortState → PortState) : (s.onPort p f).freeCount = s.freeCount := rfl
@[simp] theorem State.onPort_pending (s : State) (p : Port) (f : PortState → PortState) : (s.onPort p f).pending = s.pending := rfl

/-! ### State.staleWhere -/

@[simp] theorem State.staleWhere_powered (s : State) (f : Panel → Bool) : (s.staleWhere f).powered = s.powered := rfl
@[simp] theorem State.staleWhere_unitId (s : State) (f : Panel → Bool) : (s.staleWhere f).unitId = s.unitId := rfl
@[simp] theorem State.staleWhere_doorLine (s : State) (f : Panel → Bool) : (s.staleWhere f).doorLine = s.doorLine := rfl
@[simp] theorem State.staleWhere_overheatLine (s : State) (f : Panel → Bool) : (s.staleWhere f).overheatLine = s.overheatLine := rfl
@[simp] theorem State.staleWhere_link (s : State) (f : Panel → Bool) : (s.staleWhere f).link = s.link := rfl
@[simp] theorem State.staleWhere_plan (s : State) (f : Panel → Bool) : (s.staleWhere f).plan = s.plan := rfl
@[simp] theorem State.staleWhere_clock (s : State) (f : Panel → Bool) : (s.staleWhere f).clock = s.clock := rfl
@[simp] theorem State.staleWhere_odo (s : State) (f : Panel → Bool) : (s.staleWhere f).odo = s.odo := rfl
@[simp] theorem State.staleWhere_appr (s : State) (f : Panel → Bool) : (s.staleWhere f).appr = s.appr := rfl
@[simp] theorem State.staleWhere_form (s : State) (f : Panel → Bool) : (s.staleWhere f).form = s.form := rfl
@[simp] theorem State.staleWhere_table (s : State) (f : Panel → Bool) : (s.staleWhere f).table = s.table := rfl
@[simp] theorem State.staleWhere_holds (s : State) (f : Panel → Bool) : (s.staleWhere f).holds = s.holds := rfl
@[simp] theorem State.staleWhere_seq (s : State) (f : Panel → Bool) : (s.staleWhere f).seq = s.seq := rfl
@[simp] theorem State.staleWhere_store (s : State) (f : Panel → Bool) : (s.staleWhere f).store = s.store := rfl
@[simp] theorem State.staleWhere_bright (s : State) (f : Panel → Bool) : (s.staleWhere f).bright = s.bright := rfl
@[simp] theorem State.staleWhere_freeCount (s : State) (f : Panel → Bool) : (s.staleWhere f).freeCount = s.freeCount := rfl
@[simp] theorem State.staleWhere_pending (s : State) (f : Panel → Bool) : (s.staleWhere f).pending = s.pending := rfl

/-! ### State.updatePanel -/

@[simp] theorem State.updatePanel_powered (s : State) (a : Nat) (f : Panel → Panel) : (s.updatePanel a f).powered = s.powered := rfl
@[simp] theorem State.updatePanel_unitId (s : State) (a : Nat) (f : Panel → Panel) : (s.updatePanel a f).unitId = s.unitId := rfl
@[simp] theorem State.updatePanel_doorLine (s : State) (a : Nat) (f : Panel → Panel) : (s.updatePanel a f).doorLine = s.doorLine := rfl
@[simp] theorem State.updatePanel_overheatLine (s : State) (a : Nat) (f : Panel → Panel) : (s.updatePanel a f).overheatLine = s.overheatLine := rfl
@[simp] theorem State.updatePanel_link (s : State) (a : Nat) (f : Panel → Panel) : (s.updatePanel a f).link = s.link := rfl
@[simp] theorem State.updatePanel_plan (s : State) (a : Nat) (f : Panel → Panel) : (s.updatePanel a f).plan = s.plan := rfl
@[simp] theorem State.updatePanel_clock (s : State) (a : Nat) (f : Panel → Panel) : (s.updatePanel a f).clock = s.clock := rfl
@[simp] theorem State.updatePanel_odo (s : State) (a : Nat) (f : Panel → Panel) : (s.updatePanel a f).odo = s.odo := rfl
@[simp] theorem State.updatePanel_appr (s : State) (a : Nat) (f : Panel → Panel) : (s.updatePanel a f).appr = s.appr := rfl
@[simp] theorem State.updatePanel_form (s : State) (a : Nat) (f : Panel → Panel) : (s.updatePanel a f).form = s.form := rfl
@[simp] theorem State.updatePanel_table (s : State) (a : Nat) (f : Panel → Panel) : (s.updatePanel a f).table = s.table := rfl
@[simp] theorem State.updatePanel_holds (s : State) (a : Nat) (f : Panel → Panel) : (s.updatePanel a f).holds = s.holds := rfl
@[simp] theorem State.updatePanel_seq (s : State) (a : Nat) (f : Panel → Panel) : (s.updatePanel a f).seq = s.seq := rfl
@[simp] theorem State.updatePanel_store (s : State) (a : Nat) (f : Panel → Panel) : (s.updatePanel a f).store = s.store := rfl
@[simp] theorem State.updatePanel_bright (s : State) (a : Nat) (f : Panel → Panel) : (s.updatePanel a f).bright = s.bright := rfl
@[simp] theorem State.updatePanel_freeCount (s : State) (a : Nat) (f : Panel → Panel) : (s.updatePanel a f).freeCount = s.freeCount := rfl
@[simp] theorem State.updatePanel_pending (s : State) (a : Nat) (f : Panel → Panel) : (s.updatePanel a f).pending = s.pending := rfl

/-! ### State.setHold -/

@[simp] theorem State.setHold_powered (s : State) (p : Port) (x : Hold) : (s.setHold p x).powered = s.powered := rfl
@[simp] theorem State.setHold_unitId (s : State) (p : Port) (x : Hold) : (s.setHold p x).unitId = s.unitId := rfl
@[simp] theorem State.setHold_doorLine (s : State) (p : Port) (x : Hold) : (s.setHold p x).doorLine = s.doorLine := rfl
@[simp] theorem State.setHold_overheatLine (s : State) (p : Port) (x : Hold) : (s.setHold p x).overheatLine = s.overheatLine := rfl
@[simp] theorem State.setHold_link (s : State) (p : Port) (x : Hold) : (s.setHold p x).link = s.link := rfl
@[simp] theorem State.setHold_plan (s : State) (p : Port) (x : Hold) : (s.setHold p x).plan = s.plan := rfl
@[simp] theorem State.setHold_clock (s : State) (p : Port) (x : Hold) : (s.setHold p x).clock = s.clock := rfl
@[simp] theorem State.setHold_odo (s : State) (p : Port) (x : Hold) : (s.setHold p x).odo = s.odo := rfl
@[simp] theorem State.setHold_appr (s : State) (p : Port) (x : Hold) : (s.setHold p x).appr = s.appr := rfl
@[simp] theorem State.setHold_form (s : State) (p : Port) (x : Hold) : (s.setHold p x).form = s.form := rfl
@[simp] theorem State.setHold_table (s : State) (p : Port) (x : Hold) : (s.setHold p x).table = s.table := rfl
@[simp] theorem State.setHold_holds (s : State) (p : Port) (x : Hold) : (s.setHold p x).holds = s.holds.put p x := rfl
@[simp] theorem State.setHold_seq (s : State) (p : Port) (x : Hold) : (s.setHold p x).seq = s.seq := rfl
@[simp] theorem State.setHold_store (s : State) (p : Port) (x : Hold) : (s.setHold p x).store = s.store := rfl
@[simp] theorem State.setHold_line (s : State) (p : Port) (x : Hold) : (s.setHold p x).line = s.line := rfl
@[simp] theorem State.setHold_bright (s : State) (p : Port) (x : Hold) : (s.setHold p x).bright = s.bright := rfl
@[simp] theorem State.setHold_freeCount (s : State) (p : Port) (x : Hold) : (s.setHold p x).freeCount = s.freeCount := rfl
@[simp] theorem State.setHold_pending (s : State) (p : Port) (x : Hold) : (s.setHold p x).pending = s.pending := rfl

/-! ### State.breakHolds -/

@[simp] theorem State.breakHolds_powered (s : State) (f : Nat → Bool) : (s.breakHolds f).powered = s.powered := rfl
@[simp] theorem State.breakHolds_unitId (s : State) (f : Nat → Bool) : (s.breakHolds f).unitId = s.unitId := rfl
@[simp] theorem State.breakHolds_doorLine (s : State) (f : Nat → Bool) : (s.breakHolds f).doorLine = s.doorLine := rfl
@[simp] theorem State.breakHolds_overheatLine (s : State) (f : Nat → Bool) : (s.breakHolds f).overheatLine = s.overheatLine := rfl
@[simp] theorem State.breakHolds_link (s : State) (f : Nat → Bool) : (s.breakHolds f).link = s.link := rfl
@[simp] theorem State.breakHolds_plan (s : State) (f : Nat → Bool) : (s.breakHolds f).plan = s.plan := rfl
@[simp] theorem State.breakHolds_clock (s : State) (f : Nat → Bool) : (s.breakHolds f).clock = s.clock := rfl
@[simp] theorem State.breakHolds_odo (s : State) (f : Nat → Bool) : (s.breakHolds f).odo = s.odo := rfl
@[simp] theorem State.breakHolds_appr (s : State) (f : Nat → Bool) : (s.breakHolds f).appr = s.appr := rfl
@[simp] theorem State.breakHolds_form (s : State) (f : Nat → Bool) : (s.breakHolds f).form = s.form := rfl
@[simp] theorem State.breakHolds_table (s : State) (f : Nat → Bool) : (s.breakHolds f).table = s.table := rfl
@[simp] theorem State.breakHolds_seq (s : State) (f : Nat → Bool) : (s.breakHolds f).seq = s.seq := rfl
@[simp] theorem State.breakHolds_store (s : State) (f : Nat → Bool) : (s.breakHolds f).store = s.store := rfl
@[simp] theorem State.breakHolds_line (s : State) (f : Nat → Bool) : (s.breakHolds f).line = s.line := rfl
@[simp] theorem State.breakHolds_bright (s : State) (f : Nat → Bool) : (s.breakHolds f).bright = s.bright := rfl
@[simp] theorem State.breakHolds_freeCount (s : State) (f : Nat → Bool) : (s.breakHolds f).freeCount = s.freeCount := rfl
@[simp] theorem State.breakHolds_pending (s : State) (f : Nat → Bool) : (s.breakHolds f).pending = s.pending := rfl

/-! ### State.relist -/

@[simp] theorem State.relist_powered (s : State) (f : Seat → List Segment) : (s.relist f).powered = s.powered := rfl
@[simp] theorem State.relist_unitId (s : State) (f : Seat → List Segment) : (s.relist f).unitId = s.unitId := rfl
@[simp] theorem State.relist_doorLine (s : State) (f : Seat → List Segment) : (s.relist f).doorLine = s.doorLine := rfl
@[simp] theorem State.relist_overheatLine (s : State) (f : Seat → List Segment) : (s.relist f).overheatLine = s.overheatLine := rfl
@[simp] theorem State.relist_link (s : State) (f : Seat → List Segment) : (s.relist f).link = s.link := rfl
@[simp] theorem State.relist_plan (s : State) (f : Seat → List Segment) : (s.relist f).plan = s.plan := rfl
@[simp] theorem State.relist_clock (s : State) (f : Seat → List Segment) : (s.relist f).clock = s.clock := rfl
@[simp] theorem State.relist_odo (s : State) (f : Seat → List Segment) : (s.relist f).odo = s.odo := rfl
@[simp] theorem State.relist_appr (s : State) (f : Seat → List Segment) : (s.relist f).appr = s.appr := rfl
@[simp] theorem State.relist_form (s : State) (f : Seat → List Segment) : (s.relist f).form = s.form := rfl
@[simp] theorem State.relist_holds (s : State) (f : Seat → List Segment) : (s.relist f).holds = s.holds := rfl
@[simp] theorem State.relist_seq (s : State) (f : Seat → List Segment) : (s.relist f).seq = s.seq := rfl
@[simp] theorem State.relist_store (s : State) (f : Seat → List Segment) : (s.relist f).store = s.store := rfl
@[simp] theorem State.relist_line (s : State) (f : Seat → List Segment) : (s.relist f).line = s.line := rfl
@[simp] theorem State.relist_bright (s : State) (f : Seat → List Segment) : (s.relist f).bright = s.bright := rfl
@[simp] theorem State.relist_freeCount (s : State) (f : Seat → List Segment) : (s.relist f).freeCount = s.freeCount := rfl
@[simp] theorem State.relist_pending (s : State) (f : Seat → List Segment) : (s.relist f).pending = s.pending := rfl

/-! ### State.updateSeat -/

@[simp] theorem State.updateSeat_powered (s : State) (n : Nat) (f : Seat → Seat) : (s.updateSeat n f).powered = s.powered := rfl
@[simp] theorem State.updateSeat_unitId (s : State) (n : Nat) (f : Seat → Seat) : (s.updateSeat n f).unitId = s.unitId := rfl
@[simp] theorem State.updateSeat_doorLine (s : State) (n : Nat) (f : Seat → Seat) : (s.updateSeat n f).doorLine = s.doorLine := rfl
@[simp] theorem State.updateSeat_overheatLine (s : State) (n : Nat) (f : Seat → Seat) : (s.updateSeat n f).overheatLine = s.overheatLine := rfl
@[simp] theorem State.updateSeat_link (s : State) (n : Nat) (f : Seat → Seat) : (s.updateSeat n f).link = s.link := rfl
@[simp] theorem State.updateSeat_plan (s : State) (n : Nat) (f : Seat → Seat) : (s.updateSeat n f).plan = s.plan := rfl
@[simp] theorem State.updateSeat_clock (s : State) (n : Nat) (f : Seat → Seat) : (s.updateSeat n f).clock = s.clock := rfl
@[simp] theorem State.updateSeat_odo (s : State) (n : Nat) (f : Seat → Seat) : (s.updateSeat n f).odo = s.odo := rfl
@[simp] theorem State.updateSeat_appr (s : State) (n : Nat) (f : Seat → Seat) : (s.updateSeat n f).appr = s.appr := rfl
@[simp] theorem State.updateSeat_form (s : State) (n : Nat) (f : Seat → Seat) : (s.updateSeat n f).form = s.form := rfl
@[simp] theorem State.updateSeat_holds (s : State) (n : Nat) (f : Seat → Seat) : (s.updateSeat n f).holds = s.holds := rfl
@[simp] theorem State.updateSeat_seq (s : State) (n : Nat) (f : Seat → Seat) : (s.updateSeat n f).seq = s.seq := rfl
@[simp] theorem State.updateSeat_store (s : State) (n : Nat) (f : Seat → Seat) : (s.updateSeat n f).store = s.store := rfl
@[simp] theorem State.updateSeat_line (s : State) (n : Nat) (f : Seat → Seat) : (s.updateSeat n f).line = s.line := rfl
@[simp] theorem State.updateSeat_bright (s : State) (n : Nat) (f : Seat → Seat) : (s.updateSeat n f).bright = s.bright := rfl
@[simp] theorem State.updateSeat_freeCount (s : State) (n : Nat) (f : Seat → Seat) : (s.updateSeat n f).freeCount = s.freeCount := rfl
@[simp] theorem State.updateSeat_pending (s : State) (n : Nat) (f : Seat → Seat) : (s.updateSeat n f).pending = s.pending := rfl

/-! ### State.setOp -/

@[simp] theorem State.setOp_powered (s : State) (op : StoreOp) : (s.setOp op).powered = s.powered := rfl
@[simp] theorem State.setOp_unitId (s : State) (op : StoreOp) : (s.setOp op).unitId = s.unitId := rfl
@[simp] theorem State.setOp_doorLine (s : State) (op : StoreOp) : (s.setOp op).doorLine = s.doorLine := rfl
@[simp] theorem State.setOp_overheatLine (s : State) (op : StoreOp) : (s.setOp op).overheatLine = s.overheatLine := rfl
@[simp] theorem State.setOp_link (s : State) (op : StoreOp) : (s.setOp op).link = s.link := rfl
@[simp] theorem State.setOp_plan (s : State) (op : StoreOp) : (s.setOp op).plan = s.plan := rfl
@[simp] theorem State.setOp_clock (s : State) (op : StoreOp) : (s.setOp op).clock = s.clock := rfl
@[simp] theorem State.setOp_odo (s : State) (op : StoreOp) : (s.setOp op).odo = s.odo := rfl
@[simp] theorem State.setOp_appr (s : State) (op : StoreOp) : (s.setOp op).appr = s.appr := rfl
@[simp] theorem State.setOp_form (s : State) (op : StoreOp) : (s.setOp op).form = s.form := rfl
@[simp] theorem State.setOp_table (s : State) (op : StoreOp) : (s.setOp op).table = s.table := rfl
@[simp] theorem State.setOp_holds (s : State) (op : StoreOp) : (s.setOp op).holds = s.holds := rfl
@[simp] theorem State.setOp_seq (s : State) (op : StoreOp) : (s.setOp op).seq = s.seq := rfl
@[simp] theorem State.setOp_store (s : State) (op : StoreOp) : (s.setOp op).store = { s.store with op := op } := rfl
@[simp] theorem State.setOp_line (s : State) (op : StoreOp) : (s.setOp op).line = s.line := rfl
@[simp] theorem State.setOp_bright (s : State) (op : StoreOp) : (s.setOp op).bright = s.bright := rfl
@[simp] theorem State.setOp_freeCount (s : State) (op : StoreOp) : (s.setOp op).freeCount = s.freeCount := rfl
@[simp] theorem State.setOp_pending (s : State) (op : StoreOp) : (s.setOp op).pending = s.pending := rfl

/-! ### State.clearLatch -/

@[simp] theorem State.clearLatch_powered (s : State) : (s.clearLatch).powered = s.powered := rfl
@[simp] theorem State.clearLatch_unitId (s : State) : (s.clearLatch).unitId = s.unitId := rfl
@[simp] theorem State.clearLatch_doorLine (s : State) : (s.clearLatch).doorLine = s.doorLine := rfl
@[simp] theorem State.clearLatch_overheatLine (s : State) : (s.clearLatch).overheatLine = s.overheatLine := rfl
@[simp] theorem State.clearLatch_link (s : State) : (s.clearLatch).link = s.link := rfl
@[simp] theorem State.clearLatch_plan (s : State) : (s.clearLatch).plan = s.plan := rfl
@[simp] theorem State.clearLatch_clock (s : State) : (s.clearLatch).clock = s.clock := rfl
@[simp] theorem State.clearLatch_odo (s : State) : (s.clearLatch).odo = s.odo := rfl
@[simp] theorem State.clearLatch_appr (s : State) : (s.clearLatch).appr = s.appr := rfl
@[simp] theorem State.clearLatch_form (s : State) : (s.clearLatch).form = s.form := rfl
@[simp] theorem State.clearLatch_table (s : State) : (s.clearLatch).table = s.table := rfl
@[simp] theorem State.clearLatch_holds (s : State) : (s.clearLatch).holds = s.holds := rfl
@[simp] theorem State.clearLatch_seq (s : State) : (s.clearLatch).seq = s.seq := rfl
@[simp] theorem State.clearLatch_store (s : State) : (s.clearLatch).store = { s.store with latch := false } := rfl
@[simp] theorem State.clearLatch_line (s : State) : (s.clearLatch).line = s.line := rfl
@[simp] theorem State.clearLatch_bright (s : State) : (s.clearLatch).bright = s.bright := rfl
@[simp] theorem State.clearLatch_freeCount (s : State) : (s.clearLatch).freeCount = s.freeCount := rfl
@[simp] theorem State.clearLatch_pending (s : State) : (s.clearLatch).pending = s.pending := rfl

/-! ### State.judgeStandstill -/

@[simp] theorem State.judgeStandstill_powered (s : State) : (s.judgeStandstill).powered = s.powered := rfl
@[simp] theorem State.judgeStandstill_unitId (s : State) : (s.judgeStandstill).unitId = s.unitId := rfl
@[simp] theorem State.judgeStandstill_doorLine (s : State) : (s.judgeStandstill).doorLine = s.doorLine := rfl
@[simp] theorem State.judgeStandstill_overheatLine (s : State) : (s.judgeStandstill).overheatLine = s.overheatLine := rfl
@[simp] theorem State.judgeStandstill_link (s : State) : (s.judgeStandstill).link = s.link := rfl
@[simp] theorem State.judgeStandstill_plan (s : State) : (s.judgeStandstill).plan = s.plan := rfl
@[simp] theorem State.judgeStandstill_clock (s : State) : (s.judgeStandstill).clock = s.clock := rfl
@[simp] theorem State.judgeStandstill_odo (s : State) : (s.judgeStandstill).odo = s.odo := rfl
@[simp] theorem State.judgeStandstill_appr (s : State) : (s.judgeStandstill).appr = { s.appr with standstill := standstillOf s.odo } := rfl
@[simp] theorem State.judgeStandstill_form (s : State) : (s.judgeStandstill).form = s.form := rfl
@[simp] theorem State.judgeStandstill_table (s : State) : (s.judgeStandstill).table = s.table := rfl
@[simp] theorem State.judgeStandstill_holds (s : State) : (s.judgeStandstill).holds = s.holds := rfl
@[simp] theorem State.judgeStandstill_seq (s : State) : (s.judgeStandstill).seq = s.seq := rfl
@[simp] theorem State.judgeStandstill_store (s : State) : (s.judgeStandstill).store = s.store := rfl
@[simp] theorem State.judgeStandstill_line (s : State) : (s.judgeStandstill).line = s.line := rfl
@[simp] theorem State.judgeStandstill_bright (s : State) : (s.judgeStandstill).bright = s.bright := rfl
@[simp] theorem State.judgeStandstill_freeCount (s : State) : (s.judgeStandstill).freeCount = s.freeCount := rfl
@[simp] theorem State.judgeStandstill_pending (s : State) : (s.judgeStandstill).pending = s.pending := rfl

end Sys2Proof.Machine
end

