-- ==== Sys2Proof/Laws/Notices.lean ====
section
/-!
SUPPORT. The Notice Sequencer's operations: what each leaves alone, and how the queue grows.
-/
namespace Sys2Proof.Machine

@[simp] theorem joinQueue_length (n : Notice) (q : List Notice) : (joinQueue n q).length = q.length + 1 := by
  induction q with
  | nil => rfl
  | cons x xs ih => unfold joinQueue; split <;> simp [ih]

/-- A notice that joins adds 1 to the journey and information notices unless it is a SERVICE notice. -/
theorem lowerCount_joinQueue (n : Notice) (q : List Notice) :
    lowerCount (joinQueue n q) = lowerCount q + (if n.cls ≠ .service then 1 else 0) := by
  induction q with
  | nil => simp [joinQueue, lowerCount, List.countP_cons]
  | cons x xs ih =>
    unfold joinQueue
    split
    · simp [lowerCount, List.countP_cons]
    · simp only [lowerCount, List.countP_cons] at ih ⊢
      omega

/-- The level's end of an event changes pending sets alone (R155). -/
theorem State.settleLevel_frame (s before : State) : { s.settleLevel before with link := s.link } = s := by
  unfold State.settleLevel; split <;> rfl

/-- The brightness' end of an event changes pending sets and stale flags alone (R218). -/
theorem State.settleBrightness_frame (s before : State) :
    { s.settleBrightness before with link := s.link, line := s.line } = s := by
  unfold State.settleBrightness
  simp only []
  split <;> split <;> rfl

/-- The end of an event changes pending sets and stale flags alone. -/
theorem State.settle_frame (s before : State) :
    { s.settle before with link := s.link, line := s.line } = s := by
  have h1 := State.settleLevel_frame (s.settleBrightness before) before
  have h2 := State.settleBrightness_frame s before
  unfold State.settle
  rw [← h1] at h2
  exact h2

/-- A start changes the active place, its dwell and the banners' stale flags (R138). -/
theorem State.startNotice_seq (n : Notice) (s : State) :
    (s.startNotice n).seq = { s.seq with
      active := some { n with cycles := 0, lang := lowestLang n.mask }, dwellLeft := 1000 * n.dwell } := rfl

/-- A resumption keeps cycles and language and gives the full dwell (R138, R161). -/
theorem State.resumeNotice_seq (n : Notice) (s : State) :
    (s.resumeNotice n).seq = { s.seq with active := some n, dwellLeft := 1000 * n.dwell } := rfl

/-- A notice that finds nothing active starts (R156). -/
theorem State.place_starts (n : Notice) (s : State) (h : s.seq.active = none) :
    s.place n = s.startNotice n := by
  simp [State.place, h]

end Sys2Proof.Machine
end

