-- ==== Sys2Proof/Laws/Seats.lean ====
section
/-!
SUPPORT. Segment lists, the pool, seat changes, holds and marks.
-/
namespace Sys2Proof.Machine

/-! ### Lists -/

@[simp] theorem insertSegment_length (x : Segment) (l : List Segment) :
    (insertSegment x l).length = l.length + 1 := by
  induction l with
  | nil => rfl
  | cons y ys ih => unfold insertSegment; split <;> simp [ih]

/-- A segment inserted joins the list, and nothing leaves it. -/
theorem mem_insertSegment (x y : Segment) (l : List Segment) : y ∈ insertSegment x l ↔ y = x ∨ y ∈ l := by
  induction l with
  | nil => simp [insertSegment]
  | cons z zs ih =>
    unfold insertSegment
    split
    · simp
    · simp only [List.mem_cons, ih]; tauto

@[simp] theorem joinSegments_length (new l : List Segment) :
    (joinSegments new l).length = new.length + l.length := by
  unfold joinSegments
  induction new generalizing l with
  | nil => simp
  | cons x xs ih => simp only [List.foldl_cons, ih, insertSegment_length, List.length_cons]; omega

/-! ### The pool (R98) -/

/-- What a replacement of lists does to the pool: as many records are free or held as before, where the
new lists fit. -/
theorem State.relist_pool (f : Seat → List Segment) (s : State)
    (h : segmentsHeld (s.relist f).table.seats ≤ s.table.free + segmentsHeld s.table.seats) :
    (s.relist f).table.free + segmentsHeld (s.relist f).table.seats
      = s.table.free + segmentsHeld s.table.seats := by
  simp only [State.relist] at h ⊢
  omega

/-- The seat numbers stay as they are when lists are replaced. -/
theorem State.relist_numbers (f : Seat → List Segment) (s : State) :
    (s.relist f).table.seats.map Seat.number = s.table.seats.map Seat.number := by
  simp [State.relist]

/-- Lists that shrink leave no more segments held. -/
theorem segmentsHeld_le (f : Seat → List Segment) (seats : List Seat)
    (h : ∀ x ∈ seats, (f x).length ≤ x.segments.length) :
    segmentsHeld (seats.map fun x => { x with segments := f x }) ≤ segmentsHeld seats := by
  induction seats with
  | nil => simp [segmentsHeld]
  | cons x xs ih =>
    have h1 := h x List.mem_cons_self
    have h2 := ih fun y hy => h y (List.mem_cons_of_mem _ hy)
    simp only [segmentsHeld, List.map_cons, List.sum_cons] at h2 ⊢
    exact Nat.add_le_add h1 h2

/-- A replacement by shorter lists keeps the pool law. -/
theorem State.relist_poolLaw (f : Seat → List Segment) (s : State) (hs : s.PoolLaw)
    (h : ∀ x ∈ s.table.seats, (f x).length ≤ x.segments.length) : (s.relist f).PoolLaw := by
  obtain ⟨h1, h2⟩ := hs
  have h3 := segmentsHeld_le f s.table.seats h
  refine ⟨?_, ?_⟩
  · rw [State.relist_pool f s (Nat.le_trans h3 (Nat.le_add_left _ _)), h1]
  · rw [State.relist_numbers]; exact h2

/-! ### Holds (R122, R124) -/

/-- What the breaking of holds does to one hold. -/
theorem Hold.breakIf_eq (f : Nat → Bool) (h : Hold) :
    h.breakIf f = match h with
      | .standing n => if f n then .broken n else .standing n
      | x => x := by
  cases h <;> rfl

@[simp] theorem Holds.get_put (h : Holds) (p : Port) (x : Hold) : (h.put p x).get p = x := by
  cases p <;> rfl

theorem Holds.get_put_other (h : Holds) (p q : Port) (x : Hold) (hq : q ≠ p) :
    (h.put p x).get q = h.get q := by
  cases p <;> cases q <;> first | rfl | exact absurd rfl hq

/-! ### Marks (R132, R135) -/

/-- The marks after marks have been set. -/
@[simp] theorem State.setMarks_marks (bays : BitVec 24) (s : State) :
    (s.setMarks bays).holds.marks = s.holds.marks ||| bays := by
  unfold State.setMarks; dsimp only; split <;> rfl

/-- The unreported marks after marks have been set: the bays whose mark was clear join them. -/
@[simp] theorem State.setMarks_unreported (bays : BitVec 24) (s : State) :
    (s.setMarks bays).holds.unreported = s.holds.unreported ||| (bays &&& ~~~s.holds.marks) := by
  unfold State.setMarks; dsimp only; split <;> rfl

/-- Setting marks touches no hold and no block but the Hold and Mark Unit and the Link Unit. -/
theorem State.setMarks_frame (bays : BitVec 24) (s : State) :
    { s.setMarks bays with link := s.link, holds := s.holds } = s
      ∧ (s.setMarks bays).holds.operations = s.holds.operations
      ∧ (s.setMarks bays).holds.content = s.holds.content := by
  unfold State.setMarks; dsimp only; split <;> exact ⟨rfl, rfl, rfl⟩

/-- A seat change handed on changes the Hold and Mark Unit and the pending sets alone (R99). -/
theorem State.handSeats_frame (l : List (Nat × Nat)) (s : State) :
    { s.handSeats l with link := s.link, holds := s.holds } = s := by
  have h := (State.setMarks_frame (l.foldl (fun m x => m ||| bayBit x.2) 0)
    (s.breakHolds fun n => l.any (·.1 = n))).1
  exact congrArg (fun t : State => { t with holds := s.holds }) h

/-- Re-forming displays changes last displays and stale flags alone (R111). -/
theorem State.reform_frame (f : Seat → Bool) (s : State) :
    { s.reform f with table := s.table, line := s.line } = s := rfl

/-- Re-forming displays leaves every list and the free count as they were. -/
theorem State.reform_lists (f : Seat → Bool) (s : State) :
    (s.reform f).table.free = s.table.free
      ∧ (s.reform f).table.seats.map Seat.segments = s.table.seats.map Seat.segments
      ∧ (s.reform f).table.seats.map Seat.number = s.table.seats.map Seat.number := by
  refine ⟨rfl, ?_, ?_⟩ <;>
  · simp only [State.reform, State.staleStrips, State.staleWhere, List.map_map]
    refine List.map_congr_left fun x _ => ?_
    simp only [Function.comp_apply]
    split <;> rfl

end Sys2Proof.Machine
end

