-- ==== Sys2Proof/Laws/Service.lean ====
section
/-!
SUPPORT. What taking a request can do, once (R3, R5 to R8): the three outcomes of serve.
-/
namespace Sys2Proof.Machine

/-- A state's port after a change of that port. -/
@[simp] theorem State.port_onPort (s : State) (p : Port) (f : PortState → PortState) :
    (s.onPort p f).port p = f (s.port p) := by
  cases p <;> rfl

/-- The other port is left as it was. -/
theorem State.port_onPort_other (s : State) (p q : Port) (f : PortState → PortState) (h : q ≠ p) :
    (s.onPort p f).port q = s.port q := by
  cases p <;> cases q <;> first | rfl | exact absurd rfl h

@[simp] theorem State.onPort_rest (s : State) (p : Port) (f : PortState → PortState) :
    (s.onPort p f).link.rest = s.link.rest := by
  cases p <;> rfl

@[simp] theorem State.onPort_restart (s : State) (p : Port) (f : PortState → PortState) :
    (s.onPort p f).link.restart = s.link.restart := by
  cases p <;> rfl

/-- Steps 1 to 3 depend on the rest state alone (R6). -/
@[simp] theorem State.linkRefusal_enter (s : State) (p q : Port) (k l : Byte) (b c : List Byte) :
    (s.enter p k b).linkRefusal q l c = s.linkRefusal q l c := by
  unfold State.linkRefusal State.enter
  rw [State.onPort_rest]

/-- A request that cannot be in service is no event. -/
theorem serve_absent {p : Port} {k : Byte} {b : List Byte} {always : State → State} {block : State → Answer}
    {s : State} (h : s.inService p k b = false) : serve p k b always block s = s := by
  simp [serve, h]

/-- A request refused by step 1, 2 or 3 (R6). -/
theorem serve_refused {p : Port} {k : Byte} {b : List Byte} {always : State → State} {block : State → Answer}
    {s : State} {st : Status} (h : s.inService p k b = true) (hr : s.linkRefusal p k b = some st) :
    serve p k b always block s = (always (s.enter p k b)).answer p k st [] := by
  simp [serve, h, hr]

/-- A request answered by its block (R6 steps 4 and 5, R8). -/
theorem serve_reply {p : Port} {k : Byte} {b : List Byte} {always : State → State} {block : State → Answer}
    {s s2 : State} {st : Status} {body : List Byte} (h : s.inService p k b = true)
    (hr : s.linkRefusal p k b = none) (hb : block (s.enter p k b) = .reply s2 st body) :
    serve p k b always block s = (always s2).answer p k st body := by
  simp [serve, h, hr, hb]

/-- Everything that taking a request can do. -/
theorem serve_cases (p : Port) (k : Byte) (b : List Byte) (always : State → State) (block : State → Answer)
    (s : State) :
    (s.inService p k b = false ∧ serve p k b always block s = s)
    ∨ (∃ st, s.inService p k b = true ∧ s.linkRefusal p k b = some st
        ∧ serve p k b always block s = (always (s.enter p k b)).answer p k st [])
    ∨ (∃ s2 st body, s.inService p k b = true ∧ s.linkRefusal p k b = none
        ∧ block (s.enter p k b) = .reply s2 st body
        ∧ serve p k b always block s = (always s2).answer p k st body)
    ∨ (∃ s2 phrase lang, s.inService p k b = true ∧ s.linkRefusal p k b = none
        ∧ block (s.enter p k b) = .defer s2 phrase lang
        ∧ serve p k b always block s
          = (always s2).onPort p fun ps => { ps with service := .deferred phrase lang }) := by
  cases h : s.inService p k b with
  | false => exact .inl ⟨rfl, serve_absent h⟩
  | true =>
    cases hr : s.linkRefusal p k b with
    | some st => exact .inr (.inl ⟨st, rfl, rfl, serve_refused h hr⟩)
    | none =>
      cases hb : block (s.enter p k b) with
      | reply s2 st body => exact .inr (.inr (.inl ⟨s2, st, body, rfl, rfl, rfl, serve_reply h hr hb⟩))
      | defer s2 phrase lang =>
        exact .inr (.inr (.inr ⟨s2, phrase, lang, rfl, rfl, rfl, by simp [serve, h, hr, hb]⟩))

/-- An event of the part does its work with power and nothing without (log entry 8). -/
theorem live_powered {f : State → State} {s : State} (h : s.powered = true) : live f s = f s := by
  simp [live, h]

end Sys2Proof.Machine
end

