-- ==== Sys2Proof/Laws/Store.lean ====
section
/-!
SUPPORT. The places of the Phrase Store: read after write, and the canonical form that every memory
operation keeps.
-/
namespace Sys2Proof.Machine

/-- A place reads as what was last written to it. -/
@[simp] theorem getEntry_putEntry (k : Nat) (e : Entry) (es : List (Nat × Entry)) :
    getEntry (putEntry k e es) k = some e := by
  induction es with
  | nil => simp [putEntry, getEntry]
  | cons x rest ih =>
    obtain ⟨j, y⟩ := x
    unfold putEntry
    split
    · simp [getEntry]
    · split <;> simp [getEntry, *]

/-- A write leaves every other place alone. -/
theorem getEntry_putEntry_other (k j : Nat) (e : Entry) (es : List (Nat × Entry)) (h : j ≠ k) :
    getEntry (putEntry k e es) j = getEntry es j := by
  have h' : ¬ k = j := fun hk => h hk.symm
  induction es with
  | nil => simp [putEntry, getEntry, h']
  | cons x rest ih =>
    obtain ⟨i, y⟩ := x
    unfold putEntry
    split
    · subst i; simp [getEntry, h']
    · split <;> simp [getEntry, h', ih]

/-- The canonical form says that every later key is above the first. -/
theorem entriesWf_cons (j : Nat) (x : Entry) (rest : List (Nat × Entry)) :
    entriesWf ((j, x) :: rest) = true ↔ (∀ y ∈ rest, j < y.1) ∧ entriesWf rest = true := by
  induction rest generalizing j x with
  | nil => simp [entriesWf]
  | cons y rest ih =>
    obtain ⟨k, z⟩ := y
    simp only [entriesWf, Bool.and_eq_true, decide_eq_true_eq, ih k z, List.mem_cons, forall_eq_or_imp]
    constructor
    · rintro ⟨h1, h2, h3⟩
      exact ⟨⟨h1, fun y hy => Nat.lt_trans h1 (h2 y hy)⟩, h2, h3⟩
    · rintro ⟨⟨h1, _⟩, h2, h3⟩
      exact ⟨h1, h2, h3⟩

/-- The keys after a write are the key written and the keys before. -/
theorem mem_putEntry (k : Nat) (e : Entry) (es : List (Nat × Entry)) (y : Nat × Entry)
    (h : y ∈ putEntry k e es) : y.1 = k ∨ y ∈ es := by
  induction es with
  | nil => simp [putEntry] at h; simp [h]
  | cons x rest ih =>
    obtain ⟨j, z⟩ := x
    unfold putEntry at h
    split at h
    · rcases List.mem_cons.mp h with rfl | h
      · exact .inl rfl
      · exact .inr (List.mem_cons_of_mem _ h)
    · split at h
      · rcases List.mem_cons.mp h with rfl | h
        · exact .inl rfl
        · exact .inr h
      · rcases List.mem_cons.mp h with rfl | h
        · exact .inr List.mem_cons_self
        · rcases ih h with h | h
          · exact .inl h
          · exact .inr (List.mem_cons_of_mem _ h)

/-- A write keeps the canonical form. -/
theorem entriesWf_putEntry (k : Nat) (e : Entry) (es : List (Nat × Entry)) (h : entriesWf es = true) :
    entriesWf (putEntry k e es) = true := by
  induction es with
  | nil => rfl
  | cons x rest ih =>
    obtain ⟨j, z⟩ := x
    obtain ⟨h1, h2⟩ := (entriesWf_cons j z rest).mp h
    unfold putEntry
    split
    · subst j; exact (entriesWf_cons k e rest).mpr ⟨h1, h2⟩
    · split
      · rename_i hk
        refine (entriesWf_cons k e _).mpr ⟨fun y hy => ?_, h⟩
        rcases List.mem_cons.mp hy with rfl | hy
        · exact hk
        · exact Nat.lt_trans hk (h1 y hy)
      · refine (entriesWf_cons j z _).mpr ⟨fun y hy => ?_, ih h2⟩
        rcases mem_putEntry k e rest y hy with hy | hy
        · omega
        · exact h1 y hy

/-- Any part of a canonical list is canonical. -/
theorem entriesWf_filter (f : Nat × Entry → Bool) (es : List (Nat × Entry)) (h : entriesWf es = true) :
    entriesWf (es.filter f) = true := by
  induction es with
  | nil => rfl
  | cons x rest ih =>
    obtain ⟨j, z⟩ := x
    obtain ⟨h1, h2⟩ := (entriesWf_cons j z rest).mp h
    rw [List.filter_cons]
    split
    · exact (entriesWf_cons j z _).mpr ⟨fun y hy => h1 y (List.mem_filter.mp hy).1, ih h2⟩
    · exact ih h2

/-- Erasing a sector keeps the canonical form. -/
theorem entriesWf_eraseEntries (sector : Nat) (es : List (Nat × Entry)) (h : entriesWf es = true) :
    entriesWf (eraseEntries sector es) = true := entriesWf_filter _ es h

/-- Every place of an erased sector reads ERASED, every other as before (R176). -/
theorem getEntry_eraseEntries (sector k : Nat) (es : List (Nat × Entry)) :
    getEntry (eraseEntries sector es) k = if keySector k = sector then none else getEntry es k := by
  induction es with
  | nil => simp [eraseEntries, getEntry]
  | cons x rest ih =>
    obtain ⟨j, z⟩ := x
    unfold eraseEntries at ih ⊢
    rw [List.filter_cons]
    by_cases hj : keySector j = sector
    · simp only [hj, ne_eq, not_true_eq_false, decide_false, Bool.false_eq_true, if_false, ih, getEntry]
      by_cases hk : j = k
      · subst hk; simp [hj]
      · simp [hk]
    · simp only [hj, ne_eq, not_false_eq_true, decide_true, if_true, getEntry, ih]
      by_cases hk : j = k
      · subst hk; simp [hj]
      · simp [hk]

end Sys2Proof.Machine
end

