-- ==== Sys2Proof/Laws/StoreOps.lean ====
section
/-!
SUPPORT. Every operation on the Phrase Store's places keeps their canonical form, and the store as
manufactured has it.
-/
namespace Sys2Proof.Machine

theorem Store.startProgram_wf (phrase lang : Nat) (text : List Byte) (st : Store) (h : st.wf = true) :
    (st.startProgram phrase lang text).wf = true := by
  unfold Store.startProgram Store.wf
  exact entriesWf_putEntry _ _ _ h

theorem Store.finishProgram_wf (pr : Program) (st : Store) (h : st.wf = true) :
    (st.finishProgram pr).wf = true := by
  unfold Store.finishProgram Store.wf
  exact entriesWf_putEntry _ _ _ h

theorem Store.startSector_wf (sector : Nat) (st : Store) (h : st.wf = true) :
    (st.startSector sector).wf = true := by
  unfold Store.startSector
  split <;> exact h

theorem Store.finishSector_wf (sector : Nat) (st : Store) (h : st.wf = true) :
    (st.finishSector sector).wf = true := entriesWf_eraseEntries sector st.entries h

@[simp] theorem Store.lose_wf (st : Store) : st.lose.wf = st.wf := rfl
@[simp] theorem Store.scan_wf (st : Store) : st.scan.wf = st.wf := rfl
@[simp] theorem Store.abandon_wf (st : Store) : st.abandon.wf = st.wf := rfl

/-- The places of the store as manufactured are in canonical form (log entry 7). -/
theorem reset_store_wf : State.reset.store.wf = true := rfl

end Sys2Proof.Machine
end

