-- ==== Sys2Proof/Tests/Slice0.lean ====
section
/-!
SUPPORT. Tests.  Expected values are those of the manual's worked sequences (chapters 2 to 10) or are
worked by hand from its rules; then, for each statement of Certificates/Slice0, a state and operands
that meet the hypotheses of each of its clauses.
-/
namespace Sys2Proof.Tests
open Sys2Proof Sys2Proof.Machine

-- One declaration after the other: each `decide +kernel` waits for the checks before it, and a thread that waits is memory.
set_option Elab.async false

/-! ### States to start from -/

/-- The state after a command. -/
def run (i : Instr) (s : State) : State :=
  match exec i s with
  | .next t => t
  | _ => s

/-- The reply that waits on a port: its status and its payload. -/
def replyOf (p : Port) (s : State) : Option (Status × List Byte) :=
  (s.port p).reply.map fun r => (r.status, r.payload)

/-- A stop record of the dividing train of 2.2. -/
def stopOf (line : Nat) (arr dep : Option Nat) (a b : Call) (ev : StopEvent) : StopRecord :=
  ⟨100, line, arr, dep, 0, none, .left, none, a, b, .noCall, ev, []⟩

/-- The stops of the dividing train of 2.2. -/
def dividing : List StopRecord :=
  [stopOf 1200 none (some 480) .call .call .noEvent, stopOf 48000 none none .pass .pass .noEvent,
   stopOf 96500 (some 545) (some 548) .call .call .divide,
   stopOf 140000 (some 570) (some 572) .call .noCall .noEvent,
   stopOf 131000 (some 566) (some 567) .noCall .call .noEvent,
   stopOf 185000 (some 600) (some 601) .cancelled .noCall .noEvent,
   stopOf 230000 (some 622) none .call .noCall .noEvent, stopOf 176000 (some 590) none .noCall .call .noEvent]

/-- A seat of bay 7. -/
def seatOf (num : Nat) (segs : List Segment) : Seat := ⟨num, 7, .standard, .a, false, segs, none⟩

/-- A segment of the sequence of 5.9. -/
def leg (f t tag : Nat) : Segment := ⟨f, t, .booked, tag, none, false⟩

/-- The seats of 6.7, before the put for seat 48. -/
def seats : List Seat :=
  [seatOf 45 [leg 2 3 102, ⟨3, 5, .group, 103, none, false⟩], seatOf 46 [], seatOf 47 [leg 2 6 301], seatOf 48 []]

/-- This coach, in portion A, with the plan of 2.2 loaded. -/
def loaded : State :=
  { State.reset with
    plan := ⟨.loading, dividing⟩
    form := { State.reset.form with active := [⟨0, 13, .a, true⟩] } }

/-- The same in READY. -/
def ready : State := { loaded with plan := ⟨.ready, dividing⟩ }

/-- The journey of 5.9 after the departure from stop 2: L is 2, C is 3 at CRUISE. -/
def journey : State :=
  { loaded with
    plan := ⟨.running, dividing⟩
    odo := { State.reset.odo with position := 100000 }
    appr := { State.reset.appr with current := some 3, last := some 2, stage := some .cruise }
    table := ⟨seats, 253⟩ }

/-- A journey notice waiting or shown, as in 7.10. -/
def nextStop : Notice := ⟨.journey, 0, some .nextStop, some 3, [.phrase 1], 2, 8, 3, .stage .atPlatform, 1, 1⟩

/-- A posted notice. -/
def posted (cls : NoticeClass) (tag : Nat) : Notice := ⟨cls, tag, none, none, [.phrase 7], 1, 6, 3, .unlimited, 0, 0⟩

/-- The payload of a Post Notice with one phrase item. -/
def postBytes (cls : NoticeClass) (tag reps dwell mask expiry : Nat) : List Byte :=
  be 1 cls.code ++ be 2 tag ++ be 1 reps ++ be 1 dwell ++ be 1 mask ++ be 2 expiry ++ be 1 1 ++ be 1 0 ++ be 2 7

/-- The panels of 9.9. -/
def panels : List Panel :=
  [⟨1, .banner, 0, .idle, true, 0, false, some 6, .stopped⟩, ⟨2, .banner, 0, .idle, true, 0, false, some 6, .stopped⟩,
   ⟨3, .doorMap, 0, .idle, true, 0, false, some 6, .stopped⟩, ⟨4, .doorMap, 1, .idle, true, 0, false, some 6, .stopped⟩,
   ⟨7, .seatStrip, 7, .idle, true, 0, false, some 6, .stopped⟩, ⟨8, .seatStrip, 8, .failed, false, 3, false, some 6, .running 500⟩]

/-- The panel line of 9.9 at the trigger. -/
def lined : State :=
  { journey with line := { State.reset.line with
      panels := panels, rotation := [0, 1], lastBanner := some 2, lastDoorMap := some 3, lastStrip := some 6 } }

/-- The guard of 10.7. -/
def guard : HeatGuard := ⟨1800, 2400, false, 10, 4, true, true⟩

/-- The start of 10.7: the clock at 21:40, S in the open, the guard enabled. -/
def cabinet : State :=
  { State.reset with
    clock := ⟨true, 78000, 0⟩
    odo := { State.reset.odo with position := 424000 }
    bright := { State.reset.bright with guard := guard, heat := .cool, freq := 1700, tunnels := [(430000, 436500)] } }

/-- The erase of 8.12 at 290 ms. -/
def erase : Erase := ⟨40, 42, 41, 110⟩

/-! ### The well-formedness check refuses -/

theorem test_wf_payload : (Instr.status .content (List.replicate 1025 0)).wf = false := by decide +kernel
theorem test_wf_payload_fits : (Instr.status .content (List.replicate 1024 0)).wf = true := by decide +kernel
theorem test_wf_unknown_kind : (Instr.unknownKindRequest .content 0x77 []).wf = false := by decide +kernel
theorem test_wf_read_stop : (Instr.readStop .content [0xFF]).wf = false := by decide +kernel
theorem test_wf_define_seat : (Instr.defineSeat .content [1, 0, 45, 7, 0, 0]).wf = false := by decide +kernel
theorem test_wf_remove_seat : (Instr.removeSeat .content [0, 0, 45, 7, 0, 0]).wf = false := by decide +kernel
theorem test_wf_define_panel : (Instr.definePanel .operations [1, 3, 0, 0]).wf = false := by decide +kernel
theorem test_wf_remove_panel : (Instr.removePanel .operations [0, 3, 0, 0]).wf = false := by decide +kernel
theorem test_wf_notice_tag : (Instr.noticeValidityExpiry (.posted 0)).wf = false := by decide +kernel
theorem test_wf_notice_stop : (Instr.noticeValidityExpiry (.journey .divide 48)).wf = false := by decide +kernel
theorem test_wf_probe : (Instr.probeTimerExpiry 25).wf = false := by decide +kernel

/-! ### One step each, from the manual's worked sequences -/

/-- The CRC of R2 over the ASCII digits 1 to 9, worked from its polynomial and initial value. -/
theorem test_crc : crc [0x31, 0x32, 0x33, 0x34, 0x35, 0x36, 0x37, 0x38, 0x39] = 0x29B1#16 := by decide +kernel

/-- R1, by hand: an idle line inside a frame discards it, whichever command says so. -/
theorem test_line_idle_in_frame :
    (let ps := (run (.lineIdle .content) (run (.frameReceived .content [0xC3, 0])
        (run (.lineIdle .content) State.reset))).port .content
     (ps.rx, ps.frameError)) = (.listening, true) := by decide +kernel

/-- A step takes the command in front (the block's step); with none, what is called for is queued: a
report of MARKS on the Content port (R135). -/
theorem test_step_idle : step State.reset = .next { State.reset with pending := [.reportSend .content] } := rfl

/-- R11, by hand: with a request still queued the end of a reply starts no report. -/
theorem test_reply_before_report :
    ((run (.replyComplete .operations)
      { State.reset with link := { State.reset.link with operations := { PortState.reset with
          tx := .reply [1], queue := [⟨1, []⟩, ⟨2, []⟩], service := .answered, events := [.journeyEnd] } } }).port
        .operations).tx = .free := by decide +kernel

/-- 2.2: the effective stops of the dividing train, portion A. -/
theorem test_eff_a : (List.range 8).map (ready.plan.eff .a)
    = [some 0, some 2, some 2, some 3, none, some 6, some 6, none] := by decide +kernel

/-- 2.2: the effective stops of the dividing train, portion B. -/
theorem test_eff_b : (List.range 8).map (ready.plan.eff .b)
    = [some 0, some 2, some 2, none, some 4, none, none, some 7] := by decide +kernel

/-- 2.2: the plan passes Close Plan although stop 4 lies behind stop 3 on the line (R25). -/
theorem test_close_plan : (run (.closePlan .operations []) loaded).plan.state = .ready := by decide +kernel

/-- R25 test 3, by hand: stop 3 below stop 2 in line position on portion A's route is reason 3. -/
theorem test_close_plan_conflict :
    replyOf .operations (run (.closePlan .operations [])
      { loaded with plan := ⟨.loading, dividing.set 3 (stopOf 96500 none none .call .noCall .noEvent)⟩ })
      = some (.conflict, [3, 0, 3]) := by decide +kernel

/-- R26: Start Journey at portion A's first calling stop. -/
theorem test_start_journey : replyOf .operations (run (.startJourney .operations []) ready)
    = some (.done, [0, 0]) := by decide +kernel

/-- R22 and 2.5, by hand: Clear Plan returns the records of 5.9's seats to the pool. -/
theorem test_clear_plan : (run (.clearPlan .operations []) journey).table.free = 256 := by decide +kernel

/-- R31, by hand: a delay above 720 is clamped. -/
theorem test_amend_stop : replyOf .operations (run (.amendStop .operations [3, 1, 0x04, 0x00, 0, 0, 0, 0]) journey)
    = some (.done, [0x02, 0xD0]) := by decide +kernel

/-- 5.9: stop 3 cancelled for portion A takes C to 6 at CRUISE and voids one segment, leaving one record
more. -/
theorem test_set_call :
    (let t := run (.setCall .operations [3, 0, 3]) journey
     (replyOf .operations t, t.table.free, t.appr.current))
      = (some (.done, [6, 0, 0, 1]), 254, some 6) := by decide +kernel

/-- 5.9: the put of 0 → 3 for seat 48 is stored from stop 2, one segment, 252 records free. -/
theorem test_put_segment :
    replyOf .content (run (.putSegment .content [0, 48, 0, 3, 0, 1, 145, 0xFF, 0xFF, 0]) journey)
      = some (.done, [2, 1, 0, 252, 0]) := by decide +kernel

/-- 5.9: put 5, 5 → 6, collapses at check 5. -/
theorem test_put_off_route :
    (replyOf .content (run (.putSegment .content [0, 46, 5, 6, 0, 0, 201, 0xFF, 0xFF, 0])
      { ready with table := ⟨seats, 253⟩ })).map Prod.fst = some .offRoute := by decide +kernel

/-- 5.9: with stop 3 cancelled, moving seat 45 to seat 47 clashes: reason 2, from stop 2. -/
theorem test_move_seat :
    replyOf .content (run (.moveSeat .content [0, 45, 0, 47])
      { journey with
        plan := ⟨.running, dividing.set 3 (stopOf 140000 (some 570) (some 572) .cancelled .noCall .noEvent)⟩
        appr := { journey.appr with current := some 6 }
        table := ⟨[seatOf 45 [leg 2 3 102], seatOf 47 [leg 2 6 301]], 254⟩ })
      = some (.conflict, [2, 2]) := by decide +kernel

/-- 6.7: with the Content hold on seat 45 broken, the commit is refused with STALE, reason 2. -/
theorem test_commit_stale :
    replyOf .content (run (.commitSeat .content ([0, 45, 1, 2, 3, 0, 0, 102] ++ [0xFF, 0xFF]))
      { journey with holds := { journey.holds with content := .broken 45 } })
      = some (.stale, [2]) := by decide +kernel

/-- 6.7: Take Marks of bay 7 on the Content port, its hold ABSENT. -/
theorem test_take_marks : replyOf .content (run (.takeMarks .content [0, 0, 0x80])
      { journey with holds := { journey.holds with marks := 0x80 } })
    = some (.done, [0, 0, 0x80, 0, 0, 0, 0, 0, 0]) := by decide +kernel

/-- 3.11, window 1: 634 pulses at 28,902 µm. -/
theorem test_window :
    (let o := (run .odometerWindowEnd
        { State.reset with odo := { State.reset.odo with count := 634, speed := 91330, prevSpeed := 91330 } }).odo
     (o.position, o.remainder, o.speed, o.sinceFix)) = (18, 323868, 91619, 18) := by decide +kernel

/-- 3.11, window B: 700 pulses are suspect, and the train is carried on at v_prev. -/
theorem test_window_slip :
    (let o := (run .odometerWindowEnd
        { State.reset with odo := { State.reset.odo with
            count := 700, speed := 91619, prevSpeed := 91619, remainder := 323868 } }).odo
     (o.mode, o.position, o.remainder, o.suspectRun)) = (.guarded, 18, 647668, 1) := by decide +kernel

/-- 3.11: the fix of 412,300 m, 350 ms old. -/
theorem test_position_fix :
    replyOf .operations (run (.positionFix .operations (be 4 412300 ++ be 2 350))
      { journey with
        plan := ⟨.running, [stopOf 400000 none none .call .call .noEvent, stopOf 424782 none none .call .call .noEvent]⟩
        appr := { journey.appr with current := some 1, last := some 0 }
        odo := { journey.odo with position := 412371, sinceFix := 8400, speed := 91619 } })
      = some (.done, be 4 412332 ++ beInt 4 (-39) ++ be 4 168 ++ [0]) := by decide +kernel

/-- 3.11: the default wheel has P = 28,902 µm. -/
theorem test_set_wheel : replyOf .operations (run (.setWheel .operations [3, 152, 100]) State.reset)
    = some (.done, be 4 28902) := by decide +kernel

/-- 3.11: at BERTHING the doors take C to AT_PLATFORM (R65). -/
theorem test_door_release :
    (run (.doorReleaseChange true) { journey with
      odo := { journey.odo with position := 139918 }
      appr := { journey.appr with stage := some .berthing } }).appr.stage = some .atPlatform := by decide +kernel

/-- R65, log entry 37: an activation at CRUISE is unscheduled; the other rows take C to BERTHING, no
further. -/
theorem test_door_unscheduled :
    (run (.doorReleaseChange true) { journey with odo := { journey.odo with position := 139918 } }).appr.stage
      = some .berthing := by decide +kernel

/-- The eight coaches of 4.8, this part in coach 13. -/
def eight : List CoachEntry :=
  [⟨1, 11, .a, false⟩, ⟨2, 12, .a, false⟩, ⟨0, 13, .a, true⟩, ⟨4, 14, .a, false⟩, ⟨5, 21, .b, false⟩,
   ⟨6, 22, .b, false⟩, ⟨7, 23, .b, true⟩, ⟨8, 24, .b, false⟩]

/-- 4.8: applied with leading end 1, coach 13 is at position 3 of 8 in portion A, B_LEADS. -/
theorem test_apply_formation :
    replyOf .operations (run (.applyFormation .operations [1]) { ready with
      form := { ready.form with staged := eight, active := [] } }) = some (.done, [1, 3, 0, 1, 13, 8]) := by
  decide +kernel

/-- 4.8: a turn to leading end 2 puts coach 13 at position 6, A_LEADS. -/
theorem test_leading_end :
    replyOf .operations (run (.setLeadingEnd .operations [2]) { ready with
      form := { ready.form with active := eight } }) = some (.done, [2, 6, 0]) := by decide +kernel

/-- 7.10 at 12 s: SERVICE tag 20 pre-empts NEXT_STOP, which is saved in slot 1. -/
theorem test_post_service :
    (let q := (run (.postNotice .operations (postBytes .service 20 1 6 3 300))
        { journey with seq := ⟨[], some nextStop, none, none, 4000⟩ }).seq
     (q.active.map Notice.tag, q.slot1, q.slot2)) = (some 20, some nextStop, none) := by decide +kernel

/-- 7.10 at 40 s: Clear Alarm lets the service of slot 2 resume: level 1, class SERVICE. -/
theorem test_clear_alarm :
    replyOf .operations (run (.clearAlarm .operations []) { journey with
      seq := ⟨[], some (posted .alarm 1), some nextStop, some (posted .service 20), 100⟩ })
      = some (.done, [1, 1]) := by decide +kernel

/-- 7.10 at 8 s: NEXT_STOP completes its first cycle and goes to language 1. -/
theorem test_dwell :
    (run .dwellExpiry { journey with
      seq := ⟨[], some { nextStop with cycles := 0, lang := 0 }, none, none, 1⟩ }).seq.active = some nextStop := by
  decide +kernel

/-- 8.12 at 0 ms: an erase of sectors 40..42 carries 3 sectors. -/
theorem test_erase : replyOf .content (run (.eraseSectors .content [40, 42])
      { State.reset with store := { Store.manufactured with latch := true } }) = some (.done, [3]) := by
  decide +kernel

/-- 8.12 at 290 ms: Hold Erase carries sector 41 and 2 sectors to go. -/
theorem test_hold_erase : replyOf .content (run (.holdErase .content [])
      { State.reset with store := { Store.manufactured with op := .erasing erase } }) = some (.done, [41, 2]) := by
  decide +kernel

/-- 8.12 at 295 ms: phrase 330 lies in sector 41, still to be erased: BUSY, and the latch is cleared. -/
theorem test_write_busy :
    (let t := run (.writePhrase .content (be 2 330 ++ be 1 0 ++ [0x4E]))
        { State.reset with store := { Store.manufactured with op := .eraseHeld erase, latch := true } }
     (replyOf .content t, t.store.latch)) = (some (.busy, []), false) := by decide +kernel

/-- 8.12 at 298 ms: phrase 322 lies in sector 40, erased already: the program starts. -/
theorem test_write_held :
    (run (.writePhrase .content (be 2 322 ++ be 1 0 ++ [0x4E]))
      { State.reset with store := { Store.manufactured with op := .eraseHeld erase, latch := true } }).store.op
      = .heldProgramming erase ⟨322, 0, [0x4E], 2⟩ := by decide +kernel

/-- 9.9, frame 1: the banner after 2, wrapping to 1. -/
theorem test_page_send : (run .pageSend lined).line.flight.map Frame.addr = some 1 := by decide +kernel

/-- 9.9, frame 5: no acknowledgement from door map 4 is one miss, and it is stale again. -/
theorem test_ack_timeout :
    (let x := ((run .ackTimeout { lined with line := { lined.line with
        flight := some ⟨.page, 4, .doorMap, 0, .sent [], false, 1⟩ } }).line.panel? 4)
     x.map fun x => (x.state, x.miss, x.stale)) = some (.idle, 1, true) := by decide +kernel

/-- 10.7: f 2,140 is WARM with ceiling 10, and HEAT is raised. -/
theorem test_heat_warm :
    (run .heatWindowEnd { cabinet with bright := { cabinet.bright with count := 2140 } }).link.operations.events
      = [.heat .warm 10] := by decide +kernel

/-- 10.7: the third window without an edge is LOST, which brings the hot ceiling back. -/
theorem test_heat_lost :
    (run .heatWindowEnd { cabinet with bright := { cabinet.bright with zeroRun := 2 } }).bright.ceiling = 4 := by
  decide +kernel

/-- 10.7: in the tunnel while HOT the banner shows 4, with the overheat line active 1. -/
theorem test_overheat :
    (let s := { cabinet with
        odo := { cabinet.odo with position := 430012 }, bright := { cabinet.bright with heat := .hot, freq := 2460 } }
     (s.brightness .banner, (run (.overheatLineChange true) s).brightness .banner)) = (4, 1) := by decide +kernel

/-- The place of a program just completed reads back (R174, R187). -/
theorem test_program_complete :
    (run .programComplete { State.reset with store := { Store.manufactured with
      op := .programming ⟨322, 0, [0x4E], 2⟩ } }).store.readPayload 322 0 = [1, 0, 1, 0x4E] := by decide +kernel

/-! ### Every clause of the statements is met somewhere -/

/-- A request is in service and passes steps 1 to 3, by evaluation. -/
theorem takes {s : State} {p : Port} {k : Byte} {b : List Byte}
    (h : (s.inService p k b && (s.linkRefusal p k b).isNone) = true) : s.Takes p k b := by
  simp only [Bool.and_eq_true, Option.isNone_iff_eq_none] at h
  exact h

/-- The Operations port with the line idle, its queue holding the number of frames given. -/
def listening (n : Nat) : State :=
  { State.reset with link := { State.reset.link with operations :=
    { PortState.reset with rx := .listening, queue := List.replicate n ⟨1, []⟩ } } }

/-- The Operations port in the state given. -/
def onOps (ps : PortState) : State := { State.reset with link := { State.reset.link with operations := ps } }

/-- The part at rest. -/
def resting : State := { State.reset with link := { State.reset.link with rest := .resting } }

/-- What an empty queue calls for, as StepTakesFrontCommand states it. -/
def called (s : State) : List Instr :=
  let port (p : Port) : List Instr :=
    (match (s.port p).service, (s.port p).queue with
      | .untaken, r :: _ => [requestCommand p r]
      | _, _ => [])
    ++ (if (s.port p).tx ≠ .free then []
      else if (s.port p).reply ≠ none then [.replySend p]
      else if (s.port p).events ≠ [] then [.reportSend p]
      else [])
  let line : List Instr :=
    if s.line.flight ≠ none then []
    else if s.link.rest = .resting then
      (if ∃ x ∈ s.line.panels, ∃ n ∈ s.line.blankFrom, n ≤ x.addr then [.blankPageSend] else [])
    else if ∃ x ∈ s.line.panels, x.state = .failed ∧ x.probe = .due then [.probeSend]
    else if ∃ x ∈ s.line.panels, x.stale = true ∧ x.state = .idle then [.pageSend]
    else []
  if s.link.restart = .due then [.restartReset] else port .operations ++ port .content ++ line

theorem hyp_StepTakesFrontCommand :
    ((run .powerLoss State.reset).pending = [] ∧ (run .powerLoss State.reset).powered = false)
    ∧ (State.reset.pending = [] ∧ State.reset.powered = true ∧ called State.reset ≠ [])
    ∧ (let s := run (.reportSend .content) State.reset
       s.pending = [] ∧ s.powered = true ∧ called s = []) := by decide +kernel

theorem hyp_FramesReceived :
    ((listening 0).powered = true ∧ ((listening 0).port .operations).rx = .listening
      ∧ (List.replicate 1024 (0 : Byte)).length ≤ 1024 ∧ 65535 < 65536)
    ∧ ((listening 3).port .operations).queue.length < 4 ∧ ¬ ((listening 4).port .operations).queue.length < 4
    ∧ 1024 < 256 * (4 : Byte).toNat + (1 : Byte).toNat
    ∧ (State.reset.powered = true ∧ (State.reset.port .content).rx = .ignoring)
    ∧ ((onOps { PortState.reset with rx := .receiving [1] }).port .operations).rx = .receiving [1] := by
  decide +kernel

theorem hyp_LinkUnitChecks :
    (State.reset.inService .content 0x7F [] = true ∧ catalogueRow 0x7F = none
      ∧ catalogueRow 0x80 = none ∧ catalogueRow 0x78 = none)
    ∧ ((Instr.clearPlan .content []).wf = true ∧ (Instr.clearPlan .content []).request? = some (.content, 0x13, [])
      ∧ State.reset.inService .content 0x13 [] = true)
    ∧ ((Instr.postNotice .content [1]).wf = true ∧ (Instr.postNotice .content [1]).request? = some (.content, 0x50, [1])
      ∧ State.reset.inService .content 0x50 [1] = true ∧ (1 : Byte) ≠ 3)
    ∧ ((Instr.readSeat .content []).wf = true ∧ resting.inService .content 0x46 [] = true
      ∧ resting.link.rest = .resting) := by
  decide +kernel

theorem hyp_RefusalHasNoEffect :
    (let c := Instr.readSeat .content []
     let t := run c State.reset
     c.wf = true ∧ c.request? = some (.content, 0x46, []) ∧ State.reset.inService .content 0x46 [] = true
      ∧ (t.port .content).service = .answered ∧ (t.port .content).reply = some ⟨0xC6, .malformed, []⟩)
    ∧ exec (.readSeat .content []) State.reset = .next (run (.readSeat .content []) State.reset) :=
  ⟨by decide +kernel, rfl⟩

/-- A port whose reply waits. -/
def replied : State := onOps { PortState.reset with
  queue := [⟨1, []⟩], service := .answered, reply := some ⟨0x81, .done, [1]⟩, frameError := true }

/-- A port sending, with the events given pending and Restart as given. -/
def sending (tx : Transmitter) (reply : Option Reply) (events : List Event) (phase : RestartPhase) : State :=
  let s := onOps { PortState.reset with tx := tx, reply := reply, events := events }
  { s with link := { s.link with restart := phase } }

theorem hyp_ReplySent : replied.powered = true ∧ replied.link.restart ≠ .due
    ∧ (replied.port .operations).tx = .free
    ∧ (replied.port .operations).reply = some ⟨0x81, .done, [1]⟩ := by decide +kernel

theorem hyp_ReplyEnds :
    (∀ phase : RestartPhase, (sending (.reply [1]) none [] phase).powered = true
      ∧ ((sending (.reply [1]) none [] phase).port .operations).tx = .reply [1]
      ∧ ((sending (.reply [1]) none [] phase).port .operations).reply = none)
    ∧ (sending (.reply [1]) none [] .replying).link.restart = .replying
    ∧ (((sending (.reply [1]) none [] .none).port .operations).events = []
      ∧ (sending (.reply [1]) none [.journeyEnd] .due).link.restart = .due)
    ∧ (let s := onOps { PortState.reset with
        tx := .reply [1], queue := [⟨1, []⟩, ⟨2, []⟩], events := [.journeyEnd] }
       (s.port .operations).tx = .reply [1] ∧ (s.port .operations).reply = none
        ∧ (s.port .operations).queue.tail ≠ [])
    ∧ (let s := sending (.reply [1]) none [.journeyEnd] .none
       (s.port .operations).queue.tail = [] ∧ (s.port .operations).events ≠ []) :=
  ⟨fun phase => by cases phase <;> decide +kernel, by decide +kernel⟩

theorem hyp_ReportsCarryTheWholeSet :
    (State.reset.link.restart ≠ .due ∧ (State.reset.port .content).tx = .free
      ∧ (State.reset.port .content).reply = none ∧ (State.reset.port .content).events ≠ [])
    ∧ (let s := sending (.report [1]) none [.journeyEnd] .none
       s.link.restart ≠ .due ∧ (s.port .operations).tx = .report [1] ∧ (s.port .operations).reply = none
        ∧ (s.port .operations).events ≠ [])
    ∧ (let s := sending (.report [1]) none [] .none
       (s.port .operations).tx = .report [1] ∧ (s.port .operations).reply = none ∧ (s.port .operations).events = [])
    ∧ (sending (.report [1]) none [.journeyEnd] .due).link.restart = .due
    ∧ (let s := sending (.report [1]) (some ⟨0x81, .done, []⟩) [] .none
       s.link.restart ≠ .due ∧ (s.port .operations).tx = .report [1]
        ∧ (s.port .operations).reply = some ⟨0x81, .done, []⟩) := by
  decide +kernel

theorem hyp_BreakEmptiesItsPort : (journey.powered = true ∧ journey.link.restart = .none)
    ∧ (sending .free none [] .replying).link.restart ≠ .none := by decide +kernel

theorem hyp_RestartIsAResetButForThree : State.reset.Takes .operations 0x03 []
    ∧ (sending .free none [] .due).powered = true ∧ (sending .free none [] .due).link.restart = .due
    ∧ (let s := { cabinet with store := { Store.manufactured with tornCount := 1 }, overheatLine := true
                               link := { cabinet.link with restart := .due } }
       s.powered = true ∧ s.link.restart = .due ∧ s.bright.heat ≠ (run .restartReset s).bright.heat
        ∧ 0 < (run .restartReset s).store.tornCount) :=
  ⟨takes (by decide +kernel), by decide +kernel⟩

theorem hyp_PowerLossKeepsTheStore : (Instr.status .content []).request?.isSome = true := by decide +kernel

theorem hyp_IdentifyAndStatus : ∀ p : Port, State.reset.inService p 0x01 [] = true
    ∧ resting.inService p 0x02 [] = true := by
  intro p; cases p <;> decide +kernel

theorem hyp_RestEntered :
    (State.reset.Takes .operations 0x04 [] ∧ State.reset.store.op = .idle ∧ State.reset.level = 0
      ∧ (State.reset.plan.state = .running → State.reset.appr.standstill = true))
    ∧ (let s := { journey with appr := { journey.appr with standstill := true } }
       s.Takes .operations 0x04 [] ∧ s.plan.state = .running ∧ s.appr.standstill = true) :=
  ⟨⟨takes (by decide +kernel), by decide +kernel⟩, takes (by decide +kernel), by decide +kernel⟩

theorem hyp_ThreeWaysToWake :
    resting.Takes .operations 0x05 []
    ∧ (resting.powered = true ∧ resting.link.rest = .resting ∧ resting.doorLine = false)
    ∧ 8 ≤ { resting with odo := { resting.odo with count := 8 } }.odo.count
    ∧ { resting with odo := { resting.odo with count := 7 } }.odo.count < 8 :=
  ⟨takes (by decide +kernel), by decide +kernel⟩

theorem hyp_ClockSetAndTicked :
    (State.reset.Takes .operations 0x06 (be 1 1 ++ be 4 86399)
      ∧ State.reset.clock.minute ≠ some ((1 * 86400 + 86399) / 60))
    ∧ (cabinet.powered = true ∧ cabinet.clock.set = true)
    ∧ (let s := { cabinet with clock := ⟨true, 78059, 0⟩ }
       s.clock.set = true ∧ (run .clockTick s).clock.second / 60 ≠ s.clock.second / 60)
    ∧ { cabinet with clock := ⟨true, 172799, 0⟩ }.clock.set = true
    ∧ (State.reset.powered = true ∧ State.reset.clock.set = false) :=
  ⟨⟨takes (by decide +kernel), by decide +kernel⟩, by decide +kernel⟩

/-- A record at the ends of its ranges (2.1). -/
def edge : StopRecord :=
  ⟨1023, 4000000, some 2879, some 2879, 720, some 1023, .both, some 16, .cancelled, .pass, .call, .reverse,
   [1023, 0, 1, 2]⟩

theorem hyp_LoadStopWritesTheRecord :
    (edge.name < 1024 ∧ edge.line ≤ 4000000 ∧ (∀ m, edge.arrival = some m → m < 2880)
      ∧ (∀ m, edge.departure = some m → m < 2880) ∧ -15 ≤ edge.delay ∧ edge.delay ≤ 720
      ∧ (∀ m, edge.platform = some m → m < 1024) ∧ (∀ k, edge.length = some k → 1 ≤ k ∧ k ≤ 16)
      ∧ edge.connections.length ≤ 4 ∧ (∀ c ∈ edge.connections, c < 1024))
    ∧ (7 ≤ loaded.plan.stops.length ∧ 7 < 48 ∧ loaded.plan.stops.length < 48)
    ∧ (ready.plan.state = .ready ∧ ∀ x ∈ ready.table.seats, x.segments = [])
    ∧ loaded.Takes .operations 0x10 (edge.encode 7) ∧ State.reset.Takes .operations 0x10 (edge.encode 0xFF)
    ∧ ready.Takes .operations 0x10 (edge.encode 8) :=
  ⟨⟨by decide +kernel, by decide +kernel, fun _ h => by cases h; decide +kernel,
      fun _ h => by cases h; decide +kernel, by decide +kernel, by decide +kernel,
      fun _ h => by cases h; decide +kernel, fun _ h => by cases h; decide +kernel, by decide +kernel,
      by decide +kernel⟩,
    by decide +kernel, by decide +kernel, takes (by decide +kernel), takes (by decide +kernel),
    takes (by decide +kernel)⟩

/-- Soundness of one portion's route, as ClosePlanValidates states it (R25). -/
def sound (s : State) (po : Portion) : Prop :=
  s.plan.route po = []
  ∨ ((s.plan.route po).head? = (s.plan.calls po).head?
    ∧ (s.plan.route po).getLast? = (s.plan.calls po).getLast?
    ∧ 2 ≤ (s.plan.calls po).length
    ∧ (s.plan.route po).Pairwise (fun m n => s.plan.lineAt m < s.plan.lineAt n)
    ∧ ((s.plan.route po).flatMap fun n => match s.plan.stops[n]? with
        | some r => r.arrival.toList ++ r.departure.toList
        | none => []).Pairwise (· ≤ ·))

theorem hyp_ClosePlanValidates :
    (loaded.plan.state = .loading ∧ loaded.Takes .operations 0x11 []
      ∧ (∃ po, loaded.plan.route po ≠ []) ∧ ∀ po, sound loaded po)
    ∧ (let s := { loaded with plan := ⟨.loading, []⟩ }
       s.plan.state = .loading ∧ s.Takes .operations 0x11 [] ∧ ¬ ∃ po, s.plan.route po ≠ []) := by
  refine ⟨⟨rfl, takes (by decide +kernel), ⟨.a, by decide +kernel⟩, fun po => ?_⟩, rfl, takes (by decide +kernel), ?_⟩
  · unfold sound; cases po <;> decide +kernel
  · rintro ⟨po, h⟩; cases po <;> exact absurd rfl h

/-- A loaded plan with a stop replaced. -/
def reloaded (n : Nat) (r : StopRecord) : State := { loaded with plan := ⟨.loading, dividing.set n r⟩ }

/-- Each test of R25 fails first somewhere, for portion A or for portion B with portion A sound. -/
theorem hyp_ClosePlanValidates_failures :
    (let s := reloaded 4 (stopOf 96500 none none .noCall .call .noEvent)
     s.Takes .operations 0x11 [] ∧ (∀ q : Portion, q.code < Portion.b.code → sound s q)
      ∧ s.plan.FirstFailure .b 4 3)
    ∧ (∀ q : Portion, ¬ q.code < Portion.a.code)
    ∧ (reloaded 0 (stopOf 1200 none none .pass .call .noEvent)).plan.FirstFailure .a 0 1
    ∧ (reloaded 6 (stopOf 230000 none none .cancelled .noCall .noEvent)).plan.FirstFailure .a 6 1
    ∧ ({ state := .loading, stops := [stopOf 0 none none .call .noCall .noEvent] } : Plan).FirstFailure .a 0 2
    ∧ (reloaded 0 (stopOf 1200 (some 2) (some 1) .call .call .noEvent)).plan.FirstFailure .a 0 4
    ∧ (reloaded 3 (stopOf 140000 (some 547) none .call .noCall .noEvent)).plan.FirstFailure .a 3 4
    ∧ (∀ po, (State.reset.plan.route po) = []) := by
  refine ⟨⟨takes (by decide +kernel), ?_, 0, 7, by decide +kernel, by decide +kernel, ?_⟩, ?_, ?_, ?_, ?_, ?_, ?_, ?_⟩
  · intro q h; cases q
    · unfold sound; decide +kernel
    · exact absurd h (by decide +kernel)
    · exact absurd h (by decide +kernel)
  · rw [if_neg (by decide +kernel), if_neg (by decide +kernel), if_neg (by decide +kernel), if_neg (by decide +kernel)]
    exact ⟨[0, 1], 2, [7], by decide +kernel, by decide +kernel, by decide +kernel, by decide +kernel⟩
  · intro q; cases q <;> decide +kernel
  · refine ⟨0, 6, by decide +kernel, by decide +kernel, ?_⟩
    rw [if_pos (by decide +kernel)]
    exact ⟨rfl, rfl⟩
  · refine ⟨0, 6, by decide +kernel, by decide +kernel, ?_⟩
    rw [if_neg (by decide +kernel), if_pos (by decide +kernel)]
    exact ⟨rfl, rfl⟩
  · refine ⟨0, 0, by decide +kernel, by decide +kernel, ?_⟩
    rw [if_neg (by decide +kernel), if_neg (by decide +kernel), if_pos (by decide +kernel)]
    exact ⟨rfl, rfl⟩
  · refine ⟨0, 6, by decide +kernel, by decide +kernel, ?_⟩
    rw [if_neg (by decide +kernel), if_neg (by decide +kernel), if_neg (by decide +kernel), if_pos (by decide +kernel)]
    exact ⟨rfl, rfl⟩
  · refine ⟨0, 6, by decide +kernel, by decide +kernel, ?_⟩
    rw [if_neg (by decide +kernel), if_neg (by decide +kernel), if_neg (by decide +kernel), if_neg (by decide +kernel)]
    exact ⟨[0, 1], 2, [5, 6], by decide +kernel, by decide +kernel, by decide +kernel, by decide +kernel⟩
  · intro po; cases po <;> rfl

theorem hyp_EffectiveStop :
    4 ∉ ready.plan.route .a ∧ 2 ∈ ready.plan.calls .a ∧ 1 ∈ ready.plan.route .a
    ∧ (let pl : Plan := ⟨.ready, [stopOf 0 none none .call .noCall .noEvent, stopOf 9 none none .cancelled .noCall .noEvent]⟩
       1 ∈ pl.route .a ∧ 0 ∈ pl.calls .a ∧ ∀ m ∈ pl.calls .a, m < 1 ∧ m ≤ 0) := by decide +kernel

theorem hyp_StartJourneyAtTheOrigin : ready.plan.state = .ready ∧ ready.portion = some .a
    ∧ (ready.plan.calls .a).head? = some 0 ∧ ready.Takes .operations 0x12 [] :=
  ⟨rfl, by decide +kernel, by decide +kernel, takes (by decide +kernel)⟩

theorem hyp_ClearPlanInEveryState : State.reset.Takes .operations 0x13 [] ∧ journey.Takes .operations 0x13 [] :=
  ⟨takes (by decide +kernel), takes (by decide +kernel)⟩

/-- The journey of 5.9 just after Clear Plan (R28), with a Content hold given. -/
def cleared (h : Hold) : State :=
  let s := run (.clearPlan .operations []) journey
  { s with holds := { s.holds with content := h } }

/-- The longest and shortest requests that meet an EMPTY plan. -/
theorem hyp_ClearPlanInEveryState_empty :
    let put := be 2 999 ++ be 1 47 ++ be 1 0 ++ be 1 1 ++ be 2 65535 ++ be 2 1023 ++ be 1 1
    let commit (k : Nat) := be 2 45 ++ be 1 k
      ++ (List.replicate k (be 1 47 ++ be 1 0 ++ be 1 0 ++ be 2 65535 ++ be 2 0xFFFF)).flatten
    (cleared (.standing 45)).plan.state = .empty ∧ ((cleared (.standing 45)).seat? 45).isSome
    ∧ (cleared .absent).Takes .content 0x42 put ∧ (cleared .absent).Takes .content 0x45 (be 2 1 ++ be 2 999)
    ∧ (cleared (.standing 45)).Takes .content 0x49 (commit 1)
    ∧ (cleared (.standing 45)).Takes .content 0x49 (commit 8) :=
  ⟨rfl, by decide +kernel, takes (by decide +kernel), takes (by decide +kernel), takes (by decide +kernel),
    takes (by decide +kernel)⟩

/-- R28, R127 and R131: a commit under the hold that the Clear Plan broke is STALE with reason 2; after a
fresh Held Read it is WRONG_STATE (log entry 44). -/
theorem test_commit_after_clear_plan :
    let b := be 2 45 ++ be 1 1 ++ (be 1 2 ++ be 1 3 ++ be 1 0 ++ be 2 110 ++ be 2 0xFFFF)
    let after (h : Hold) := State.setHold .content .absent (cleared h)
    run (.commitSeat .content b) (cleared (.broken 45)) = (after (.broken 45)).replied .content 0x49 b .stale [2]
    ∧ run (.commitSeat .content b) (cleared (.standing 45)) = (after (.standing 45)).replied .content 0x49 b .wrongState [] := by
  decide +kernel

theorem hyp_AmendStopReplacesSelectedFields :
    journey.plan.stops[3]? = some (stopOf 140000 (some 570) (some 572) .call .noCall .noEvent)
    ∧ journey.plan.state = .running
    ∧ journey.Takes .operations 0x14 (be 1 3 ++ be 1 15 ++ beInt 2 (-32768) ++ be 2 0xFFFF ++ be 1 2 ++ be 1 16)
    ∧ journey.Takes .operations 0x14 (be 1 3 ++ be 1 0 ++ beInt 2 32767 ++ be 2 1023 ++ be 1 0 ++ be 1 0) :=
  ⟨by decide +kernel, rfl, takes (by decide +kernel), takes (by decide +kernel)⟩

/-- A state with one call state of its plan changed. -/
def setting (n : Nat) (po : Portion) (c : Call) (s : State) : State :=
  { s with plan := { s.plan with stops := s.plan.stops.mapIdx fun i r => if i = n then r.withCall po c else r } }

/-- The journey of 5.9 with stop 3 cancelled and C at stop 6. -/
def skipping : State :=
  { setting 3 .a .cancelled journey with appr := { journey.appr with current := some 6 } }

/-- The call state of a stop of the plan for a portion. -/
def callAt (s : State) (n : Nat) (po : Portion) : Option Call := (s.plan.stops[n]?).map fun r => r.callOf po

theorem hyp_SetCallChangesOneCallState :
    (journey.plan.state = .running ∧ journey.portion = some .a ∧ journey.appr.current = some 3
      ∧ callAt journey 3 .a = some .call ∧ 2 < 3 ∧ journey.appr.stage ≠ some .atPlatform
      ∧ 3 ≤ (journey.plan.calls .a).length ∧ (6 ∈ journey.plan.calls .a ∧ 2 < 6 ∧ 6 ≠ 3)
      ∧ journey.Takes .operations 0x15 (be 1 3 ++ be 1 0 ++ be 1 3)
      ∧ (setting 3 .a .cancelled journey).nextCall 3 = some 6
      ∧ journey.odo.position ≤ journey.plan.lineAt 6 + 400)
    ∧ journey.Takes .operations 0x15 (be 1 3 ++ be 1 0 ++ be 1 2)
    ∧ (callAt journey 5 .a = some .cancelled
      ∧ journey.odo.position < journey.plan.lineAt 5
      ∧ journey.Takes .operations 0x15 (be 1 5 ++ be 1 0 ++ be 1 2))
    ∧ (skipping.appr.current = some 6 ∧ 3 < 6 ∧ skipping.odo.position < 140000 ∧ skipping.plan.lineAt 3 = 140000
      ∧ callAt skipping 3 .a = some .cancelled
      ∧ skipping.Takes .operations 0x15 (be 1 3 ++ be 1 0 ++ be 1 2))
    ∧ (callAt journey 6 .a = some .call ∧ (3 ∈ journey.plan.calls .a ∧ 2 < 3 ∧ 3 ≠ 6)
      ∧ journey.Takes .operations 0x15 (be 1 6 ++ be 1 0 ++ be 1 3))
    ∧ (callAt journey 4 .b = some .call ∧ journey.portion ≠ some .b
      ∧ 3 ≤ (journey.plan.calls .b).length ∧ (7 ∈ journey.plan.calls .b ∧ 2 < 7 ∧ 7 ≠ 4)
      ∧ journey.Takes .operations 0x15 (be 1 4 ++ be 1 1 ++ be 1 3))
    ∧ (ready.plan.state = .ready ∧ ready.appr.last = none ∧ ready.Takes .operations 0x15 (be 1 3 ++ be 1 0 ++ be 1 3)) :=
  ⟨⟨rfl, by decide +kernel, rfl, by decide +kernel, by decide, by decide +kernel, by decide +kernel, by decide +kernel,
      takes (by decide +kernel), by decide +kernel, by decide +kernel⟩,
    takes (by decide +kernel),
    ⟨by decide +kernel, by decide +kernel, takes (by decide +kernel)⟩,
    ⟨rfl, by decide, by decide +kernel, by decide +kernel, by decide +kernel, takes (by decide +kernel)⟩,
    ⟨by decide +kernel, by decide +kernel, takes (by decide +kernel)⟩,
    ⟨by decide +kernel, by decide +kernel, by decide +kernel, by decide +kernel, takes (by decide +kernel)⟩,
    rfl, rfl, takes (by decide +kernel)⟩

/-- The journey of 5.9 with C at the last calling stop of the portion. -/
def lastAsC (last : Option Nat) : State :=
  { journey with appr := { journey.appr with current := some 6, last := last } }

/-- A cancelled C that no calling stop follows, with L none and with L before the stops still called at. -/
theorem hyp_SetCallChangesOneCallState_last :
    (journey.plan.calls .a).getLast? = some 6
    ∧ ∀ l ∈ [none, some 2], (lastAsC l).appr.stage ≠ some .atPlatform ∧ callAt (lastAsC l) 6 .a = some .call
      ∧ (3 ≤ ((lastAsC l).plan.calls .a).length ∧ 3 ∈ (lastAsC l).plan.calls .a)
      ∧ (setting 6 .a .cancelled (lastAsC l)).nextCall 6 = none
      ∧ (lastAsC l).inService .operations 0x15 (be 1 6 ++ be 1 0 ++ be 1 3) = true
      ∧ (run (.setCall .operations (be 1 6 ++ be 1 0 ++ be 1 3)) (lastAsC l)).appr.current = none := by
  decide +kernel

theorem hyp_JourneyAndCoachReads :
    (journey.plan.stops[7]?).isSome = true
    ∧ (∀ b : Byte, b = 7 ∨ b = 0xFF → journey.Takes .content 0x16 [b])
    ∧ State.reset.Takes .content 0x25 []
    ∧ (∀ b : Byte, b = 0 ∨ b = 1 ∨ b = 2 → State.reset.Takes .operations 0x34 [b]) := by
  refine ⟨by decide +kernel, ?_, takes (by decide +kernel), ?_⟩
  · rintro b (rfl | rfl) <;> exact takes (by decide +kernel)
  · rintro b (rfl | rfl | rfl) <;> exact takes (by decide +kernel)

theorem hyp_WheelThresholdsAndCounts :
    ((State.reset.plan.state = .running → State.reset.appr.standstill = true)
      ∧ State.reset.Takes .operations 0x20 (be 2 600 ++ be 1 200)
      ∧ State.reset.Takes .operations 0x20 (be 2 1250 ++ be 1 20))
    ∧ (State.reset.Takes .operations 0x21 (be 2 60 ++ be 2 20000 ++ be 2 20)
      ∧ State.reset.Takes .operations 0x21 (be 2 600 ++ be 2 1000 ++ be 2 120))
    ∧ ({ State.reset with odo := { State.reset.odo with count := 4094 } }.odo.count < 4095
      ∧ { State.reset with odo := { State.reset.odo with count := 4095 } }.odo.count = 4095
      ∧ { State.reset with bright := { State.reset.bright with count := 65534 } }.bright.count < 65535
      ∧ { State.reset with bright := { State.reset.bright with count := 65535 } }.bright.count = 65535) :=
  ⟨⟨by decide +kernel, takes (by decide +kernel), takes (by decide +kernel)⟩,
    ⟨takes (by decide +kernel), takes (by decide +kernel)⟩, by decide +kernel⟩

/-- Whether the window under way is suspect (R47), as WindowEnds states it. -/
def suspect (o : Odometer) : Bool :=
  decide (o.count = 4095 ∨ (o.exemption = false
    ∧ (o.count * o.travelPerPulse / 200 + 800 < o.prevSpeed ∨ o.prevSpeed + 800 < o.count * o.travelPerPulse / 200)))

/-- Whether the window under way agrees with the reported speed (R49), as WindowEnds states it. -/
def agree (o : Odometer) : Bool :=
  decide (o.count * o.travelPerPulse / 200 ≤ o.reported * 1000 / 36 + (o.reported * 1000 / 36 / 10 + 1000)
    ∧ o.reported * 1000 / 36 ≤ o.count * o.travelPerPulse / 200 + (o.reported * 1000 / 36 / 10 + 1000))

/-- The Odometer of 3.11 in a mode, with the count given. -/
def odoAt (m : Mode) (count : Nat) : Odometer :=
  { Odometer.reset with mode := m, count := count, speed := 91619, prevSpeed := 91619 }

theorem hyp_WindowEnds :
    journey.powered = true ∧ journey.link.rest = .awake
    ∧ suspect (odoAt .wheel 634) = false
    ∧ (let o := { Odometer.reset with fresh := true, reported := 50, failureRun := 14 }
       suspect o = false ∧ o.count = 0 ∧ 15 ≤ o.failureRun + 1)
    ∧ (let o := { odoAt .wheel 634 with fresh := true, reported := 0, disagreementRun := 24 }
       suspect o = false ∧ agree o = false ∧ 25 ≤ o.disagreementRun + 1)
    ∧ (suspect (odoAt .wheel 700) = true ∧ suspect { odoAt .wheel 4095 with exemption := true } = true)
    ∧ suspect (odoAt .guarded 634) = false
    ∧ (suspect (odoAt .guarded 690) = true ∧ { odoAt .guarded 690 with suspectRun := 8 }.suspectRun < 9)
    ∧ (suspect { odoAt .guarded 0 with suspectRun := 9 } = true)
    ∧ (let o := { odoAt .deadReckon 39 with reported := 200, agreementRun := 49 }
       agree o = true ∧ 200 ≤ o.reported ∧ o.count < 4095)
    ∧ (let o := { odoAt .hold 39 with reported := 200, agreementRun := 49, fresh := true }
       agree o = true ∧ o.mode = .hold ∧ o.fresh = true)
    ∧ (let o := { odoAt .deadReckon 39 with reported := 200, agreementRun := 48 }
       o.mode = .deadReckon ∧ o.agreementRun + 1 < 50)
    ∧ ((odoAt .hold 0).mode = .hold ∧ (odoAt .hold 0).reported < 200) := by
  decide +kernel

/-- The journey of 5.9 at S, at 2.0 m/s, with C at a stage and a departure run. -/
def coming (position : Nat) (stage : Stage) (departureRun : Nat) : State :=
  { journey with
    odo := { journey.odo with position := position, count := 14, speed := 2023, prevSpeed := 2023 }
    appr := { journey.appr with stage := some stage, departureRun := departureRun } }

/-- The cases of an evaluation of the stage of C (State.Evaluated): C stays, moves on, is left 401 m beyond
it, and is left on the third window of the departure run. -/
theorem hyp_Evaluated :
    (∀ x ∈ [(100000, Stage.cruise, 0), (139500, .cruise, 0), (140401, .berthing, 0), (140000, .atPlatform, 2)],
      let s := coming x.1 x.2.1 x.2.2
      s.powered = true ∧ s.plan.state = .running ∧ s.link.rest = .awake ∧ s.hasRoute = true
        ∧ s.appr.current = some 3 ∧ s.appr.stage = some x.2.1 ∧ x.2.1 ≠ .departed)
    ∧ (let t := run .odometerWindowEnd (coming 100000 .cruise 0)
       t.stageAfter 3 .cruise = .cruise ∧ t.odo.position ≤ journey.plan.lineAt 3 + 400)
    ∧ (let t := run .odometerWindowEnd (coming 139500 .cruise 0)
       t.stageAfter 3 .cruise = .berthing ∧ t.odo.position ≤ journey.plan.lineAt 3 + 400)
    ∧ journey.plan.lineAt 3 + 400 < (run .odometerWindowEnd (coming 140401 .berthing 0)).odo.position
    ∧ ((coming 140000 .atPlatform 2).appr.doorTaken = false
      ∧ 1389 < (run .odometerWindowEnd (coming 140000 .atPlatform 2)).odo.speed)
    ∧ (journey.nextCall 3 = some 6 ∧ 140401 ≤ journey.plan.lineAt 6 + 400 ∧ journey.nextCall 6 = none) := by
  decide +kernel

/-- R64, R67, by hand: 500 m before C at 2.0 m/s the window takes C from CRUISE to BERTHING; the third
window of the departure run leaves it. -/
theorem test_stage_moves :
    ((run .odometerWindowEnd (coming 139500 .cruise 0)).appr.stage,
     (run .odometerWindowEnd (coming 140000 .atPlatform 2)).appr.current)
      = (some .berthing, some 6) := by decide +kernel

theorem hyp_ReportedSpeedFreshAndStale :
    State.reset.Takes .operations 0x22 (be 2 65535) ∧ (coming 139500 .cruise 0).Takes .operations 0x22 (be 2 0)
    ∧ (let s := { State.reset with odo := { State.reset.odo with fresh := true, mode := .deadReckon } }
       s.powered = true ∧ s.link.rest = .awake ∧ s.odo.fresh = true ∧ s.odo.mode = .deadReckon)
    ∧ { State.reset with odo := { State.reset.odo with fresh := true } }.odo.mode ≠ .deadReckon :=
  ⟨takes (by decide +kernel), takes (by decide +kernel), by decide +kernel⟩

theorem hyp_PositionFixMovesS :
    (journey.plan.state = .running ∧ journey.portion = some .a ∧ (journey.plan.route .a).head? = some 0
      ∧ (journey.plan.route .a).getLast? = some 6 ∧ journey.plan.lineAt 0 ≤ 1200 ∧ 230000 ≤ journey.plan.lineAt 6)
    ∧ journey.Takes .operations 0x23 (be 4 1200 ++ be 2 65535)
    ∧ journey.Takes .operations 0x23 (be 4 230000 ++ be 2 0)
    ∧ (let s := { journey with odo := { journey.odo with mode := .hold, channel := .healthy } }
       s.odo.mode = .hold ∧ s.odo.channel = .healthy ∧ s.Takes .operations 0x23 (be 4 139500 ++ be 2 0))
    ∧ (let jump (f : Nat) : Int := (f : Int) - journey.odo.position
       max 50 (journey.odo.sinceFix / 50) < (jump 1200).natAbs ∧ (jump 100050).natAbs ≤ 50) :=
  ⟨by decide +kernel, takes (by decide +kernel), takes (by decide +kernel), ⟨rfl, rfl, takes (by decide +kernel)⟩,
    by decide +kernel⟩

theorem hyp_DoorLineChanges :
    (State.reset.powered = true ∧ State.reset.link.rest = .awake ∧ State.reset.doorLine ≠ true
      ∧ State.reset.plan.state ≠ .running)
    ∧ (let s := { journey with
        odo := { journey.odo with position := 140400 }, appr := { journey.appr with stage := some .approach } }
       s.doorLine ≠ true ∧ s.plan.state = .running ∧ s.hasRoute = true ∧ s.appr.current = some 3
        ∧ s.appr.stage = some .approach ∧ s.odo.position ≤ s.plan.lineAt 3 + 400)
    ∧ (journey.doorLine ≠ true ∧ journey.hasRoute = true ∧ journey.appr.stage = some .cruise
      ∧ journey.odo.mode ≠ .hold ∧ journey.appr.standstill = false
      ∧ journey.odo.position ≤ journey.plan.lineAt 3 + 400)
    ∧ (let s := { journey with odo := { journey.odo with mode := .hold } }
       s.doorLine ≠ true ∧ s.appr.stage = some .cruise ∧ s.odo.mode = .hold
        ∧ s.odo.position ≤ s.plan.lineAt 3 + 400)
    ∧ { journey with doorLine := true }.doorLine ≠ false
    ∧ (coming 140000 .atPlatform 2).appr.stage = some .atPlatform := by
  decide +kernel

theorem hyp_SetStageByCommand :
    (journey.plan.state = .running ∧ journey.hasRoute = true ∧ journey.appr.current = some 3
      ∧ journey.appr.stage = some .cruise ∧ Stage.cruise.code < 4 ∧ journey.odo.position ≤ journey.plan.lineAt 3 + 400
      ∧ journey.nextCall 3 = some 6 ∧ journey.odo.position ≤ journey.plan.lineAt 6 + 400)
    ∧ journey.Takes .operations 0x24 [4] ∧ journey.Takes .operations 0x24 [5]
    ∧ (let s := coming 140401 .berthing 0
       s.plan.lineAt 3 + 400 < s.odo.position ∧ s.coachCalls.getLast? ≠ some 3 ∧ s.Takes .operations 0x24 [4])
    ∧ (let s := { journey with appr := { journey.appr with current := some 6 } }
       s.nextCall 6 = none ∧ s.coachCalls.getLast? = some 6 ∧ s.Takes .operations 0x24 [4]
        ∧ s.Takes .operations 0x24 [5]) :=
  ⟨by decide +kernel, takes (by decide +kernel), takes (by decide +kernel),
    ⟨by decide +kernel, by decide +kernel, takes (by decide +kernel)⟩,
    by decide +kernel, by decide +kernel, takes (by decide +kernel), takes (by decide +kernel)⟩

/-- The journey of 5.9 with connections at stop 3 and 12 information notices waiting. -/
def crowded : State :=
  { journey with
    plan := ⟨.running, dividing.set 3 { stopOf 140000 (some 570) (some 572) .call .noCall .noEvent with
      connections := [400] }⟩
    seq := ⟨(List.range 12).map fun i => posted .information (i + 1), some (posted .information 20), none, none, 1⟩ }

theorem hyp_SetStageByCommand_displaces :
    crowded.Takes .operations 0x24 [4]
    ∧ crowded.plan.state = .running ∧ crowded.hasRoute = true ∧ crowded.appr.current = some 3
    ∧ crowded.odo.position ≤ crowded.plan.lineAt 3 + 400 ∧ crowded.coachCalls.getLast? ≠ some 3
    ∧ (crowded.plan.stops[3]?.map fun r => decide (r.connections ≠ [])) = some true
    ∧ (∀ n ∈ crowded.seq.all, n.stop ≠ some 3 ∧ n.kind ≠ some .shortPlatform)
    ∧ crowded.seq.active ≠ none ∧ crowded.seq.full = true ∧ crowded.seq.victim = some (posted .information 1) :=
  ⟨takes (by decide +kernel), by decide +kernel⟩

/-- A part with the number of staged entries given. -/
def staging (n : Nat) : State :=
  { State.reset with form := { State.reset.form with staged := List.replicate n ⟨1, 11, .a, false⟩ } }

theorem hyp_StageCoachAppends :
    ((staging 15).form.staged.length < 16 ∧ 16 ≤ (staging 16).form.staged.length)
    ∧ (staging 15).Takes .operations 0x30 (be 8 0 ++ be 1 1 ++ be 1 0 ++ flag false)
    ∧ (staging 16).Takes .operations 0x30 (be 8 1 ++ be 1 99 ++ be 1 2 ++ flag true)
    ∧ State.reset.Takes .operations 0x30 (be 8 1 ++ be 1 100 ++ be 1 0 ++ flag true)
    ∧ 99 < u8 (be 8 1 ++ be 1 100 ++ be 1 0 ++ flag true) 8 :=
  ⟨by decide +kernel, takes (by decide +kernel), takes (by decide +kernel), takes (by decide +kernel), by decide +kernel⟩

theorem hyp_ClearStagedEmptiesTheList : (staging 3).Takes .operations 0x31 [] := takes (by decide +kernel)

/-- The formation of 4.8 staged, this coach in portion A already or not attached. -/
def applying (attached : Bool) : State :=
  { ready with form := { ready.form with staged := eight, active := if attached then [⟨0, 13, .a, true⟩] else [] } }

theorem hyp_ApplyFormation :
    (∀ a, (applying a).form.staged ≠ [] ∧ ((applying a).form.staged.map CoachEntry.unit).Nodup
      ∧ ((applying a).form.staged.map CoachEntry.coach).Nodup ∧ (applying a).plan.state ≠ .running)
    ∧ (applying true).Takes .operations 0x32 [1] ∧ (applying false).Takes .operations 0x32 [2]
    ∧ (let own (s : State) (es : List CoachEntry) := (es.find? fun x => x.unit = s.unitId).map CoachEntry.portion
       own (applying true) (applying true).form.active = own (applying true) (applying true).form.staged
        ∧ own (applying false) (applying false).form.active ≠ own (applying false) (applying false).form.staged) :=
  ⟨fun a => by cases a <;> decide +kernel, takes (by decide +kernel), takes (by decide +kernel), by decide +kernel⟩

/-- The journey of 5.9 at stop 2 with the active and the staged formation given. -/
def regrouping (active staged : List CoachEntry) : State :=
  { journey with
    appr := { journey.appr with current := some 2, last := some 0, stage := some .atPlatform, standstill := true }
    form := { journey.form with active := active, staged := staged }
    table := ⟨seats ++ [seatOf 49 [leg 4 7 9]], 252⟩
    seq := ⟨[nextStop], none, some { nextStop with stop := some 4 }, none, 1⟩ }

/-- The portion that a formation gives this coach, as ApplyFormation states it. -/
def ownPortion (s : State) (es : List CoachEntry) : Option Portion :=
  (es.find? fun x => x.unit = s.unitId).map CoachEntry.portion

/-- The stranded segments held, as ApplyFormation counts them. -/
def strandedHeld (s : State) : Nat :=
  (s.table.seats.map fun x => (x.segments.filter Segment.stranded).length).sum

/-- While RUNNING: the portion kept; a new portion, which calls at C, with a segment newly stranded and a
journey notice flushed, or with none newly stranded; no portion; and the facing turned. -/
theorem hyp_ApplyFormation_running :
    let inB : List CoachEntry := [⟨0, 13, .b, true⟩]
    (let s := regrouping eight eight
     s.plan.state = .running ∧ s.appr.standstill = true ∧ ownPortion s s.form.active = ownPortion s s.form.staged
      ∧ s.Takes .operations 0x32 [1])
    ∧ (let s := regrouping inB eight
       s.appr.stage = some .atPlatform ∧ ownPortion s s.form.staged = some .a ∧ 2 ∈ s.plan.calls .a
        ∧ ownPortion s s.form.active ≠ ownPortion s s.form.staged ∧ strandedHeld s < strandedHeld (run (.applyFormation .operations [1]) s)
        ∧ (∃ n ∈ s.seq.slot1.toList, n.cls = .journey ∧ n.stop = some 4 ∧ 4 ∉ s.plan.route .a)
        ∧ s.Takes .operations 0x32 [1])
    ∧ (let s := { regrouping inB eight with table := ⟨[], 256⟩ }
       strandedHeld (run (.applyFormation .operations [1]) s) ≤ strandedHeld s ∧ s.Takes .operations 0x32 [1])
    ∧ (let s := regrouping eight [⟨1, 11, .a, false⟩]
       ownPortion s s.form.staged = none ∧ ownPortion s s.form.active ≠ none ∧ s.Takes .operations 0x32 [1])
    ∧ (let s := regrouping eight eight
       s.facing ≠ (run (.applyFormation .operations [2]) s).facing ∧ s.Takes .operations 0x32 [2]) :=
  ⟨⟨rfl, rfl, by decide +kernel, takes (by decide +kernel)⟩,
    ⟨rfl, by decide +kernel, by decide +kernel, by decide +kernel, by decide +kernel, by decide +kernel,
      takes (by decide +kernel)⟩,
    ⟨by decide +kernel, takes (by decide +kernel)⟩,
    ⟨by decide +kernel, by decide +kernel, takes (by decide +kernel)⟩,
    by decide +kernel, takes (by decide +kernel)⟩

theorem hyp_LeadingEndAndLayout :
    ((ready.plan.state = .running → ready.appr.standstill = true) ∧ ready.form.lead ≠ .two ∧ ready.attached = true
      ∧ State.reset.attached = false)
    ∧ ready.Takes .operations 0x33 [BitVec.ofNat 8 TrainEnd.two.code]
    ∧ ready.Takes .operations 0x33 [BitVec.ofNat 8 TrainEnd.one.code]
    ∧ ready.Takes .operations 0x35 (be 1 0 ++ be 1 1 ++ be 1 Arrow.absent.code ++ flag false)
    ∧ ready.Takes .operations 0x35 (be 1 1 ++ be 1 24 ++ be 1 Arrow.towardEndB.code ++ flag true) :=
  ⟨by decide +kernel, takes (by decide +kernel), takes (by decide +kernel), takes (by decide +kernel),
    takes (by decide +kernel)⟩

/-- A SHORT_PLATFORM notice of stop 3, its target coach 11 (7.5). -/
def short : Notice :=
  ⟨.journey, 0, some .shortPlatform, some 3, [.phrase 5, .phrase 6, .coach 11], 2, 8, 1, .stage .departed, 0, 0⟩

/-- The formation of 4.8 with platform length 2 at stop 3, and the notices given. -/
def shortened (active : Option Notice) (queue : List Notice) : State :=
  { ready with
    plan := ⟨.ready, dividing.set 3 { stopOf 140000 (some 570) (some 572) .call .noCall .noEvent with length := some 5 }⟩
    form := { ready.form with active := eight }
    seq := ⟨queue, active, none, none, 1⟩ }

/-- The turn to leading end 2, under which coach 13 stands off a platform of 5; the turn back ends the
notices: a queued one is dropped, an active one makes room for a SERVICE notice. -/
theorem hyp_LeadingEndAndLayout_turns :
    let turned (s : State) := { s with form := { s.form with lead := .two } }
    ((shortened (some short) []).attached = true ∧ (shortened (some short) []).form.lead ≠ .two
      ∧ (turned (shortened none [])).targeted short = some { short with items := [.phrase 5, .phrase 6, .coach 14] })
    ∧ (let s := turned (shortened (some (posted .service 20)) [short])
       s.Takes .operations 0x33 [1] ∧ short ∈ s.seq.queue
        ∧ (run (.setLeadingEnd .operations [1]) s).targeted short = none)
    ∧ (let s := turned (shortened (some short) [posted .service 20])
       s.Takes .operations 0x33 [1] ∧ s.level ≠ (run (.setLeadingEnd .operations [1]) s).level) :=
  ⟨by decide +kernel, ⟨takes (by decide +kernel), by decide +kernel⟩, takes (by decide +kernel), by decide +kernel⟩

/-- A payload of Define Seat. -/
def defineBytes (action num bay : Nat) : List Byte :=
  be 1 action ++ be 2 num ++ be 1 bay ++ be 1 SeatCategory.standard.code ++ be 1 CoachEnd.a.code

theorem hyp_SeatsDefinedAndRemoved :
    (State.reset.seat? 999 = none ∧ State.reset.table.seats.length < 96
      ∧ (State.reset.table.seats.filter fun x => decide (x.bay = 23) && decide (x.number ≠ 999)).length < 6
      ∧ State.reset.Takes .content 0x40 (defineBytes 0 999 23))
    ∧ (State.reset.seat? 1 = none ∧ State.reset.Takes .operations 0x40 (defineBytes 0 1 0))
    ∧ (journey.seat? 46 = some (seatOf 46 [])
      ∧ (journey.table.seats.filter fun x => decide (x.bay = 7) && decide (x.number ≠ 46)).length < 6
      ∧ journey.Takes .content 0x40 (defineBytes 0 46 7) ∧ journey.Takes .content 0x40 (defineBytes 1 46 0)) :=
  ⟨⟨by decide +kernel, by decide +kernel, by decide +kernel, takes (by decide +kernel)⟩,
    ⟨by decide +kernel, takes (by decide +kernel)⟩, by decide +kernel, by decide +kernel, takes (by decide +kernel),
    takes (by decide +kernel)⟩

theorem hyp_BlockSeatSetsTheFlag :
    (journey.seat? 46 = some (seatOf 46 []) ∧ (seatOf 46 []).blocked = false)
    ∧ journey.Takes .operations 0x41 (be 2 46 ++ flag true) ∧ journey.Takes .operations 0x41 (be 2 46 ++ flag false)
    ∧ (journey.seat? 999 = none ∧ journey.Takes .operations 0x41 (be 2 999 ++ flag true)) :=
  ⟨by decide +kernel, takes (by decide +kernel), takes (by decide +kernel), by decide +kernel, takes (by decide +kernel)⟩

/-- The journey of 5.9 keeps the pool law. -/
theorem journey_pool : journey.PoolLaw := ⟨by decide +kernel, by decide +kernel⟩

/-- The leg 0 → 3 fits in the journey of 5.9. -/
theorem journey_fits (f : Nat) (h : f < 3) : journey.LegFits f 3 := by
  refine ⟨Nat.lt_trans h (by decide +kernel), by decide +kernel, h, ?_⟩
  match f, h with
  | 0, _ => exact ⟨0, 3, by decide +kernel, by decide +kernel, by decide, fun _ => ⟨2, by decide +kernel, by decide⟩⟩
  | 1, _ => exact ⟨2, 3, by decide +kernel, by decide +kernel, by decide, fun _ => ⟨2, by decide +kernel, by decide⟩⟩
  | 2, _ => exact ⟨2, 3, by decide +kernel, by decide +kernel, by decide, fun _ => ⟨2, by decide +kernel, by decide⟩⟩

/-- A payload of Put Segment for the leg 0 → 3. -/
def putBytes (num : Nat) (replace : Bool) : List Byte :=
  be 2 num ++ be 1 0 ++ be 1 3 ++ be 1 SegmentKind.booked.code ++ be 2 401 ++ orFFFF none ++ flag replace

/-- The journey of 5.9 with a full seat 49. -/
def fullSeat : State :=
  { journey with table := ⟨seats ++ [seatOf 49 (List.replicate 8 (leg 0 1 9))], 245⟩ }

/-- The segments of a seat that the leg 2 → 3 overlaps, as PutSegmentStoresTheLeg states it. -/
def hits (x : Seat) : List Segment := x.segments.filter fun g => decide (2 < g.toStop) && decide (g.fromStop < 3)

theorem hyp_PutSegmentStoresTheLeg :
    journey.PoolLaw ∧ fullSeat.PoolLaw ∧ journey.LegFits 0 3 ∧ journey.plan.state = .running
    ∧ journey.storedFrom 0 = 2
    ∧ (journey.seat? 48 = some (seatOf 48 []) ∧ (seatOf 48 []).blocked = false ∧ hits (seatOf 48 []) = []
      ∧ 0 < journey.table.free)
    ∧ (journey.seat? 47 = some (seatOf 47 [leg 2 6 301]) ∧ hits (seatOf 47 [leg 2 6 301]) ≠ [])
    ∧ (fullSeat.seat? 49 = some (seatOf 49 (List.replicate 8 (leg 0 1 9)))
      ∧ hits (seatOf 49 (List.replicate 8 (leg 0 1 9))) = [])
    ∧ journey.Takes .content 0x42 (putBytes 48 false) ∧ journey.Takes .content 0x42 (putBytes 47 false)
    ∧ journey.Takes .content 0x42 (putBytes 47 true) ∧ fullSeat.Takes .operations 0x42 (putBytes 49 false) :=
  ⟨journey_pool, ⟨by decide +kernel, by decide +kernel⟩, journey_fits 0 (by decide), rfl, by decide +kernel,
    by decide +kernel, by decide +kernel, by decide +kernel, takes (by decide +kernel), takes (by decide +kernel),
    takes (by decide +kernel), takes (by decide +kernel)⟩

theorem hyp_SegmentsRemoved :
    (journey.seat? 999 = none ∧ journey.Takes .content 0x43 (be 2 999 ++ be 1 47)
      ∧ journey.Takes .content 0x44 (be 2 999))
    ∧ (journey.seat? 47 = some (seatOf 47 [leg 2 6 301]) ∧ (∀ g ∈ (seatOf 47 [leg 2 6 301]).segments, g.fromStop ≠ 0)
      ∧ journey.Takes .content 0x43 (be 2 47 ++ be 1 0))
    ∧ (journey.PoolLaw ∧ (seatOf 47 [leg 2 6 301]).segments.find? (fun g => g.fromStop = 2) = some (leg 2 6 301)
      ∧ journey.Takes .content 0x43 (be 2 47 ++ be 1 2) ∧ journey.Takes .content 0x44 (be 2 47))
    ∧ (journey.seat? 48 = some (seatOf 48 []) ∧ journey.Takes .content 0x44 (be 2 48)) :=
  ⟨⟨by decide +kernel, takes (by decide +kernel), takes (by decide +kernel)⟩,
    ⟨by decide +kernel, by decide +kernel, takes (by decide +kernel)⟩,
    ⟨journey_pool, by decide +kernel, takes (by decide +kernel), takes (by decide +kernel)⟩,
    by decide +kernel, takes (by decide +kernel)⟩

/-- The segments of a seat that Move Seat would carry, as MoveSeatCarriesTheRest states it. -/
def moving (x : Seat) : List Segment :=
  (x.segments.filter fun g => match journey.eff g.toStop, journey.refStop with
    | some e, some r => !g.stranded && decide (r < e)
    | _, _ => false).map fun g => { g with fromStop := journey.storedFrom g.fromStop }

theorem hyp_MoveSeatCarriesTheRest :
    (journey.PoolLaw ∧ journey.plan.state = .running ∧ journey.hasRoute = true)
    ∧ (journey.seat? 47 = some (seatOf 47 [leg 2 6 301]) ∧ journey.seat? 48 = some (seatOf 48 [])
      ∧ moving (seatOf 47 [leg 2 6 301]) = [leg 2 6 301] ∧ (seatOf 48 []).blocked = false
      ∧ (seatOf 48 []).segments.length + 1 ≤ 8
      ∧ (∀ g ∈ [leg 2 6 301], ∀ h ∈ (seatOf 48 []).segments, ¬ (g.fromStop < h.toStop ∧ h.fromStop < g.toStop)))
    ∧ moving (seatOf 48 []) = []
    ∧ journey.Takes .content 0x45 (be 2 47 ++ be 2 48) ∧ journey.Takes .content 0x45 (be 2 48 ++ be 2 47) :=
  ⟨⟨journey_pool, rfl, by decide +kernel⟩, by decide +kernel, by decide +kernel, takes (by decide +kernel),
    takes (by decide +kernel)⟩

theorem hyp_SeatReads :
    journey.seat? 47 = some (seatOf 47 [leg 2 6 301]) ∧ journey.Takes .content 0x46 (be 2 47)
    ∧ journey.Takes .content 0x48 (be 2 47) ∧ journey.Takes .operations 0x47 (be 1 23)
    ∧ journey.Takes .operations 0x47 (be 1 0) :=
  ⟨by decide +kernel, takes (by decide +kernel), takes (by decide +kernel), takes (by decide +kernel),
    takes (by decide +kernel)⟩

theorem hyp_PoolLawKept :
    let s := { journey with pending := [.clearSeat .content [0, 47]] }
    s.PoolLaw ∧ s.SeatLimits ∧ step s = .next (run (.clearSeat .content [0, 47]) journey) :=
  ⟨⟨by decide +kernel, by decide +kernel⟩,
    ⟨by decide +kernel, fun _ => Nat.le_trans (List.length_filter_le _ _) (by decide +kernel)⟩, rfl⟩

/-- The journey of 5.9 with the Content hold on seat 45. -/
def holding (h : Hold) : State := { journey with holds := { journey.holds with content := h } }

/-- A payload of Commit Seat. -/
def commitBytes (num : Nat) (legs : List Segment) : List Byte :=
  be 2 num ++ be 1 legs.length ++ legs.flatMap fun g =>
    be 1 g.fromStop ++ be 1 g.toStop ++ be 1 g.kind.code ++ be 2 g.tag ++ orFFFF g.label

theorem hyp_CommitReplacesTheList :
    ((holding (.standing 47)).PoolLaw ∧ (holding (.standing 47)).holds.get .content = .standing 47
      ∧ (holding (.standing 47)).seat? 47 = some (seatOf 47 [leg 2 6 301])
      ∧ (holding (.standing 47)).plan.state = .running ∧ (seatOf 47 [leg 2 6 301]).blocked = false
      ∧ (∀ g ∈ [leg 2 3 110], journey.LegFits g.fromStop g.toStop ∧ g.toStop < 48 ∧ g.tag < 65536
        ∧ (∀ l, g.label = some l → l < 1024))
      ∧ [leg 2 3 110].Pairwise (fun g h => ¬ (g.fromStop < h.toStop ∧ h.fromStop < g.toStop))
      ∧ (holding (.standing 47)).Takes .content 0x49 (commitBytes 47 [leg 2 3 110]))
    ∧ (holding (.standing 47)).Takes .content 0x49 (commitBytes 47 [])
    ∧ ((holding (.standing 48)).seat? 48 = some (seatOf 48 [])
      ∧ (holding (.standing 48)).Takes .content 0x49 (commitBytes 48 [])) := by
  refine ⟨⟨⟨by decide +kernel, by decide +kernel⟩, by decide +kernel, by decide +kernel, rfl, rfl, ?_, by decide +kernel,
    takes (by decide +kernel)⟩, takes (by decide +kernel), by decide +kernel, takes (by decide +kernel)⟩
  intro g hg
  obtain rfl := List.mem_singleton.mp hg
  exact ⟨journey_fits 2 (by decide), by decide, by decide, fun l h => by cases h⟩

theorem hyp_CommitNeedsStandingHold :
    (∀ h ∈ [Hold.absent, .standing 46, .broken 46, .broken 45],
      (holding h).inService .content 0x49 (commitBytes 45 []) = true ∧ (holding h).link.rest = .awake)
    ∧ (∀ h ∈ [Hold.absent, .standing 46, .broken 46, .broken 45],
      (holding h).inService .content 0x49 (commitBytes 45 [leg 0 47 65535]) = true)
    ∧ (∀ g ∈ [leg 0 47 65535], g.fromStop < 48 ∧ g.toStop < 48 ∧ g.tag < 65536 ∧ ∀ l ∈ g.label, l < 1024)
    ∧ (run (.commitSeat .content (commitBytes 47 [])) (holding (.standing 47))).table ≠ (holding (.standing 47)).table := by
  decide +kernel

theorem hyp_TakeMarksClearsTheNamed : journey.Takes .content 0x4A (be 3 (BitVec.allOnes 24).toNat)
    ∧ (holding (.standing 45)).Takes .content 0x4A (be 3 (0#24).toNat) :=
  ⟨takes (by decide +kernel), takes (by decide +kernel)⟩

/-- The journey of 7.10 with the notices given. -/
def showing (queue : List Notice) (active slot1 slot2 : Option Notice) : State :=
  { journey with seq := ⟨queue, active, slot1, slot2, 1000⟩ }

theorem hyp_PostNoticeIsPlaced :
    ((∀ n ∈ (showing [] (some nextStop) none none).seq.all, n.kind = none → n.tag ≠ 20)
      ∧ (showing [] (some nextStop) none none).Takes .operations 0x50 (postBytes .service 20 1 6 3 300)
      ∧ (Item.phrase 7).InRange)
    ∧ ((showing [] (some (posted .alarm 1)) none none).Takes .operations 0x50 (postBytes .alarm 65535 3 255 0 0)
      ∧ (∀ n ∈ (showing [] (some (posted .alarm 1)) none none).seq.all, n.kind = none → n.tag ≠ 65535))
    ∧ ((showing [] (some (posted .alarm 1)) none none).Takes .operations 0x50 (postBytes .service 20 1 6 3 3600)
      ∧ (showing [] (some (posted .alarm 1)) none none).seq.queue.length < 16)
    ∧ ((showing [] (some nextStop) none none).Takes .content 0x50 (postBytes .information 500 1 10 1 0)
      ∧ (showing [] (some nextStop) none none).seq.queue.length < 16
      ∧ ((showing [] (some nextStop) none none).seq.queue.filter fun m => decide (m.cls ≠ .service)).length < 12)
    ∧ ((showing [] none none none).Takes .content 0x50 (postBytes .information 1 1 10 15 0)
      ∧ (showing [] none none none).seq.active = none) :=
  ⟨⟨by decide +kernel, takes (by decide +kernel), by show (7 : Nat) < 1024; decide⟩,
    ⟨takes (by decide +kernel), by decide +kernel⟩, ⟨takes (by decide +kernel), by decide +kernel⟩,
    ⟨takes (by decide +kernel), by decide +kernel⟩, takes (by decide +kernel), rfl⟩

/-- A queue with no room: 16 service notices, with 4 journey notices in place of 4 of them, with 12
information notices in all. -/
theorem hyp_PostNoticeIsPlaced_full :
    let services (n : Nat) : List Notice := (List.range n).map fun i => posted .service (i + 1)
    let infos (n : Nat) : List Notice := (List.range n).map fun i => posted .information (i + 101)
    let alarm := some (posted .alarm 300)
    (let s := showing (infos 12) alarm none none
     ¬ ((s.seq.queue.filter fun m => decide (m.cls ≠ .service)).length < 12) ∧ (∀ n ∈ s.seq.all, n.tag ≠ 20)
      ∧ s.Takes .content 0x50 (postBytes .information 20 1 6 3 0))
    ∧ (let s := showing (services 16) alarm none none
       ¬ (s.seq.queue.length < 16) ∧ (∀ m ∈ s.seq.queue, m.cls = .service) ∧ (∀ n ∈ s.seq.all, n.tag ≠ 20)
        ∧ s.Takes .operations 0x50 (postBytes .service 20 1 6 3 0)
        ∧ s.Takes .content 0x50 (postBytes .information 20 1 6 3 0))
    ∧ (let s := showing (services 12 ++ infos 4) alarm none none
       ¬ (s.seq.queue.length < 16) ∧ s.seq.victim = some (posted .information 101)
        ∧ (∀ n ∈ s.seq.all, n.tag ≠ 20) ∧ s.Takes .operations 0x50 (postBytes .service 20 1 6 3 0)) :=
  ⟨⟨by decide +kernel, by decide +kernel, takes (by decide +kernel)⟩,
    ⟨by decide +kernel, by decide +kernel, by decide +kernel, takes (by decide +kernel), takes (by decide +kernel)⟩,
    by decide +kernel, by decide +kernel, by decide +kernel, takes (by decide +kernel)⟩

theorem hyp_NoticesLeaveTheirPlace :
    ((∀ m ∈ (showing [] (some nextStop) none none).seq.all, m.tag ≠ 500)
      ∧ (showing [] (some nextStop) none none).Takes .content 0x51 (be 2 500))
    ∧ (let s := showing [] (some (posted .service 500)) none none
       (posted .service 500).cls ≠ .information ∧ s.seq.all = [posted .service 500]
        ∧ s.Takes .content 0x51 (be 2 500))
    ∧ ((showing [] (some (posted .information 500)) none none).seq.active = some (posted .information 500)
      ∧ (showing [] (some (posted .information 500)) none none).Takes .content 0x51 (be 2 500))
    ∧ (let s := showing [] (some (posted .alarm 1)) (some (posted .information 500)) (some (posted .service 20))
       s.seq.slot1 = some (posted .information 500) ∧ (∀ m ∈ s.seq.active, m.tag ≠ 500)
        ∧ s.Takes .content 0x51 (be 2 500)
        ∧ s.seq.slot2 = some (posted .service 20)
        ∧ (∀ m ∈ s.seq.active.toList ++ s.seq.slot1.toList, m.tag ≠ 20) ∧ s.Takes .operations 0x51 (be 2 20))
    ∧ (let s := showing [posted .information 500] (some nextStop) none none
       (∀ m ∈ s.seq.active.toList ++ s.seq.slot1.toList ++ s.seq.slot2.toList, ¬ (m.kind = none ∧ m.tag = 500))
        ∧ s.seq.queue.find? (fun m => decide (m.kind = none) && decide (m.tag = 500)) = some (posted .information 500)
        ∧ s.Takes .content 0x51 (be 2 500))
    ∧ ((showing [] (some (posted .alarm 1)) none (some (posted .service 20))).level = 2
      ∧ (showing [] (some (posted .alarm 1)) none (some (posted .service 20))).Takes .operations 0x52 []) :=
  ⟨⟨by decide +kernel, takes (by decide +kernel)⟩, ⟨by decide +kernel, by decide +kernel, takes (by decide +kernel)⟩,
    ⟨rfl, takes (by decide +kernel)⟩,
    ⟨rfl, by decide +kernel, takes (by decide +kernel), rfl, by decide +kernel, takes (by decide +kernel)⟩,
    ⟨by decide +kernel, by decide +kernel, takes (by decide +kernel)⟩,
    by decide +kernel, takes (by decide +kernel)⟩

/-- A notice with a time limit in each place: queued, saved in slot 1 or 2, active; the last a journey notice. -/
theorem hyp_NoticesLeaveTheirPlace_expiry :
    let n : Notice := { posted .service 20 with validity := .limit 1 }
    let j : Notice := { nextStop with validity := .limit 1 }
    let i : Notice := { posted .information 21 with validity := .limit 1 }
    (let s := showing ([posted .service 19] ++ n :: []) (some (posted .alarm 1)) none none
     s.powered = true ∧ n.validity = .limit 1 ∧ s.seq.queue = [posted .service 19] ++ n :: []
      ∧ ∀ m ∈ s.seq.active.toList ++ s.seq.slot1.toList ++ s.seq.slot2.toList ++ [posted .service 19] ++ [],
        ¬ (m.kind = none ∧ m.tag = 20))
    ∧ (let s := showing [] (some (posted .alarm 1)) (some i) (some n)
       s.seq.slot1 = some i ∧ s.seq.slot2 = some n
        ∧ (∀ m ∈ s.seq.active.toList ++ s.seq.slot2.toList ++ s.seq.queue, ¬ (m.kind = none ∧ m.tag = 21))
        ∧ ∀ m ∈ s.seq.active.toList ++ s.seq.slot1.toList ++ s.seq.queue, ¬ (m.kind = none ∧ m.tag = 20))
    ∧ (let s := showing [i] (some j) none none
       s.seq.active = some j ∧ j.validity = .limit 1 ∧ j.ref = .journey .nextStop 3
        ∧ ∀ m ∈ s.seq.slot1.toList ++ s.seq.slot2.toList ++ s.seq.queue,
          ¬ (m.kind = some .nextStop ∧ m.stop = some 3)) := by
  decide +kernel

theorem hyp_DwellRunsOut :
    (let n : Notice := { nextStop with cycles := 3 }
     (showing [] (some n) none none).seq.active = some n ∧ n.cycles < 255 ∧ n.cls ≠ .alarm
      ∧ n.cycles + 1 = ((List.range 4).filter fun i => n.mask.getLsbD i).length * n.repeats)
    ∧ nextStop.cycles + 1 ≠ ((List.range 4).filter fun i => nextStop.mask.getLsbD i).length * nextStop.repeats
    ∧ ({ posted .alarm 1 with cycles := 254 }.cycles < 255 ∧ (posted .alarm 1).cls = .alarm) := by
  decide +kernel

/-- The save slots of 7.10 at 22 s keep their law. -/
theorem hyp_NoticePlacesKept :
    let s := { showing [] (some (posted .alarm 1)) (some nextStop) (some (posted .service 20)) with
      pending := [.dwellExpiry] }
    s.SlotLaw ∧ s.QueueLaw ∧ step s = .next (run .dwellExpiry { s with pending := [] }) :=
  ⟨⟨by decide +kernel, by decide +kernel, fun n h => by obtain rfl := Option.some.inj h; exact .inl rfl,
      fun n h => by obtain rfl := Option.some.inj h; exact ⟨by decide, fun h' => absurd rfl h'⟩⟩,
    ⟨by decide +kernel, by decide +kernel⟩, rfl⟩

/-- A part whose store is in the state given, with the latch given. -/
def storing (op : StoreOp) (latch : Bool) : State :=
  { State.reset with store := { Store.manufactured with op := op, latch := latch } }

/-- A payload of Write Phrase. -/
def writeBytes (phrase lang : Nat) (text : List Byte) : List Byte := be 2 phrase ++ be 1 lang ++ text

theorem hyp_PhraseProgrammed :
    (State.reset.Takes .operations 0x60 [])
    ∧ (utf8 [0x4E] = true ∧ (storing .idle true).Takes .content 0x61 (writeBytes 1023 3 [0x4E])
      ∧ (storing .idle false).Takes .content 0x61 (writeBytes 0 0 (List.replicate 120 0x4E))
      ∧ utf8 (List.replicate 120 (0x4E : Byte)) = true
      ∧ (storing .idle true).store.locks.getLsbD (1023 / 8) = false
      ∧ (0 / 8 < 8 → (storing .idle true).store.fixedLock = false)
      ∧ getEntry (storing .idle true).store.entries (4 * 1023 + 3) = none
      ∧ (storing .idle true).store.incomplete.getLsbD (1023 / 8) = false)
    ∧ ((storing (.eraseHeld erase) true).store.op = .eraseHeld erase ∧ 322 / 8 < erase.current
      ∧ (storing (.eraseHeld erase) true).Takes .content 0x61 (writeBytes 322 0 [0x4E]))
    ∧ ((storing (.programming ⟨322, 0, [0x4E], 1⟩) false).powered = true
      ∧ (storing (.heldProgramming erase ⟨322, 0, [0x4E], 1⟩) false).store.op
        = .heldProgramming erase ⟨322, 0, [0x4E], 1⟩)
    ∧ ((onOps { PortState.reset with service := .deferred 322 0 }).port .operations).service = .deferred 322 0 :=
  ⟨takes (by decide +kernel),
    ⟨by decide +kernel, takes (by decide +kernel), takes (by decide +kernel), by decide +kernel, by decide +kernel,
      by decide +kernel, by decide +kernel, by decide +kernel⟩,
    ⟨rfl, by decide, takes (by decide +kernel)⟩, by decide +kernel, by decide +kernel⟩

/-- A program under way while a page to panel 1 waits, and a Read Phrase on the Operations port. -/
theorem hyp_PhraseProgrammed_waiting :
    let op := StoreOp.programming ⟨322, 0, [0x4E], 1⟩
    let s := run .pageSend { lined with store := { Store.manufactured with op := op } }
    s.powered = true ∧ s.store.op = op
    ∧ (s.line.flight.map fun fr => decide (fr.body = .waiting (lined.compose ⟨1, .banner, 0, .idle, true, 0, false, some 6, .stopped⟩)))
      = some true
    ∧ ((run (.readPhrase .operations [0, 1, 0]) s).port .operations).service = .deferred 1 0 := by
  decide +kernel

theorem hyp_SectorsErased :
    ((storing .idle true).store.latch = true ∧ (storing .idle true).store.op = .idle
      ∧ (∀ i, 0 ≤ i → i ≤ 127 → (storing .idle true).store.locks.getLsbD i = false
        ∧ (i < 8 → (storing .idle true).store.fixedLock = false))
      ∧ (storing .idle true).Takes .content 0x62 (be 1 0 ++ be 1 127)
      ∧ (storing .idle true).Takes .content 0x62 (be 1 40 ++ be 1 40))
    ∧ ((storing (.erasing erase) false).powered = true ∧ (storing (.erasing erase) false).store.op = .erasing erase
      ∧ erase.current < erase.last ∧ ({ erase with current := 42 } : Erase).last ≤ 42)
    ∧ (storing (.erasing erase) false).Takes .content 0x63 [] ∧ (storing (.eraseHeld erase) false).Takes .content 0x64 []
    ∧ (storing (.heldProgramming erase ⟨322, 0, [0x4E], 1⟩) false).Takes .content 0x64 [] :=
  ⟨⟨rfl, rfl, fun i _ _ => ⟨by simp [storing, Store.manufactured], fun _ => rfl⟩, takes (by decide +kernel),
      takes (by decide +kernel)⟩,
    by decide +kernel, takes (by decide +kernel), takes (by decide +kernel), takes (by decide +kernel)⟩

theorem hyp_SectorsLocked :
    (let s := { State.reset with store := { Store.manufactured with fixedLock := true } }
     s.store.fixedLock = true ∧ 7 < 8 ∧ s.store.op = .idle)
    ∧ (storing (.erasing erase) false).store.op ≠ .idle
    ∧ (∀ b, b = be 1 0 ++ be 1 127 ++ flag true ∨ b = be 1 7 ++ be 1 8 ++ flag false →
      State.reset.Takes .operations 0x67 b)
    ∧ (∀ s, s = State.reset ∨ s = storing (.erasing erase) false →
      s.Takes .operations 0x67 (be 1 8 ++ be 1 8 ++ flag true) ∧ s.Takes .operations 0x68 []) := by
  refine ⟨by decide +kernel, by decide +kernel, ?_, ?_⟩
  · rintro b (rfl | rfl) <;> exact takes (by decide +kernel)
  · rintro s (rfl | rfl) <;> exact ⟨takes (by decide +kernel), takes (by decide +kernel)⟩

theorem hyp_StoreProtected :
    (let s := storing .idle true
     let t := run (.writePhrase .content (writeBytes 322 0 [0x4E])) s
     s.store.op.program? = none ∧ t.store.op.program? ≠ none
      ∧ s.inService .content 0x61 (writeBytes 322 0 [0x4E]) = true)
    ∧ (let s := storing .idle true
       let t := run (.eraseSectors .content [40, 42]) s
       s.store.op.erase? = none ∧ t.store.op.erase? ≠ none ∧ s.inService .content 0x62 [40, 42] = true)
    ∧ { State.reset with store := { Store.manufactured with fixedLock := true } }.store.fixedLock = true := by
  decide +kernel

/-- The panels of 9.9 keep their law. -/
theorem lined_law : lined.PanelLaw :=
  ⟨by decide +kernel, by decide +kernel, by decide +kernel, by decide +kernel⟩

theorem hyp_PanelsAndLanguages :
    (lined.PanelLaw
      ∧ (lined.line.panels.filter fun x => decide (x.kind = .banner) && decide (x.addr ≠ 24)).length < 4
      ∧ (∀ x ∈ lined.line.panels, x.addr ≠ 24) ∧ (∃ x ∈ lined.line.panels, x.addr = 1)
      ∧ lined.Takes .operations 0x70 (be 1 0 ++ be 1 24 ++ be 1 PanelKind.banner.code ++ be 1 0)
      ∧ lined.Takes .operations 0x70 (be 1 0 ++ be 1 1 ++ be 1 PanelKind.seatStrip.code ++ be 1 23)
      ∧ lined.Takes .operations 0x70 (be 1 1 ++ be 1 1 ++ be 1 PanelKind.doorMap.code ++ be 1 1))
    ∧ (([0, 1, 2, 3] : List (Fin 4)).Nodup ∧ State.reset.Takes .operations 0x71
        (be 1 4 ++ be 1 30 ++ be 1 0 ++ be 1 1 ++ be 1 2 ++ be 1 3)
      ∧ State.reset.Takes .operations 0x71 (be 1 1 ++ be 1 4 ++ be 1 3))
    ∧ (lined.powered = true ∧ lined.link.rest = .awake ∧ 2 ≤ lined.line.rotation.length
      ∧ lined.line.place < lined.line.rotation.length) :=
  ⟨⟨lined_law, by decide +kernel, by decide +kernel, by decide +kernel, takes (by decide +kernel),
      takes (by decide +kernel), takes (by decide +kernel)⟩,
    ⟨by decide +kernel, takes (by decide +kernel), takes (by decide +kernel)⟩, by decide +kernel⟩

/-- The panel line of 9.9 with the probe of panel 8 due. -/
def probing : State :=
  { lined with line := { lined.line with panels := panels.map fun x => { x with probe := .due } } }

theorem hyp_FramesSentToPanels :
    (lined.powered = true ∧ lined.link.rest = .awake ∧ lined.line.flight = none ∧ lined.PanelLaw
      ∧ (∀ x ∈ lined.line.panels, ¬ (x.state = .failed ∧ x.probe = .due))
      ∧ (∃ x ∈ lined.line.panels, x.stale = true ∧ x.state = .idle) ∧ lined.store.op.program? = none)
    ∧ { lined with store := { lined.store with op := .programming ⟨322, 0, [0x4E], 1⟩ } }.store.op.program? ≠ none
    ∧ (probing.PanelLaw ∧ probing.line.flight = none
      ∧ ⟨8, .seatStrip, 8, .failed, false, 3, false, some 6, .due⟩ ∈ probing.line.panels
      ∧ (∀ y ∈ probing.line.panels, y.state = .failed → y.probe = .due → 8 ≤ y.addr))
    ∧ (let s : State := { lined with
        link := { lined.link with rest := .resting }, line := { lined.line with blankFrom := some 5 } }
       s.powered = true ∧ s.link.rest = .resting ∧ s.line.flight = none ∧ s.line.blankFrom = some 5
        ∧ ⟨7, .seatStrip, 7, .idle, true, 0, false, some 6, .stopped⟩ ∈ s.line.panels
        ∧ ∀ y ∈ s.line.panels, 5 ≤ y.addr → 7 ≤ y.addr) :=
  ⟨⟨rfl, rfl, rfl, lined_law, by decide +kernel, by decide +kernel, rfl⟩, by decide +kernel,
    ⟨⟨by decide +kernel, by decide +kernel, by decide +kernel, by decide +kernel⟩, by decide +kernel⟩, by decide +kernel⟩

/-- The page of 9.9 composed in an erase that runs: the banner with C, its text read from the store; and a
banner with nothing to show. -/
theorem hyp_FramesSentToPanels_reads :
    let x : Panel := ⟨1, .banner, 0, .idle, true, 0, false, some 6, .stopped⟩
    x ∈ lined.line.panels ∧ (lined.page x).any Cell.isText = true
    ∧ { lined with store := { lined.store with op := .erasing erase } }.store.op = .erasing erase
    ∧ (State.reset.page x).any Cell.isText = false := by decide +kernel

/-- 9.9, by hand: the text of a phrase that is not in the store is blank, so the page is incomplete. -/
theorem test_page_incomplete :
    ((run .pageSend lined).line.panel? 1).map Panel.incomplete = some true := by decide +kernel

/-- The line of 9.9 with a frame in flight. -/
def inFlight (kind : FrameKind) (addr : Nat) (discard : Bool) : State :=
  { lined with line := { lined.line with flight := some ⟨kind, addr, .banner, 0, .sent [1], discard, 20⟩ } }

theorem hyp_FramesAnswered :
    ((inFlight .page 1 true).powered = true
      ∧ (inFlight .page 1 true).line.flight = some ⟨.page, 1, .banner, 0, .sent [1], true, 20⟩)
    ∧ (([] : List Byte) ≠ 0x5A :: withCrc [BitVec.ofNat 8 0x81, 0] ∧ ([] : List Byte) ≠ 0x5A :: withCrc [BitVec.ofNat 8 0x81, 1])
    ∧ (((inFlight .page 1 false).line.panel? 1).map fun x => decide (x.miss < 2)) = some true
    ∧ (((inFlight .probe 8 false).line.panel? 8).map fun x => decide (2 ≤ x.miss)) = some true
    ∧ (lined.powered = true
      ∧ ∀ y ∈ lined.line.panels, y.addr = 8 → y.state = .failed ∧ y.probe = .running 500) := by
  decide +kernel

theorem hyp_BrightnessReformed :
    State.reset.Takes .operations 0x73
      (be 1 15 ++ be 1 0 ++ be 1 8 ++ be 1 15 ++ be 1 6 ++ be 1 8 ++ be 1 15 ++ be 1 6 ++ be 1 8 ++ be 2 1439 ++ be 2 0)
    ∧ State.reset.Takes .operations 0x74 (be 1 1 ++ be 4 0 ++ be 4 4000000) ∧ State.reset.Takes .operations 0x74 (be 1 0)
    ∧ (cabinet.powered = true ∧ cabinet.overheatLine ≠ true) :=
  ⟨takes (by decide +kernel), takes (by decide +kernel), takes (by decide +kernel), by decide +kernel⟩

theorem hyp_HeatGuardMeasuresAndLocks :
    cabinet.powered = true
    ∧ (cabinet.Takes .operations 0x75 (be 2 0 ++ be 2 65535 ++ flag true ++ be 1 15 ++ be 1 15)
      ∧ cabinet.bright.guard.enabled = true ∧ State.reset.bright.guard.enabled = false
      ∧ State.reset.Takes .operations 0x75 (be 2 1800 ++ be 2 2400 ++ flag false ++ be 1 10 ++ be 1 4))
    ∧ (cabinet.bright.guard.configured = true ∧ cabinet.Takes .operations 0x76 [])
    ∧ (let s := { State.reset with bright := { State.reset.bright with guard := { guard with enabled := false } } }
       s.bright.guard.configured = true ∧ s.bright.guard.enabled = false ∧ s.Takes .operations 0x76 [])
    ∧ exec .heatWindowEnd cabinet = .next (run .heatWindowEnd cabinet) :=
  ⟨rfl, ⟨takes (by decide +kernel), rfl, rfl, takes (by decide +kernel)⟩, ⟨rfl, takes (by decide +kernel)⟩,
    ⟨rfl, rfl, takes (by decide +kernel)⟩, rfl⟩

theorem hyp_UnitReads :
    State.reset.Takes .content 0x53 [] ∧ State.reset.Takes .content 0x65 (be 2 1023 ++ be 1 3)
    ∧ (storing (.erasing erase) false).Takes .content 0x65 (be 2 0 ++ be 1 0)
    ∧ ((storing (.programming ⟨322, 0, [0x4E], 1⟩) false).Takes .content 0x65 (be 2 0 ++ be 1 0)
      ∧ (storing (.programming ⟨322, 0, [0x4E], 1⟩) false).store.op.program? ≠ none)
    ∧ State.reset.Takes .content 0x66 [] ∧ State.reset.Takes .content 0x72 [] ∧ State.reset.Takes .content 0x77 [] :=
  ⟨takes (by decide +kernel), takes (by decide +kernel), takes (by decide +kernel),
    ⟨takes (by decide +kernel), by decide +kernel⟩, takes (by decide +kernel), takes (by decide +kernel),
    takes (by decide +kernel)⟩

theorem hyp_RangesKept :
    let s := { lined with pending := [.wheelPulse] }
    step s = .next (run .wheelPulse lined) ∧ s.ReceiveLaw ∧ s.TravelLaw ∧ s.ClockLaw ∧ s.StoreLaw ∧ s.PanelLaw
      ∧ s.HeatLaw :=
  ⟨rfl, ⟨by decide +kernel, by decide +kernel⟩,
    by unfold State.TravelLaw; decide +kernel,
    by unfold State.ClockLaw; decide +kernel, ⟨rfl, by decide +kernel, fun _ h => by cases h⟩,
    by unfold State.PanelLaw; decide +kernel, by unfold State.HeatLaw; decide +kernel⟩

end Sys2Proof.Tests
end

