-- ==== Sys2Proof/Proofs/Formation.lean ====
section
/-!
Proofs of the statements about the staged formation (4.1, R73, R74): a formation entry on the wire is read
back whole, what Stage Coach's checks make of a payload, and Clear Staged.
-/
namespace Sys2Proof.Machine

/-! ### Bytes -/

theorem u32_append_right (as bs : List Byte) (i : Nat) : u32 (as ++ bs) (as.length + i) = u32 bs i := by
  simp only [u32, u16, Nat.add_assoc, u8_append_right]

/-- A number's bytes are its high bytes, then its low bytes. -/
theorem be_add (m n v : Nat) : be (m + n) v = be m (v / 256 ^ n) ++ be n v := by
  induction m with
  | zero => simp [be]
  | succ m ih =>
    have top : v / 256 ^ n / 256 ^ m = v / 256 ^ (m + n) := by
      rw [Nat.div_div_eq_div_mul, ← Nat.pow_add, Nat.add_comm]
    rw [Nat.succ_add, be, be, ih, top, List.cons_append]

/-- Four bytes carry a number up to multiples of 2 ^ 32. -/
theorem u32_be_four_mod (v : Nat) (rest : List Byte) : u32 (be 4 v ++ rest) 0 = v % 4294967296 := by
  simp [be_four, be_three, be_two, u32, u16, u8]; omega

/-- An 8-byte number is read back as its two halves are. -/
theorem u64_be_eight (v : Nat) (rest : List Byte) (h : v < 18446744073709551616) :
    u64 (be 8 v ++ rest) 0 = v := by
  have halves : be 8 v ++ rest = be 4 (v / 4294967296) ++ (be 4 v ++ rest) := by
    rw [← List.append_assoc]
    exact congrArg (· ++ rest) (be_add 4 4 v)
  have high : u32 (be 8 v ++ rest) 0 = v / 4294967296 := by
    rw [halves, u32_be_four _ _ (by omega)]
  have low : u32 (be 8 v ++ rest) 4 = v % 4294967296 := by
    have skip := u32_append_right (be 4 (v / 4294967296)) (be 4 v ++ rest) 0
    rw [be_length] at skip
    rw [halves, skip, u32_be_four_mod]
  rw [u64, high, low]
  omega

/-! ### Formation entries on the wire (4.1) -/

/-- Every portion's code is one of the three that a formation entry may carry (1.10). -/
theorem Portion.code_le_two (po : Portion) : po.code ≤ 2 := by cases po <;> decide

@[simp] theorem Portion.ofCode_code (po : Portion) : Portion.ofCode po.code = po := by cases po <;> rfl

@[simp] theorem CoachEntry.encode_length (x : CoachEntry) : x.encode.length = 11 := by
  simp [CoachEntry.encode, flag]

/-- The three bytes after the unit identity. -/
theorem CoachEntry.u8_encode (x : CoachEntry) (i : Nat) :
    u8 x.encode (8 + i) = u8 (be 1 x.coach ++ be 1 x.portion.code ++ flag x.endATo2) i := by
  have skip := u8_append_right (be 8 x.unit.toNat) (be 1 x.coach ++ be 1 x.portion.code ++ flag x.endATo2) i
  rw [be_length] at skip
  simpa only [CoachEntry.encode, List.append_assoc] using skip

theorem CoachEntry.u64_encode (x : CoachEntry) : u64 x.encode 0 = x.unit.toNat := by
  simp only [CoachEntry.encode, List.append_assoc]
  exact u64_be_eight _ _ x.unit.isLt

theorem CoachEntry.coach_encode (x : CoachEntry) (h : x.coach ≤ 99) : u8 x.encode 8 = x.coach := by
  rw [x.u8_encode 0, List.append_assoc, u8_be_one _ _ (by omega)]

theorem CoachEntry.portion_encode (x : CoachEntry) : u8 x.encode 9 = x.portion.code := by
  have bound := x.portion.code_le_two
  rw [x.u8_encode 1, be_one, List.append_assoc, List.singleton_append, u8_cons_succ, u8_be_one _ _ (by omega)]

theorem CoachEntry.orientation_encode (x : CoachEntry) : u8 x.encode 10 = x.endATo2.toNat := by
  rw [x.u8_encode 2]
  cases h : x.endATo2 <;> simp [be_one, flag]

/-- A formation entry is read back as it was written (4.1). -/
theorem entryOf_encode (x : CoachEntry) (h : x.coach ≤ 99) : entryOf x.encode = x := by
  rw [entryOf, x.u64_encode, x.coach_encode h, x.portion_encode, x.orientation_encode]
  simp

/-! ### Requests answered -/

/-- A request that its block refuses without an effect is answered with the status alone (R6, R8). -/
theorem serve_refuse {s : State} {p : Port} {k : Byte} {b : List Byte} {block : State → Answer} {st : Status}
    (h : s.Takes p k b) (hb : block (s.enter p k b) = refuse (s.enter p k b) st) :
    serve p k b id block s = s.replied p k b st [] :=
  serve_reply h.1 h.2 hb

/-- A request that changes the Formation Table alone (R8). -/
theorem serve_done_form {s : State} {p : Port} {k : Byte} {b body : List Byte} {block : State → Answer}
    {f : Formation} (h : s.Takes p k b)
    (hb : block (s.enter p k b) = done { s.enter p k b with form := f } body) :
    serve p k b id block s = State.replied { s with form := f } p k b .done body :=
  serve_reply h.1 h.2 hb

/-! ### Stage Coach (R73) -/

/-- A payload that fails one of Stage Coach's checks of form is MALFORMED, whatever the list holds. -/
theorem stageCoachBlock_malformed {b : List Byte} {s : State}
    (h : b.length ≠ 11 ∨ u8 b 8 < 1 ∨ 99 < u8 b 8 ∨ 2 < u8 b 9 ∨ 1 < u8 b 10) :
    stageCoachBlock b s = refuse s .malformed := by
  rw [stageCoachBlock, if_pos (by omega)]

/-- An entry on the wire passes the checks of form, so the room in the list decides. -/
theorem stageCoachBlock_encode {x : CoachEntry} {s : State} (h1 : 1 ≤ x.coach) (h99 : x.coach ≤ 99) :
    stageCoachBlock x.encode s =
      if 16 ≤ s.form.staged.length then refuse s .noRoom
      else done { s with form := { s.form with staged := s.form.staged ++ [x] } }
        (be 1 (s.form.staged.length + 1)) := by
  have form : x.encode.length = 11 ∧ 1 ≤ u8 x.encode 8 ∧ u8 x.encode 8 ≤ 99 ∧ u8 x.encode 9 ≤ 2
      ∧ u8 x.encode 10 ≤ 1 := by
    rw [x.coach_encode h99, x.portion_encode, x.orientation_encode]
    exact ⟨x.encode_length, h1, h99, x.portion.code_le_two, x.endATo2.toNat_le⟩
  rw [stageCoachBlock, if_neg (not_not_intro form), entryOf_encode x h99]

/-- Settles O31: an entry on the wire meets the room check alone, any other payload the check of form. -/
theorem stageCoachAppends : Obligations.StageCoachAppends := by
  constructor
  · intro s x h1 h99 b takes
    have block := stageCoachBlock_encode (s := s.enter .operations 0x30 b) h1 h99
    constructor
    · intro room
      exact congrArg Host.Outcome.next (serve_done_form takes (block.trans (if_neg (Nat.not_le.mpr room))))
    · intro full
      exact congrArg Host.Outcome.next (serve_refuse takes (block.trans (if_pos full)))
  · intro s b takes bad
    exact congrArg Host.Outcome.next (serve_refuse takes (stageCoachBlock_malformed bad))

/-! ### Clear Staged (R74) -/

/-- Settles O32: the empty payload passes the one check, and the block replaces the staged list alone. -/
theorem clearStagedEmptiesTheList : Obligations.ClearStagedEmptiesTheList := by
  intro s takes
  have emptied : emptyPayload [] (fun t : State => done { t with form := { t.form with staged := [] } } [])
      (s.enter .operations 0x31 [])
        = done { s.enter .operations 0x31 [] with form := { s.form with staged := [] } } [] := rfl
  exact congrArg Host.Outcome.next (serve_done_form takes emptied)

end Sys2Proof.Machine
end

