-- ==== Sys2Proof/Proofs/SeatChange.lean ====
section
/-!
Rules about a seat change that a command makes (R99, R111): what handing a seat on does to the holds, the
marks and the pending events, what re-forming its display does to the table and the panels, and what a
request that edits the Seat Table so leaves as it was.
-/
namespace Sys2Proof.Machine

/-! ### Pending events and replies -/

/-- An event placed in a set leaves the entries of every other kind (R9). -/
theorem filter_insertEvent {codes : List Nat} {e : Event} (h : codes.contains e.code = true) (l : List Event) :
    (insertEvent e l).filter (fun x => !codes.contains x.code) = l.filter fun x => !codes.contains x.code := by
  induction l with
  | nil => rw [insertEvent, List.filter_cons, h]; rfl
  | cons x xs ih =>
    unfold insertEvent
    split
    next same => rw [List.filter_cons, List.filter_cons, same, h]; rfl
    next =>
      split
      · rw [List.filter_cons, h]; rfl
      · rw [List.filter_cons, List.filter_cons, ih]

theorem PortState.filter_receive {codes : List Nat} {e : Event} (h : codes.contains e.code = true) (c : Bool)
    (ps : PortState) :
    (ps.receive c e).events.filter (fun x => !codes.contains x.code)
      = ps.events.filter fun x => !codes.contains x.code := by
  cases c with
  | false => rfl
  | true => exact filter_insertEvent h ps.events

theorem State.raisesOnly_raise {codes : List Nat} {e : Event} (h : codes.contains e.code = true) (s : State) :
    s.RaisesOnly codes (s.raise e) := by
  intro p
  cases p with
  | operations => exact PortState.filter_receive h _ s.link.operations
  | content => exact PortState.filter_receive h _ s.link.content

theorem Link.quiet_raise (s : State) (e : Event) : (s.raise e).link.quiet = s.link.quiet := by
  have receive (c : Bool) (ps : PortState) :
      { ps.receive c e with events := [] } = { ps with events := [] } := by cases c <;> rfl
  simp only [State.raise, Link.quiet, receive]

@[simp] theorem State.enter_events (s : State) (p q : Port) (k : Byte) (b : List Byte) :
    ((s.enter p k b).port q).events = (s.port q).events := by
  cases p <;> cases q <;> rfl

@[simp] theorem State.answer_events (s : State) (p q : Port) (k : Byte) (st : Status) (b : List Byte) :
    ((s.answer p k st b).port q).events = (s.port q).events := by
  cases p <;> cases q <;> rfl

/-- The Link Unit but for its events goes through an answer alone (R8). -/
theorem State.quiet_answer_congr {s t : State} (h : s.link.quiet = t.link.quiet) (p : Port) (k : Byte)
    (st : Status) (b : List Byte) : (s.answer p k st b).link.quiet = (t.answer p k st b).link.quiet := by
  have through (u : State) : (u.answer p k st b).link.quiet = u.link.quiet.setPort p
      { u.link.quiet.port p with service := .answered, reply := some ⟨replyKind k, st, b⟩ } := by
    cases p <;> rfl
  rw [through, through, h]

/-! ### Marks (R132, R135) -/

/-- Marks that are set raise MARKS alone, or nothing (R135). -/
theorem State.setMarks_link (bays : BitVec 24) (s : State) :
    (s.setMarks bays).link = s.link ∨ ∃ m, (s.setMarks bays).link = (s.raise (.marks m)).link := by
  unfold State.setMarks
  dsimp only
  split
  · exact .inl rfl
  · exact .inr ⟨_, rfl⟩

/-- A mark newly set leaves MARKS pending on the Content port, with the unreported marks (R135). -/
theorem State.setMarks_raises {bays : BitVec 24} {s : State} (h : bays &&& ~~~s.holds.marks ≠ 0) :
    .marks (s.setMarks bays).holds.unreported ∈ (s.setMarks bays).link.content.events := by
  unfold State.setMarks
  dsimp only
  rw [if_neg h]
  exact State.raise_mem_content _ _ rfl

/-- Marks set bay by bay (R132, R135). -/
theorem State.setMarks_marked {bays : BitVec 24} {named : Nat → Bool}
    (h : ∀ b < 24, bays.getLsbD b = named b) (s : State) : s.Marked named (s.setMarks bays) := by
  refine ⟨fun b hb => ?_, fun b hb => ?_, fun ⟨b, hb, name, clear⟩ =>
    State.setMarks_raises fun noneFresh => ?_⟩
  · rw [State.setMarks_marks, BitVec.getLsbD_or, h b hb]
  · rw [State.setMarks_unreported, BitVec.getLsbD_or, BitVec.getLsbD_and, BitVec.getLsbD_not, h b hb]
    simp [hb]
  · have bit := congrArg (fun m : BitVec 24 => m.getLsbD b) noneFresh
    rw [BitVec.getLsbD_and, BitVec.getLsbD_not, h b hb, name, clear] at bit
    simp [hb] at bit

theorem getLsbD_bayBit (bay b : Nat) (h : b < 24) : (bayBit bay).getLsbD b = decide (b = bay) := by
  simp only [bayBit, BitVec.getLsbD_shiftLeft, BitVec.getLsbD_one, h]
  grind

/-- The marks of the bays of a list of seat changes. -/
theorem getLsbD_foldl_bayBit (l : List (Nat × Nat)) (m : BitVec 24) (b : Nat) (h : b < 24) :
    (l.foldl (fun m x => m ||| bayBit x.2) m).getLsbD b = (m.getLsbD b || (l.map Prod.snd).contains b) := by
  induction l generalizing m with
  | nil => simp
  | cons x xs ih =>
    rw [List.foldl_cons, ih, BitVec.getLsbD_or, getLsbD_bayBit _ _ h, Bool.or_assoc]
    simp [beq_eq_decide]

/-! ### Seat changes handed on (R99) -/

/-- What handing seats on does to the holds and the marks (R124, R132). -/
theorem State.handedOn_handSeats (l : List (Nat × Nat)) (s : State) :
    s.HandedOn (l.map Prod.fst) (l.map Prod.snd) (s.handSeats l) := by
  constructor
  · intro p
    obtain ⟨-, ops, content⟩ := State.setMarks_frame (l.foldl (fun m x => m ||| bayBit x.2) 0)
      (s.breakHolds fun n => l.any (·.1 = n))
    have broken : (s.handSeats l).holds.get p = (s.holds.get p).breakIf fun n => l.any (·.1 = n) := by
      cases p with
      | operations => exact ops
      | content => exact content
    have named (n : Nat) : l.any (·.1 = n) = (l.map Prod.fst).contains n := by
      rw [Bool.eq_iff_iff]; simp
    rw [broken]
    cases s.holds.get p with
    | absent => rfl
    | standing n => exact congrArg (fun c : Bool => if c = true then Hold.broken n else .standing n) (named n)
    | broken n => rfl
  · refine State.setMarks_marked (s := s.breakHolds fun n => l.any (·.1 = n)) fun b hb => ?_
    rw [getLsbD_foldl_bayBit l 0 b hb]
    simp

/-- Seats handed on raise MARKS alone (R135). -/
theorem State.raisesOnly_handSeats (l : List (Nat × Nat)) (s : State) :
    s.RaisesOnly [0x10] (s.handSeats l) := by
  intro p
  rcases State.setMarks_link (l.foldl (fun m x => m ||| bayBit x.2) 0)
    (s.breakHolds fun n => l.any (·.1 = n)) with same | ⟨m, raised⟩
  · exact congrArg (fun k : Link => (k.port p).events.filter _) same
  · exact (congrArg (fun k : Link => (k.port p).events.filter _) raised).trans
      (State.raisesOnly_raise (e := .marks m) rfl s p)

theorem Link.quiet_handSeats (l : List (Nat × Nat)) (s : State) : (s.handSeats l).link.quiet = s.link.quiet := by
  rcases State.setMarks_link (l.foldl (fun m x => m ||| bayBit x.2) 0)
    (s.breakHolds fun n => l.any (·.1 = n)) with same | ⟨m, raised⟩
  · exact congrArg Link.quiet same
  · exact (congrArg Link.quiet raised).trans (Link.quiet_raise s (.marks m))

theorem State.handSeats_table (l : List (Nat × Nat)) (s : State) : (s.handSeats l).table = s.table :=
  (congrArg State.table (State.handSeats_frame l s) :)

theorem State.handSeats_line (l : List (Nat × Nat)) (s : State) : (s.handSeats l).line = s.line :=
  (congrArg State.line (State.handSeats_frame l s) :)

/-! ### Displays re-formed (R111) -/

/-- The panels that a trigger names are stale after it (R193). -/
theorem State.staleAt_staleWhere (s : State) (named : Panel → Bool) : (s.staleWhere named).StaleAt named := by
  intro y hy name
  obtain ⟨x, -, rfl⟩ := List.mem_map.mp hy
  by_cases h : named x
  · rw [if_pos h]
  · rw [if_neg h] at name
    exact absurd name h

theorem PanelLine.unmarked_staleWhere (s : State) (named : Panel → Bool) :
    (s.staleWhere named).line.unmarked = s.line.unmarked := by
  simp only [State.staleWhere, PanelLine.unmarked, List.map_map, PanelLine.mk.injEq, and_true]
  refine List.map_congr_left fun x _ => ?_
  rw [Function.comp_apply]
  split <;> rfl

theorem PanelLine.unmarked_reform (s : State) (named : Seat → Bool) :
    (s.reform named).line.unmarked = s.line.unmarked :=
  PanelLine.unmarked_staleWhere _ _

theorem SeatTable.undisplayed_reform (s : State) (named : Seat → Bool) :
    (s.reform named).table.undisplayed = s.table.undisplayed := by
  simp only [State.reform, State.staleStrips, State.staleWhere_table, SeatTable.undisplayed, List.map_map,
    SeatTable.mk.injEq, and_true]
  refine List.map_congr_left fun x _ => ?_
  rw [Function.comp_apply]
  split <;> rfl

/-- Re-forming a seat's display, where the seat's last display is still one it has in s. -/
theorem State.reformed_reform {s m : State} {num : Nat}
    (kept : ∀ x ∈ m.table.seats, x.number = num →
      ∃ z ∈ s.table.seats, z.number = num ∧ z.lastDisplay = x.lastDisplay) :
    s.Reformed (fun y => [num].contains y.number) (m.reform fun x => x.number = num) := by
  intro y hy name
  obtain ⟨x, hx, rfl⟩ := List.mem_map.mp hy
  by_cases number : x.number = num
  · rw [if_pos (decide_eq_true number)]
    refine ⟨rfl, fun differs => ?_⟩
    obtain ⟨z, hz, same, last⟩ := kept x hx number
    have changed : x.lastDisplay ≠ some (m.display x) := last ▸ differs z hz (same.trans number.symm)
    have strip : x.bay ∈ (m.table.seats.filter fun x =>
        decide (x.number = num) && decide (x.lastDisplay ≠ some (m.display x))).map Seat.bay :=
      List.mem_map_of_mem (List.mem_filter.mpr ⟨hx, by simp [number, changed]⟩)
    intro panel hp named
    obtain ⟨kind, param⟩ := Bool.and_eq_true_iff.mp named
    refine State.staleAt_staleWhere _ _ panel hp (Bool.and_eq_true_iff.mpr ⟨kind, ?_⟩)
    rw [of_decide_eq_true param]
    exact List.contains_iff_mem.mpr strip
  · rw [if_neg (by simp [number])] at name
    exact absurd name (by simp [number])

/-! ### Requests that change a seat -/

/-- A seat change changes nothing of the table but last displays (R99, R111). -/
theorem SeatTable.undisplayed_changeSeat (s : State) (num : Nat) (bays : List Nat) :
    (s.changeSeat num bays).table.undisplayed = s.table.undisplayed := by
  rw [State.changeSeat, SeatTable.undisplayed_reform, State.handSeats_table]

theorem State.changeSeat_free (s : State) (num : Nat) (bays : List Nat) :
    (s.changeSeat num bays).table.free = s.table.free :=
  (congrArg SeatTable.free (SeatTable.undisplayed_changeSeat s num bays) :)

/-- The state after a request that edits the Seat Table, hands one seat on and re-forms its display. -/
def State.seatChanged (s : State) (p : Port) (k : Byte) (b : List Byte) (tb : SeatTable) (num bay : Nat)
    (body : List Byte) : State :=
  (State.changeSeat num [bay] { s.enter p k b with table := tb }).answer p k .done body

/-- A request whose block edits the Seat Table so (R8). -/
theorem serve_seatChanged {s : State} {p : Port} {k : Byte} {b body : List Byte} {block : State → Answer}
    {tb : SeatTable} {num bay : Nat} (h : s.Takes p k b)
    (hb : block (s.enter p k b) = done (State.changeSeat num [bay] { s.enter p k b with table := tb }) body) :
    serve p k b id block s = s.seatChanged p k b tb num bay body :=
  serve_reply h.1 h.2 hb

section SeatChanged

variable {s : State} {p : Port} {k : Byte} {b : List Byte} {tb : SeatTable} {num bay : Nat} {body : List Byte}

theorem State.seatChanged_table :
    (s.seatChanged p k b tb num bay body).table.undisplayed = tb.undisplayed :=
  SeatTable.undisplayed_changeSeat { s.enter p k b with table := tb } num [bay]

theorem State.seatChanged_free : (s.seatChanged p k b tb num bay body).table.free = tb.free :=
  State.changeSeat_free { s.enter p k b with table := tb } num [bay]

theorem State.handed_seatChanged
    (kept : ∀ x ∈ tb.seats, x.number = num →
      ∃ z ∈ s.table.seats, z.number = num ∧ z.lastDisplay = x.lastDisplay) :
    s.Handed [num] [bay] (s.seatChanged p k b tb num bay body) := by
  refine ⟨?_, fun q => ?_, ?_⟩
  · obtain ⟨holds, marks, unreported, raised⟩ :=
      State.handedOn_handSeats [(num, bay)] { s.enter p k b with table := tb }
    refine ⟨holds, marks, unreported, fun fresh => ?_⟩
    have events := State.answer_events
      (State.changeSeat num [bay] { s.enter p k b with table := tb }) p .content k .done body
    exact events ▸ raised fresh
  · have raises := State.raisesOnly_handSeats [(num, bay)] { s.enter p k b with table := tb } q
    have entered := State.enter_events s p q k b
    rw [State.seatChanged, State.answer_events]
    exact raises.trans (congrArg _ entered)
  · refine State.reformed_reform (m := State.handSeats [(num, bay)] { s.enter p k b with table := tb }) ?_
    rw [State.handSeats_table]
    exact kept

theorem State.seatEventOnly_seatChanged : s.SeatEventOnly (s.seatChanged p k b tb num bay body) := by
  constructor
  · rw [State.seatChanged, State.answer_line, State.changeSeat, PanelLine.unmarked_reform,
      State.handSeats_line]
    rfl
  · have frame := State.handSeats_frame [(num, bay)] { s.enter p k b with table := tb }
    exact congrArg (fun t : State =>
      { t with table := s.table, holds := s.holds, link := s.link, line := s.line }) frame

theorem State.answers_seatChanged : s.Answers p k b .done body (s.seatChanged p k b tb num bay body) :=
  State.quiet_answer_congr (Link.quiet_handSeats [(num, bay)] { s.enter p k b with table := tb }) p k .done body

end SeatChanged

/-! ### Edits of one seat record -/

/-- The Seat Table with one seat's record edited and the free count given. -/
def SeatTable.edit (tb : SeatTable) (num : Nat) (f : Seat → Seat) (free : Nat) : SeatTable :=
  ⟨tb.seats.map fun x => if x.number = num then f x else x, free⟩

/-- An edit that leaves last displays: the record it makes has the last display it had. -/
theorem SeatTable.edit_keeps_lastDisplay {tb : SeatTable} {num free : Nat} {f : Seat → Seat}
    (last : ∀ x, (f x).lastDisplay = x.lastDisplay) :
    ∀ y ∈ (tb.edit num f free).seats, y.number = num →
      ∃ z ∈ tb.seats, z.number = num ∧ z.lastDisplay = y.lastDisplay := by
  intro y hy name
  obtain ⟨x, hx, rfl⟩ := List.mem_map.mp hy
  by_cases h : x.number = num
  · rw [if_pos h]
    exact ⟨x, hx, h, (last x).symm⟩
  · rw [if_neg h] at name
    exact absurd name h

@[simp] theorem State.enter_seat? (s : State) (p : Port) (k : Byte) (b : List Byte) (num : Nat) :
    (s.enter p k b).seat? num = s.seat? num := rfl

theorem State.seat?_number {s : State} {num : Nat} {x : Seat} (h : s.seat? num = some x) : x.number = num := by
  simpa using List.find?_some h

/-- One list replaced: the segments held change by those of that seat alone (R93, R98). -/
theorem segmentsHeld_replace {seats : List Seat} (nodup : (seats.map Seat.number).Nodup) {x : Seat}
    (hx : x ∈ seats) (segs : List Segment) :
    segmentsHeld (seats.map fun y => { y with segments := if y.number = x.number then segs else y.segments })
      + x.segments.length = segmentsHeld seats + segs.length := by
  obtain ⟨front, back, rfl⟩ := List.append_of_mem hx
  have others : ∀ y ∈ front ++ back, y.number ≠ x.number := by
    have apart := (List.nodup_middle (l₁ := front.map Seat.number) (l₂ := back.map Seat.number)).mp
      (by simpa using nodup)
    intro y hy same
    refine (List.nodup_cons.mp apart).1 ?_
    rw [← List.map_append, ← same]
    exact List.mem_map_of_mem hy
  have held (part : List Seat) (h : ∀ y ∈ part, y.number ≠ x.number) :
      segmentsHeld (part.map fun y => { y with segments := if y.number = x.number then segs else y.segments })
        = segmentsHeld part := by
    rw [segmentsHeld, List.map_map]
    refine congrArg List.sum (List.map_congr_left fun y hy => ?_)
    rw [Function.comp_apply, if_neg (h y hy)]
  have inFront := held front fun y hy => others y (List.mem_append_left _ hy)
  have inBack := held back fun y hy => others y (List.mem_append_right _ hy)
  simp only [segmentsHeld, List.map_append, List.map_cons, List.sum_append, List.sum_cons, if_true]
    at inFront inBack ⊢
  omega

/-- One list replaced: the records it gives up return to the pool (R98). -/
theorem State.setSegments_table {s : State} {num : Nat} {x : Seat}
    (nodup : (s.table.seats.map Seat.number).Nodup) (hx : s.seat? num = some x) (segs : List Segment) :
    (s.setSegments num segs).table
      = s.table.edit num (fun y => { y with segments := segs })
          (s.table.free + x.segments.length - segs.length) := by
  have held := segmentsHeld_replace nodup (List.mem_of_find?_eq_some hx) segs
  rw [State.seat?_number hx] at held
  simp only [State.setSegments, State.relist, SeatTable.edit, SeatTable.mk.injEq]
  constructor
  · refine List.map_congr_left fun y _ => ?_
    split <;> rfl
  · omega

end Sys2Proof.Machine
end

