-- ==== Sys2Proof/Proofs/SeatTable.lean ====
section
/-!
Proofs of the statements about the Seat Table (chapter 5): Block Seat (R96), Remove Segment (R105) and Clear
Seat (R106).
-/
namespace Sys2Proof.Machine

/-! ### Payloads -/

/-- A seat number at the front of a payload is read back. -/
theorem u16_seatNumber {num : Nat} (h999 : num ≤ 999) (rest : List Byte) : u16 (be 2 num ++ rest) 0 = num :=
  u16_be_two num rest (by omega)

theorem seatNumberOk_of_range {num : Nat} (h1 : 1 ≤ num) (h999 : num ≤ 999) : seatNumberOk num = true := by
  simp [seatNumberOk, h1, h999]

/-- The byte after a seat number. -/
theorem u8_after_seatNumber (num : Nat) (rest : List Byte) : u8 (be 2 num ++ rest) 2 = u8 rest 0 := by
  have skip := u8_append_right (be 2 num) rest 0
  rwa [be_length] at skip

/-! ### Block Seat (R96) -/

/-- A payload of Block Seat passes the check of form, so the seat decides. -/
theorem blockSeatBlock_encode {num : Nat} {value : Bool} {s : State} (h1 : 1 ≤ num) (h999 : num ≤ 999) :
    blockSeatBlock (be 2 num ++ flag value) s
      = (s.seat? num).elim (refuse s .notFound) fun x => done (s.blockSeat x value) (be 1 x.segments.length) := by
  have number := u16_seatNumber h999 (flag value)
  have sent : u8 (be 2 num ++ flag value) 2 = value.toNat := by
    rw [u8_after_seatNumber]
    cases value <;> rfl
  have form : (be 2 num ++ flag value).length = 3 ∧ seatNumberOk (u16 (be 2 num ++ flag value) 0) = true
      ∧ u8 (be 2 num ++ flag value) 2 ≤ 1 := by
    rw [number, sent]
    exact ⟨by simp [flag], seatNumberOk_of_range h1 h999, value.toNat_le⟩
  rw [blockSeatBlock, if_neg (not_not_intro form), number, sent]
  cases s.seat? num with
  | none => rfl
  | some x => cases value <;> rfl

/-- Settles O36: the flag held decides whether Block Seat changes the seat or only answers. -/
theorem blockSeatSetsTheFlag : Obligations.BlockSeatSetsTheFlag := by
  intro s num value h1 h999 b takes
  have block := blockSeatBlock_encode (value := value) (s := s.enter .operations 0x41 b) h1 h999
  constructor
  · intro absent
    rw [State.enter_seat?, absent, Option.elim_none] at block
    exact congrArg Host.Outcome.next (serve_refuse takes block)
  intro x found
  have number := State.seat?_number found
  rw [State.enter_seat?, found, Option.elim_some] at block
  constructor
  · intro same
    have kept : (s.enter .operations 0x41 b).blockSeat x value = s.enter .operations 0x41 b := if_pos same
    rw [kept] at block
    exact congrArg Host.Outcome.next (serve_reply takes.1 takes.2 block)
  · intro differs
    have edited : (s.enter .operations 0x41 b).blockSeat x value
        = State.changeSeat num [x.bay] { s.enter .operations 0x41 b with
            table := s.table.edit num (fun y => { y with blocked := value }) s.table.free } := by
      rw [State.blockSeat, if_neg differs, number]
      rfl
    rw [edited] at block
    exact ⟨_, congrArg Host.Outcome.next (serve_seatChanged takes block), State.seatChanged_table,
      State.handed_seatChanged (SeatTable.edit_keeps_lastDisplay fun _ => rfl),
      State.seatEventOnly_seatChanged, State.answers_seatChanged⟩

/-! ### Remove Segment (R105) and Clear Seat (R106) -/

/-- A payload of Remove Segment passes the check of form, so the seat and its list decide. -/
theorem removeSegmentBlock_encode {num f : Nat} {s : State} (h1 : 1 ≤ num) (h999 : num ≤ 999) (hf : f < 48) :
    removeSegmentBlock (be 2 num ++ be 1 f) s
      = (s.seat? num).elim (refuse s .notFound) fun x =>
          (x.segments.find? fun g => g.fromStop = f).elim (refuse s .notFound) fun g =>
            done (s.removeSegment x f) (be 2 g.tag ++ be 1 g.kind.code) := by
  have number := u16_seatNumber h999 (be 1 f)
  have stop : u8 (be 2 num ++ be 1 f) 2 = f := by
    have read := u8_be_one f [] (by omega)
    rwa [List.append_nil, ← u8_after_seatNumber num] at read
  have form : (be 2 num ++ be 1 f).length = 3 ∧ seatNumberOk (u16 (be 2 num ++ be 1 f) 0) = true
      ∧ u8 (be 2 num ++ be 1 f) 2 < 48 := by
    rw [number, stop]
    exact ⟨by simp, seatNumberOk_of_range h1 h999, hf⟩
  rw [removeSegmentBlock, if_neg (not_not_intro form), number, stop]
  cases s.seat? num with
  | none => rfl
  | some x => cases h : x.segments.find? (fun g => decide (g.fromStop = f)) <;> simp [h]

/-- A payload of Clear Seat passes the check of form, so the seat decides. -/
theorem clearSeatBlock_encode {num : Nat} {s : State} (h1 : 1 ≤ num) (h999 : num ≤ 999) :
    clearSeatBlock (be 2 num) s
      = (s.seat? num).elim (refuse s .notFound) fun x =>
          done (s.clearSeat x) (be 1 x.segments.length ++ be 2 (s.clearSeat x).table.free) := by
  have number : u16 (be 2 num) 0 = num := by
    have read := u16_seatNumber h999 []
    rwa [List.append_nil] at read
  have form : seatPayloadOk (be 2 num) = true := by
    simp [seatPayloadOk, number, seatNumberOk_of_range h1 h999]
  rw [clearSeatBlock, if_neg (not_not_intro form), number]
  cases s.seat? num <;> rfl

/-- The first segment that a search finds is the one that leaves the list. -/
theorem eraseP_eq_erase_of_find? {q : Segment → Bool} {l : List Segment} {g : Segment}
    (h : l.find? q = some g) : l.eraseP q = l.erase g := by
  obtain ⟨hg, front, back, rfl, before⟩ := List.find?_eq_some_iff_append.mp h
  have apart : g ∉ front := fun mem => by simpa [hg] using before g mem
  rw [List.eraseP_append_right _ fun y hy => by simpa using before y hy, List.erase_append_right _ apart]
  simp [hg]

/-- A request whose block gives the seat another segment list and hands it on (R98, R99). -/
theorem serve_setSegments {s : State} {p : Port} {k : Byte} {b body : List Byte} {block : State → Answer}
    {num : Nat} {x : Seat} {segs : List Segment} (h : s.Takes p k b)
    (nodup : (s.table.seats.map Seat.number).Nodup) (found : s.seat? num = some x)
    (hb : block (s.enter p k b)
      = done (((s.enter p k b).setSegments x.number segs).changeSeat x.number [x.bay]) body) :
    serve p k b id block s = s.seatChanged p k b
      (s.table.edit num (fun y => { y with segments := segs })
        (s.table.free + x.segments.length - segs.length)) num x.bay body := by
  refine serve_seatChanged h (hb.trans ?_)
  rw [← State.setSegments_table nodup found segs, State.seat?_number found]
  rfl

/-- Remove Segment of a segment that the seat holds (R105). -/
theorem serve_removeSegment {s : State} {p : Port} {num f : Nat} {x : Seat} {g : Segment}
    (nodup : (s.table.seats.map Seat.number).Nodup) (h1 : 1 ≤ num) (h999 : num ≤ 999)
    (found : s.seat? num = some x) (hf : f < 48) (hg : x.segments.find? (fun g => g.fromStop = f) = some g)
    (takes : s.Takes p 0x43 (be 2 num ++ be 1 f)) :
    serve p 0x43 (be 2 num ++ be 1 f) id (removeSegmentBlock (be 2 num ++ be 1 f)) s
      = s.seatChanged p 0x43 (be 2 num ++ be 1 f)
          (s.table.edit num (fun y => { y with segments := x.segments.erase g }) (s.table.free + 1))
          num x.bay (be 2 g.tag ++ be 1 g.kind.code) := by
  have mem := List.mem_of_find?_eq_some hg
  have oneFree : s.table.free + x.segments.length - (x.segments.erase g).length = s.table.free + 1 := by
    have pos := List.length_pos_of_mem mem
    rw [List.length_erase_of_mem mem]
    omega
  rw [← oneFree]
  refine serve_setSegments takes nodup found ((removeSegmentBlock_encode h1 h999 hf).trans ?_)
  rw [State.enter_seat?, found, Option.elim_some, hg, Option.elim_some, State.removeSegment,
    eraseP_eq_erase_of_find? hg]

/-- Clear Seat of a seat that holds segments (R106). -/
theorem serve_clearSeat {s : State} {p : Port} {num : Nat} {x : Seat}
    (nodup : (s.table.seats.map Seat.number).Nodup) (h1 : 1 ≤ num) (h999 : num ≤ 999)
    (found : s.seat? num = some x) (held : x.segments ≠ []) (takes : s.Takes p 0x44 (be 2 num)) :
    serve p 0x44 (be 2 num) id (clearSeatBlock (be 2 num)) s
      = s.seatChanged p 0x44 (be 2 num)
          (s.table.edit num (fun y => { y with segments := [] }) (s.table.free + x.segments.length))
          num x.bay (be 1 x.segments.length ++ be 2 (s.table.free + x.segments.length)) := by
  refine serve_setSegments takes nodup found ((clearSeatBlock_encode h1 h999).trans ?_)
  have cleared : (s.enter p 0x44 (be 2 num)).clearSeat x
      = ((s.enter p 0x44 (be 2 num)).setSegments x.number []).changeSeat x.number [x.bay] :=
    if_neg (by simpa using held)
  have free : ((s.enter p 0x44 (be 2 num)).setSegments x.number []).table.free
      = s.table.free + x.segments.length := by
    rw [State.seat?_number found, State.setSegments_table (s := s.enter p 0x44 (be 2 num)) nodup found]
    rfl
  rw [State.enter_seat?, found, Option.elim_some, cleared, State.changeSeat_free, free]

/-- Settles O38: a segment or a seat that is not found is refused; what is found leaves the list, and the
pool law says what the pool gets back. -/
theorem segmentsRemoved : Obligations.SegmentsRemoved := by
  constructor
  · intro s p num f h1 h999 hf
    constructor
    · intro takes absent
      refine congrArg Host.Outcome.next (serve_refuse takes ((removeSegmentBlock_encode h1 h999 hf).trans ?_))
      rcases absent with noSeat | ⟨x, found, noSegment⟩
      · rw [State.enter_seat?, noSeat, Option.elim_none]
      · have noneFound : x.segments.find? (fun g => g.fromStop = f) = none :=
          List.find?_eq_none.mpr fun g hg => by simpa using noSegment g hg
        rw [State.enter_seat?, found, Option.elim_some, noneFound, Option.elim_none]
    · intro takes noSeat
      exact congrArg Host.Outcome.next (serve_refuse takes
        ((clearSeatBlock_encode h1 h999).trans (by rw [State.enter_seat?, noSeat, Option.elim_none])))
  · intro s p num x ⟨_, nodup⟩ h1 h999 found
    refine ⟨fun f g hf hg takes => ?_, fun held takes => ?_, fun empty takes => ?_⟩
    · exact ⟨_, congrArg Host.Outcome.next (serve_removeSegment nodup h1 h999 found hf hg takes),
        State.seatChanged_table, State.handed_seatChanged (SeatTable.edit_keeps_lastDisplay fun _ => rfl),
        State.seatEventOnly_seatChanged, State.answers_seatChanged⟩
    · refine ⟨_, congrArg Host.Outcome.next (serve_clearSeat nodup h1 h999 found held takes),
        State.seatChanged_table, State.handed_seatChanged (SeatTable.edit_keeps_lastDisplay fun _ => rfl),
        State.seatEventOnly_seatChanged, ?_⟩
      rw [State.seatChanged_free]
      exact State.answers_seatChanged
    · refine congrArg Host.Outcome.next (serve_reply takes.1 takes.2 ((clearSeatBlock_encode h1 h999).trans ?_))
      have kept : (s.enter p 0x44 (be 2 num)).clearSeat x = s.enter p 0x44 (be 2 num) :=
        if_pos (by simp [empty])
      rw [State.enter_seat?, found, Option.elim_some, kept, empty]
      rfl

end Sys2Proof.Machine
end

section
/-!
Proofs of the statements about the Hold and Mark Unit (chapter 6): Take Marks (R134).
-/
namespace Sys2Proof.Machine

/-! ### Payloads of Take Marks (6.1) -/

/-- A clear set on the wire is read back (R134). -/
theorem clearSet_be_three (named : BitVec 24) : clearSet (be 3 named.toNat) = named := by
  have read := u24_be_three named.toNat [] named.isLt
  rw [List.append_nil] at read
  rw [clearSet, read, BitVec.ofNat_toNat, BitVec.setWidth_eq]

/-- A clear set of three bytes passes the check of form, and Take Marks has no other (R134). -/
theorem takeMarksBlock_encode (p : Port) (named : BitVec 24) (s : State) :
    takeMarksBlock p (be 3 named.toNat) s
      = done (s.takeMarks named) (be 3 s.holds.marks.toNat
          ++ be 3 (s.takeMarks named).holds.marks.toNat ++ (s.holds.get p).encode) := by
  rw [takeMarksBlock, if_neg (not_not_intro (be_length 3 named.toNat)), clearSet_be_three]

/-! ### Take Marks (R134) -/

/-- Clearing marks and the request's place at the head of its queue (R3) do not touch each other. -/
theorem State.takeMarks_enter (s : State) (p : Port) (k : Byte) (b : List Byte) (named : BitVec 24) :
    (s.enter p k b).takeMarks named = (s.takeMarks named).enter p k b := rfl

/-- Take Marks in service (R134). -/
theorem serve_takeMarks {s : State} {p : Port} {named : BitVec 24} (takes : s.Takes p 0x4A (be 3 named.toNat)) :
    serve p 0x4A (be 3 named.toNat) id (takeMarksBlock p (be 3 named.toNat)) s
      = (s.takeMarks named).replied p 0x4A (be 3 named.toNat) .done
          (be 3 s.holds.marks.toNat ++ be 3 (s.takeMarks named).holds.marks.toNat
            ++ (s.holds.get p).encode) := by
  have block := takeMarksBlock_encode p named (s.enter p 0x4A (be 3 named.toNat))
  rw [State.takeMarks_enter] at block
  exact serve_reply takes.1 takes.2 block

/-- Settles O44: the reply's last field is the hold as it goes on the wire, state by state. -/
theorem takeMarksClearsTheNamed : Obligations.TakeMarksClearsTheNamed := by
  intro s p named takes
  refine (congrArg Host.Outcome.next (serve_takeMarks takes)).trans ?_
  cases s.holds.get p <;> rfl

end Sys2Proof.Machine
end

section
/-!
What an event keeps: the laws of Sys2Proof/Safety.lean, block by block, and what the events of chapters 2 to 7
leave alone.  One relation says it, and every shared operation of the model is shown to stand in it once.
-/
namespace Sys2Proof.Machine

/-! ### The relations -/

/-- The laws that hold before an event hold after it. -/
structure State.KeepsLaws (s t : State) : Prop where
  pool : s.PoolLaw ∧ s.SeatLimits → t.PoolLaw ∧ t.SeatLimits
  places : s.SlotLaw ∧ s.QueueLaw → t.SlotLaw ∧ t.QueueLaw
  receive : s.ReceiveLaw → t.ReceiveLaw
  travel : s.TravelLaw → t.TravelLaw
  clock : s.ClockLaw → t.ClockLaw
  store : s.StoreLaw → t.StoreLaw
  panels : s.PanelLaw → t.PanelLaw
  heat : s.HeatLaw → t.HeatLaw

/-- Nothing differs but what the events of chapters 1 to 7 and 9 touch: the store, the Brightness Unit, the
overheat line, power, the identity and the commands that wait are as before. -/
def State.JourneyFrame (s t : State) : Prop :=
  { t with
    doorLine := s.doorLine, link := s.link, plan := s.plan, clock := s.clock, odo := s.odo
    appr := s.appr, form := s.form, table := s.table, holds := s.holds, seq := s.seq, line := s.line } = s

/-- An event that leaves the store and the Brightness Unit alone and keeps the laws. -/
structure State.JourneyStep (s t : State) : Prop where
  laws : s.KeepsLaws t
  frame : s.JourneyFrame t

theorem State.KeepsLaws.refl (s : State) : s.KeepsLaws s := ⟨id, id, id, id, id, id, id, id⟩

theorem State.KeepsLaws.trans {s t u : State} (h : s.KeepsLaws t) (k : t.KeepsLaws u) : s.KeepsLaws u :=
  ⟨k.pool ∘ h.pool, k.places ∘ h.places, k.receive ∘ h.receive, k.travel ∘ h.travel, k.clock ∘ h.clock,
    k.store ∘ h.store, k.panels ∘ h.panels, k.heat ∘ h.heat⟩

theorem State.JourneyFrame.trans {s t u : State} (h : s.JourneyFrame t) (k : t.JourneyFrame u) :
    s.JourneyFrame u := by
  unfold State.JourneyFrame at h k ⊢
  rw [← k] at h
  exact h

theorem State.JourneyStep.refl (s : State) : s.JourneyStep s := ⟨.refl s, rfl⟩

theorem State.JourneyStep.trans {s t u : State} (h : s.JourneyStep t) (k : t.JourneyStep u) : s.JourneyStep u :=
  ⟨h.laws.trans k.laws, h.frame.trans k.frame⟩

/-- A branch of an operation: both ways keep what they keep. -/
theorem State.JourneyStep.ite {c : Prop} [Decidable c] {s t u : State} (yes : c → s.JourneyStep t)
    (no : ¬ c → s.JourneyStep u) : s.JourneyStep (if c then t else u) := by
  split
  next h => exact yes h
  next h => exact no h

/-- A part of an operation that is made or left out. -/
theorem State.JourneyStep.optional {c : Prop} [Decidable c] {s t u : State} (h : s.JourneyStep t)
    (k : t.JourneyStep u) : s.JourneyStep (if c then u else t) :=
  .ite (fun _ => h.trans k) fun _ => h

section JourneyStep
variable {s t : State} (h : s.JourneyStep t)
include h

theorem State.JourneyStep.store_eq : t.store = s.store := (congrArg State.store h.frame :)
theorem State.JourneyStep.bright_eq : t.bright = s.bright := (congrArg State.bright h.frame :)
theorem State.JourneyStep.powered_eq : t.powered = s.powered := (congrArg State.powered h.frame :)
theorem State.JourneyStep.unitId_eq : t.unitId = s.unitId := (congrArg State.unitId h.frame :)
theorem State.JourneyStep.pending_eq : t.pending = s.pending := (congrArg State.pending h.frame :)

end JourneyStep

/-! ### Raised events and stale flags -/

theorem PortState.receive_queue (c : Bool) (e : Event) (ps : PortState) : (ps.receive c e).queue = ps.queue := by
  cases c <;> rfl

theorem State.raise_step (e : Event) (s : State) : s.JourneyStep (s.raise e) := by
  refine ⟨⟨id, id, fun law => ?_, id, id, id, id, id⟩, rfl⟩
  simpa only [State.ReceiveLaw, State.raise, PortState.receive_queue] using law

/-- What the panel law asks of a record. -/
def Panel.key (x : Panel) : Nat × PanelKind := (x.addr, x.kind)

/-- The panel law is one of the addresses and kinds in the table (R191). -/
theorem State.panelLaw_iff_key (s : State) : s.PanelLaw ↔
    (s.line.panels.map Panel.key).Pairwise (fun x y => x.1 < y.1)
    ∧ (∀ x ∈ s.line.panels.map Panel.key, 1 ≤ x.1 ∧ x.1 ≤ 24)
    ∧ (s.line.panels.map Panel.key).countP (fun x => decide (x.2 = .doorMap)) ≤ 4
    ∧ (s.line.panels.map Panel.key).countP (fun x => decide (x.2 = .banner)) ≤ 4 := by
  simp only [List.pairwise_map, List.forall_mem_map, List.countP_map]
  rfl

/-- An event that leaves every panel's address and kind keeps the panel law. -/
theorem State.panelLaw_of_key {s t : State} (h : t.line.panels.map Panel.key = s.line.panels.map Panel.key) :
    s.PanelLaw → t.PanelLaw := by
  rw [State.panelLaw_iff_key, State.panelLaw_iff_key, h]
  exact id

/-- A change of records that leaves their addresses and kinds. -/
theorem map_key_map {f : Panel → Panel} (h : ∀ x, (f x).key = x.key) (l : List Panel) :
    (l.map f).map Panel.key = l.map Panel.key := by
  rw [List.map_map]
  exact List.map_congr_left fun x _ => h x

theorem State.staleWhere_step (named : Panel → Bool) (s : State) : s.JourneyStep (s.staleWhere named) := by
  refine ⟨⟨id, id, id, id, id, id, State.panelLaw_of_key (map_key_map (fun x => ?_) _), id⟩, rfl⟩
  split <;> rfl

theorem State.staleAll_step (s : State) : s.JourneyStep s.staleAll := s.staleWhere_step _
theorem State.staleDoorMaps_step (s : State) : s.JourneyStep s.staleDoorMaps := s.staleWhere_step _
theorem State.staleBanners_step (s : State) : s.JourneyStep s.staleBanners := s.staleWhere_step _
theorem State.staleStrips_step (bays : List Nat) (s : State) : s.JourneyStep (s.staleStrips bays) :=
  s.staleWhere_step _
theorem State.staleRotation_step (s : State) : s.JourneyStep s.staleRotation := s.staleWhere_step _

/-- Door maps and banners marked stale together (R31, R33, R39). -/
theorem State.staleBoth_step (s : State) : s.JourneyStep s.staleDoorMaps.staleBanners :=
  s.staleDoorMaps_step.trans (State.staleBanners_step _)

/-! ### Ports -/

/-- A change of a port that leaves at most 4 frames in its receive queue keeps the laws (R3). -/
theorem State.onPort_step (p : Port) (f : PortState → PortState) (s : State)
    (h : (s.port p).queue.length ≤ 4 → (f (s.port p)).queue.length ≤ 4) : s.JourneyStep (s.onPort p f) := by
  refine ⟨⟨id, id, fun law => ?_, id, id, id, id, id⟩, rfl⟩
  cases p with
  | operations => exact ⟨h law.1, law.2⟩
  | content => exact ⟨law.1, h law.2⟩

theorem State.enter_step (p : Port) (k : Byte) (b : List Byte) (s : State) : s.JourneyStep (s.enter p k b) := by
  refine s.onPort_step p _ fun law => ?_
  dsimp only
  split
  · exact Nat.succ_le_succ (Nat.zero_le 3)
  · exact law

theorem State.answer_step (p : Port) (k : Byte) (st : Status) (b : List Byte) (s : State) :
    s.JourneyStep (s.answer p k st b) := s.onPort_step p _ id

/-! ### Holds and marks -/

theorem State.setHold_step (p : Port) (x : Hold) (s : State) : s.JourneyStep (s.setHold p x) :=
  ⟨⟨id, id, id, id, id, id, id, id⟩, rfl⟩

theorem State.breakHolds_step (named : Nat → Bool) (s : State) : s.JourneyStep (s.breakHolds named) :=
  ⟨⟨id, id, id, id, id, id, id, id⟩, rfl⟩

theorem State.setMarks_step (bays : BitVec 24) (s : State) : s.JourneyStep (s.setMarks bays) := by
  have marked (m u : BitVec 24) :
      s.JourneyStep { s with holds := { s.holds with marks := m, unreported := u } } :=
    ⟨⟨id, id, id, id, id, id, id, id⟩, rfl⟩
  exact .ite (fun _ => marked _ _) fun _ => (marked _ _).trans (State.raise_step _ _)

theorem State.handSeats_step (l : List (Nat × Nat)) (s : State) : s.JourneyStep (s.handSeats l) :=
  (s.breakHolds_step _).trans (State.setMarks_step _ _)

theorem State.breakAndMarkAll_step (s : State) : s.JourneyStep s.breakAndMarkAll :=
  (s.breakHolds_step _).trans (State.setMarks_step _ _)

/-! ### Brightness, level, clock, mode -/

theorem State.settleLevel_step (before s : State) : s.JourneyStep (s.settleLevel before) :=
  .ite (fun _ => .refl s) fun _ => s.raise_step _

theorem State.settleBrightness_step (before s : State) : s.JourneyStep (s.settleBrightness before) := by
  have raised := State.JourneyStep.ite
    (c := before.bright.heat = s.bright.heat ∧ before.bright.ceiling = s.bright.ceiling)
    (fun _ => .refl s) fun _ => s.raise_step (.heat s.bright.heat s.bright.ceiling)
  exact .ite (fun _ => raised) fun _ => raised.trans (State.staleAll_step _)

theorem State.settle_step (before s : State) : s.JourneyStep (s.settle before) :=
  (State.settleBrightness_step before s).trans (State.settleLevel_step before _)

theorem State.minuteChange_step (before s : State) : s.JourneyStep (s.minuteChange before) :=
  .ite (fun _ => .refl s) fun _ => s.staleBoth_step

theorem State.judgeStandstill_step (s : State) : s.JourneyStep s.judgeStandstill :=
  ⟨⟨id, id, id, id, id, id, id, id⟩, rfl⟩

theorem State.setMode_step (m : Mode) (s : State) : s.JourneyStep (s.setMode m) := by
  have moded : s.JourneyStep { s with odo := { s.odo with mode := m } } :=
    ⟨⟨id, id, id, id, id, id, id, id⟩, rfl⟩
  exact .ite (fun _ => .refl s) fun _ => (moded.trans (State.raise_step _ _)).trans (State.judgeStandstill_step _)

theorem State.raiseFormation_step (reversed : Bool) (s : State) : s.JourneyStep (s.raiseFormation reversed) :=
  s.raise_step _

end Sys2Proof.Machine
end

section
/-!
The Notice Sequencer's operations keep its two laws (R152, R155 to R161), and nothing that they do touches the
store, the brightness or a law of another block.
-/
namespace Sys2Proof.Machine

/-! ### The laws of the sequencer -/

/-- The slot law and the queue law are laws of the Notice Sequencer's own state (R152, R155). -/
def Sequencer.Lawful (q : Sequencer) : Prop :=
  (q.slot1.isSome → 1 ≤ levelOf q.active) ∧ (q.slot2.isSome → levelOf q.active = 2)
    ∧ (∀ n, q.slot1 = some n → n.cls = .journey ∨ n.cls = .information)
    ∧ (∀ n, q.slot2 = some n → n.cls ≠ .alarm ∧ (n.cls ≠ .service → q.slot1 = none))
    ∧ q.queue.length ≤ 16 ∧ lowerCount q.queue ≤ 12

theorem State.lawful_iff (s : State) : s.SlotLaw ∧ s.QueueLaw ↔ s.seq.Lawful := by
  simp only [State.SlotLaw, State.QueueLaw, State.level, Sequencer.Lawful, and_assoc]

/-- An event of the Notice Sequencer that keeps its laws. -/
theorem State.seqStep {s : State} {q : Sequencer} (h : s.seq.Lawful → q.Lawful) :
    s.JourneyStep { s with seq := q } := by
  refine ⟨⟨id, fun law => ?_, id, id, id, id, id, id⟩, rfl⟩
  exact (State.lawful_iff { s with seq := q }).mpr (h (s.lawful_iff.mp law))

/-! ### Levels -/

theorem levelOf_some (n : Notice) : levelOf (some n) = if n.cls = .alarm then 2 else if n.cls = .service then 1 else 0 := by
  cases h : n.cls <;> simp [levelOf, h]

/-- Below an ALARM slot 2 is empty, and at level 0 slot 1 too (R155). -/
theorem Sequencer.Lawful.slot2_none {q : Sequencer} (h : q.Lawful) (low : levelOf q.active ≠ 2) : q.slot2 = none := by
  obtain ⟨-, top, -⟩ := h
  cases hq : q.slot2 with
  | none => rfl
  | some n => exact absurd (top (by rw [hq]; rfl)) low

theorem Sequencer.Lawful.slot1_none {q : Sequencer} (h : q.Lawful) (low : levelOf q.active = 0) : q.slot1 = none := by
  obtain ⟨some1, -⟩ := h
  cases hq : q.slot1 with
  | none => rfl
  | some n => exact absurd (some1 (by rw [hq]; rfl)) (by omega)

/-- With both slots empty only the queue has a law. -/
theorem Sequencer.lawful_of_slots_none {q : Sequencer} (h1 : q.slot1 = none) (h2 : q.slot2 = none)
    (long : q.queue.length ≤ 16) (lower : lowerCount q.queue ≤ 12) : q.Lawful := by
  refine ⟨?_, ?_, ?_, ?_, long, lower⟩ <;> simp [h1, h2]

/-- Fewer queued notices keep the queue law. -/
theorem queue_sublist {l m : List Notice} (h : l.Sublist m) (long : m.length ≤ 16) (lower : lowerCount m ≤ 12) :
    l.length ≤ 16 ∧ lowerCount l ≤ 12 :=
  ⟨Nat.le_trans h.length_le long, Nat.le_trans h.countP_le lower⟩

/-- The queue law when the head leaves. -/
theorem queue_tail {n : Notice} {rest : List Notice} (h : (n :: rest).length ≤ 16 ∧ lowerCount (n :: rest) ≤ 12) :
    rest.length ≤ 16 ∧ lowerCount rest ≤ 12 :=
  queue_sublist (List.sublist_cons_self n rest) h.1 h.2

/-! ### The active place -/

/-- What is done to the sequencer and to the stale flags is an event of the sequencer. -/
theorem State.seqStaleStep {s : State} {q : Sequencer} (h : s.seq.Lawful → q.Lawful) :
    s.JourneyStep ({ s with seq := q }.staleBanners) :=
  (State.seqStep h).trans (State.staleBanners_step _)

/-- The sequencer after the return of R160 to an empty active place. -/
theorem State.returnLower_step {s : State} {q : Sequencer}
    (h : s.seq.Lawful → q.slot2 = none ∧ (∀ n, q.slot1 = some n → n.cls = .journey ∨ n.cls = .information)
      ∧ q.active = none ∧ q.queue.length ≤ 16 ∧ lowerCount q.queue ≤ 12) :
    s.JourneyStep (State.returnLower { s with seq := q }) := by
  unfold State.returnLower
  cases h1 : q.slot1 with
  | some n =>
    refine State.seqStaleStep (q := { q with slot1 := none, active := some n, dwellLeft := 1000 * n.dwell }) fun law => ?_
    obtain ⟨slot2, -, -, long, lower⟩ := h law
    exact Sequencer.lawful_of_slots_none rfl slot2 long lower
  | none =>
    unfold State.startHead
    cases hq : q.queue with
    | nil =>
      refine State.seqStep fun law => ?_
      obtain ⟨slot2, -, -, long, lower⟩ := h law
      exact Sequencer.lawful_of_slots_none h1 slot2 long lower
    | cons n rest =>
      refine State.seqStaleStep fun law => ?_
      obtain ⟨slot2, -, -, queue⟩ := h law
      rw [hq] at queue
      exact Sequencer.lawful_of_slots_none h1 slot2 (queue_tail queue).1 (queue_tail queue).2

/-- The sequencer after the return of R159 to the active place that an ALARM has left. -/
theorem State.returnFromAlarm_step {s : State} {q : Sequencer} {a : Notice}
    (h : s.seq.Lawful → q.active = none ∧ Sequencer.Lawful { q with active := some a }) :
    s.JourneyStep (State.returnFromAlarm { s with seq := q }) := by
  unfold State.returnFromAlarm
  cases h2 : q.slot2 with
  | none =>
    refine State.returnLower_step fun law => ?_
    obtain ⟨empty, -, -, saved, -, queue⟩ := h law
    exact ⟨h2, saved, empty, queue⟩
  | some n =>
    refine .ite (fun headFirst => ?_) fun _ => State.seqStaleStep (q := { q with
      slot2 := none, active := some n, dwellLeft := 1000 * n.dwell }) fun law => ?_
    · unfold State.startHead
      cases hq : q.queue with
      | nil => exact absurd headFirst.2 (by simp [Sequencer.headIsService, hq])
      | cons m rest =>
        refine State.seqStaleStep (q := { q with
          slot2 := none, slot1 := some n, queue := rest, dwellLeft := 1000 * m.dwell
          active := some { m with cycles := 0, lang := lowestLang m.mask } }) fun law => ?_
        obtain ⟨-, -, -, -, saved, queue⟩ := h law
        have service : m.cls = .service := by simpa [Sequencer.headIsService, hq] using headFirst.2
        have level : levelOf (some { m with cycles := 0, lang := lowestLang m.mask }) = 1 := by
          rw [levelOf_some]; simp [service]
        have lower : n.cls = .journey ∨ n.cls = .information := by
          have noAlarm := (saved n h2).1
          have noService := headFirst.1
          cases hc : n.cls <;> simp_all
        rw [hq] at queue
        refine ⟨fun _ => Nat.le_of_eq level.symm, nofun, fun m' hm => ?_,
          nofun, queue_tail queue⟩
        exact Option.some.inj hm ▸ lower
    · obtain ⟨-, -, -, saved1, saved2, queue⟩ := h law
      obtain ⟨noAlarm, slot1⟩ := saved2 n h2
      refine ⟨fun some1 => ?_, nofun, saved1, nofun, queue⟩
      rw [levelOf_some, if_neg noAlarm]
      by_cases service : n.cls = .service
      · rw [if_pos service]
      · exact absurd some1 (by rw [show q.slot1 = none from slot1 service]; exact Bool.false_ne_true)

theorem State.endActive_step (s : State) : s.JourneyStep s.endActive := by
  unfold State.endActive
  cases ha : s.seq.active with
  | none => exact .refl s
  | some n =>
    have dropped : s.dropActive = { s.staleBanners with seq := { s.seq with active := none, dwellLeft := 0 } } := by
      unfold State.dropActive
      rw [ha]
      rfl
    dsimp only
    rw [dropped]
    refine .ite (fun _ => ?_) fun noAlarm => ?_
    · refine s.staleBanners_step.trans (State.returnFromAlarm_step (a := n) fun (law : s.seq.Lawful) => ⟨rfl, ?_⟩)
      obtain ⟨one, two, rest⟩ := law
      rw [ha] at one two
      exact ⟨one, two, rest⟩
    · refine s.staleBanners_step.trans (State.returnLower_step fun (law : s.seq.Lawful) => ?_)
      have low : levelOf s.seq.active ≠ 2 := by
        rw [ha, levelOf_some, if_neg noAlarm]
        split <;> decide
      have slot2 := law.slot2_none low
      obtain ⟨-, -, saved, -, queue⟩ := law
      exact ⟨slot2, saved, rfl, queue⟩

/-! ### The queue -/

theorem State.raiseDropped_step (why : DropReason) (n : Notice) (s : State) : s.JourneyStep (s.raiseDropped why n) :=
  s.raise_step _

/-- A change of the queue alone keeps the laws where it keeps the queue law. -/
theorem State.queue_step {s : State} {l : List Notice}
    (h : s.seq.queue.length ≤ 16 ∧ lowerCount s.seq.queue ≤ 12 → l.length ≤ 16 ∧ lowerCount l ≤ 12) :
    s.JourneyStep { s with seq := { s.seq with queue := l } } :=
  State.seqStep fun ⟨one, two, saved1, saved2, queue⟩ => ⟨one, two, saved1, saved2, h queue⟩

/-- The queue after a displacement and a join (R153, R154). -/
theorem queue_displace_join {q : List Notice} {n m : Notice} {c : NoticeClass}
    (found : q.find? (Notice.isClass c) = some m) (lower : c ≠ .service)
    (h : q.length ≤ 16 ∧ lowerCount q ≤ 12) :
    (joinQueue n (q.eraseP (Notice.isClass c))).length ≤ 16
      ∧ lowerCount (joinQueue n (q.eraseP (Notice.isClass c))) ≤ 12 := by
  obtain ⟨isC, front, back, rfl, before⟩ := List.find?_eq_some_iff_append.mp found
  have class_m : m.cls = c := by simpa [Notice.isClass] using isC
  have erased : (front ++ m :: back).eraseP (Notice.isClass c) = front ++ back := by
    rw [List.eraseP_append_right _ fun y hy => by simpa using before y hy, List.eraseP_cons_of_pos isC]
  obtain ⟨long, few⟩ := h
  rw [erased, joinQueue_length, lowerCount_joinQueue]
  simp only [lowerCount, List.length_append, List.length_cons, List.countP_append, List.countP_cons,
    class_m] at long few ⊢
  rw [if_pos (by simpa using lower)] at few
  refine ⟨by omega, ?_⟩
  split <;> omega

/-- A notice joins the queue; what decides is that an INFORMATION notice has room (R143, R152 to R154). -/
theorem State.enqueue_step {n : Notice} {s : State}
    (room : n.cls = .service ∨ n.cls = .journey ∨ queueFull s.seq.queue = false) : s.JourneyStep (s.enqueue n) := by
  have join {c : NoticeClass} {m : Notice} (found : s.seq.queue.find? (Notice.isClass c) = some m)
      (lower : c ≠ .service) :
      s.JourneyStep { (State.raiseDropped .displaced m
          { s with seq := { s.seq with queue := s.seq.queue.eraseP (Notice.isClass c) } }) with
        seq := { s.seq with queue := joinQueue n (s.seq.queue.eraseP (Notice.isClass c)) } } :=
    (s.raiseDropped_step .displaced m).trans
      (State.queue_step (s := s.raiseDropped .displaced m) (queue_displace_join found lower))
  unfold State.enqueue
  split
  next must =>
    unfold State.displace
    cases info : s.seq.queue.find? (Notice.isClass .information) with
    | some m => exact join info (by decide)
    | none =>
      cases journey : s.seq.queue.find? (Notice.isClass .journey) with
      | some m => exact join journey (by decide)
      | none => exact s.raiseDropped_step _ _
  next free =>
    refine State.queue_step fun ⟨long, lower⟩ => ?_
    rw [joinQueue_length, lowerCount_joinQueue]
    have fits : (n.cls = .service ∧ s.seq.queue.length < 16) ∨ queueFull s.seq.queue = false := by
      rcases room with service | journey | room
      · rw [service] at free
        exact .inl ⟨service, by simpa [mustDisplace] using free⟩
      · rw [journey] at free
        exact .inr (by simpa [mustDisplace] using free)
      · exact .inr room
    rcases fits with ⟨service, short⟩ | notFull
    · rw [if_neg (not_not_intro service)]
      exact ⟨short, lower⟩
    · simp only [queueFull, Bool.or_eq_false_iff, decide_eq_false_iff_not] at notFull
      refine ⟨by omega, ?_⟩
      split <;> omega

/-! ### Placing (R156) -/

/-- Nothing is active at level 0 but a JOURNEY or INFORMATION notice. -/
theorem low_class {a : Notice} (h : levelOf (some a) = 0) : a.cls = .journey ∨ a.cls = .information := by
  cases hc : a.cls <;> simp [levelOf, hc] at h ⊢

/-- A notice that arrives is placed (R156); an INFORMATION notice that goes to the queue must find room there
(R143). -/
theorem State.place_step {n : Notice} {s : State}
    (room : n.cls = .information → s.seq.active ≠ none → queueFull s.seq.queue = false) :
    s.JourneyStep (s.place n) := by
  unfold State.place
  cases ha : s.seq.active with
  | none =>
    refine State.seqStaleStep fun law => ?_
    have level : levelOf s.seq.active = 0 := by rw [ha]; rfl
    have slot2 := law.slot2_none (by rw [level]; decide)
    have slot1 := law.slot1_none level
    obtain ⟨-, -, -, -, long, lower⟩ := law
    exact Sequencer.lawful_of_slots_none slot1 slot2 long lower
  | some a =>
    have running : s.seq.active ≠ none := by rw [ha]; exact Option.some_ne_none a
    cases hn : n.cls with
    | alarm =>
      have top : levelOf (some { n with cycles := 0, lang := lowestLang n.mask }) = 2 := by
        rw [levelOf_some]; simp [hn]
      refine .ite (fun _ => ?_) fun noAlarm => State.seqStaleStep fun law => ?_
      · refine (s.raiseDropped_step .replaced a).trans (State.seqStaleStep fun law => ?_)
        obtain ⟨-, -, saved1, saved2, queue⟩ := law
        exact ⟨fun _ => by rw [top]; decide, fun _ => top, saved1, saved2, queue⟩
      · have below : a.cls ≠ .service → s.seq.slot1 = none := fun noService => law.slot1_none (by
          rw [ha, levelOf_some, if_neg noAlarm, if_neg noService])
        obtain ⟨-, -, saved1, -, queue⟩ := law
        refine ⟨fun _ => by rw [top]; decide, fun _ => top, saved1, fun m hm => ?_, queue⟩
        exact Option.some.inj hm ▸ ⟨noAlarm, below⟩
    | service =>
      refine .ite (fun (low : levelOf s.seq.active = 0) => State.seqStaleStep fun law => ?_) fun _ =>
        State.enqueue_step (.inl hn)
      have one : levelOf (some { n with cycles := 0, lang := lowestLang n.mask }) = 1 := by
        rw [levelOf_some]; simp [hn]
      have slot2 := law.slot2_none (by rw [low]; decide)
      have class_a := low_class (ha ▸ low)
      obtain ⟨-, -, -, -, queue⟩ := law
      refine ⟨fun _ => Nat.le_of_eq one.symm, fun some2 => ?_, fun m hm => Option.some.inj hm ▸ class_a,
        fun m (hm : s.seq.slot2 = some m) => ?_, queue⟩
      · exact absurd some2 (by rw [show s.seq.slot2 = none from slot2]; exact Bool.false_ne_true)
      · rw [slot2] at hm; exact nomatch hm
    | journey => exact State.enqueue_step (.inr (.inl hn))
    | information => exact State.enqueue_step (.inr (.inr (room hn running)))

/-! ### Endings -/

/-- NOTICE_DROPPED raised for each of several notices. -/
theorem State.foldl_raiseDropped_step (why : DropReason) (l : List Notice) (s : State) :
    s.JourneyStep (l.foldl (fun t n => t.raiseDropped why n) s) := by
  induction l generalizing s with
  | nil => exact .refl s
  | cons n rest ih => exact (s.raiseDropped_step why n).trans (ih _)

theorem State.dropSaved_step (ends : Notice → Bool) (s : State) : s.JourneyStep (s.dropSaved ends) := by
  refine .trans (State.seqStep fun law => ?_) (State.foldl_raiseDropped_step _ _ _)
  obtain ⟨one, two, saved1, saved2, long, lower⟩ := law
  refine ⟨fun h => one ?_, fun h => two ?_, fun n h => saved1 n ?_, fun n h => ?_,
    queue_sublist List.filter_sublist long lower⟩
  · exact Option.isSome_of_isSome_filter _ _ h
  · exact Option.isSome_of_isSome_filter _ _ h
  · exact (Option.filter_eq_some_iff.mp h).1
  · obtain ⟨noAlarm, slot1⟩ := saved2 n (Option.filter_eq_some_iff.mp h).1
    exact ⟨noAlarm, fun lower => by rw [slot1 lower]; rfl⟩

theorem State.endNotices_step (ends : Notice → Bool) (s : State) : s.JourneyStep (s.endNotices ends) := by
  have saved := s.dropSaved_step ends
  unfold State.endNotices
  dsimp only
  split
  · exact .ite (fun _ => saved.trans (State.endActive_step _)) fun _ => saved
  · exact saved

/-- A change of notices that leaves their classes keeps the laws (R149, R151). -/
theorem State.mapNotices_step {f : Notice → Notice} (h : ∀ n, (f n).cls = n.cls) (s : State) :
    s.JourneyStep { s with seq := s.seq.mapNotices f } := by
  have level : levelOf (s.seq.active.map f) = levelOf s.seq.active := by
    cases s.seq.active with
    | none => rfl
    | some n => rw [Option.map_some, levelOf_some, levelOf_some, h]
  have count : lowerCount (s.seq.queue.map f) = lowerCount s.seq.queue := by
    simp only [lowerCount, List.countP_map, Function.comp_def, h]
  refine State.seqStep fun ⟨one, two, saved1, saved2, long, lower⟩ => ?_
  refine ⟨?_, ?_, fun n hn => ?_, fun n hn => ?_, ?_, ?_⟩
  · show (s.seq.slot1.map f).isSome → 1 ≤ levelOf (s.seq.active.map f)
    rw [Option.isSome_map, level]
    exact one
  · show (s.seq.slot2.map f).isSome → levelOf (s.seq.active.map f) = 2
    rw [Option.isSome_map, level]
    exact two
  · obtain ⟨m, hm, rfl⟩ := Option.map_eq_some_iff.mp hn
    rw [h]
    exact saved1 m hm
  · obtain ⟨m, hm, rfl⟩ := Option.map_eq_some_iff.mp hn
    rw [h]
    exact ⟨(saved2 m hm).1, fun lower => Option.map_eq_none_iff.mpr ((saved2 m hm).2 lower)⟩
  · exact Nat.le_trans (Nat.le_of_eq (List.length_map f)) long
  · exact Nat.le_trans (Nat.le_of_eq count) lower

theorem State.retarget_cls (s : State) (n : Notice) : (s.retarget n).cls = n.cls := by
  unfold State.retarget
  split
  · split <;> rfl
  · rfl

theorem State.retestShort_step (s : State) : s.JourneyStep s.retestShort := by
  have ended := s.endNotices_step fun n => n.isShort && (s.noticeTarget n).isNone
  have retargeted (t : State) := State.mapNotices_step t.retarget_cls t
  have mapped := ended.trans (retargeted _)
  exact .ite (fun _ => mapped) fun _ => mapped.trans (State.staleBanners_step _)

/-! ### Journey notices -/

theorem State.postJourney_step {n : Notice} (journey : n.cls = .journey) (s : State) :
    s.JourneyStep (s.postJourney n) :=
  .ite (fun _ => State.place_step fun info => absurd (journey.symm.trans info) (by decide)) fun _ => .refl s

theorem State.stageNotices_cls (s : State) (c : Nat) (st : Stage) : ∀ n ∈ s.stageNotices c st, n.cls = .journey := by
  unfold State.stageNotices
  split
  · exact fun n h => nomatch h
  · cases st <;> simp only [List.mem_append, List.mem_singleton] <;> intro n h
    case announce => rw [h]; rfl
    case approach =>
      rcases h with (h | h) | h
      · rw [h]; rfl
      · split at h
        · rw [List.mem_singleton.mp h]; rfl
        · exact nomatch h
      · split at h
        · rw [List.mem_singleton.mp h]; rfl
        · exact nomatch h
    case atPlatform =>
      split at h
      · exact nomatch h
      · rw [List.mem_singleton.mp h]; rfl
    all_goals exact nomatch h

theorem State.foldl_postJourney_step (l : List Notice) (h : ∀ n ∈ l, n.cls = .journey) (s : State) :
    s.JourneyStep (l.foldl (fun t n => t.postJourney n) s) := by
  induction l generalizing s with
  | nil => exact .refl s
  | cons n rest ih =>
    exact (State.postJourney_step (h n List.mem_cons_self) s).trans
      (ih (fun m hm => h m (List.mem_cons_of_mem n hm)) _)

theorem State.postStage_step (c : Nat) (st : Stage) (s : State) : s.JourneyStep (s.postStage c st) :=
  State.foldl_postJourney_step _ (s.stageNotices_cls c st) s

theorem State.postWelcome_step (c : Nat) (s : State) : s.JourneyStep (s.postWelcome c) := State.postJourney_step rfl s

theorem Notice.limited_cls (n : Notice) : n.limited.cls = n.cls := by
  unfold Notice.limited
  split <;> rfl

theorem State.postFinalStop_step (c : Nat) (s : State) : s.JourneyStep (s.postFinalStop c) :=
  (State.mapNotices_step Notice.limited_cls s).trans (State.postJourney_step rfl _)

/-- Clear Plan's part: the slots are emptied before the active notice leaves (R164). -/
theorem State.clearNotices_step (s : State) : s.JourneyStep s.clearNotices := by
  have emptied : s.JourneyStep { s with seq := { s.seq with queue := [], slot1 := none, slot2 := none } } :=
    State.seqStep fun _ => Sequencer.lawful_of_slots_none rfl rfl (Nat.zero_le _) (Nat.zero_le _)
  have dropped (t : State) (h1 : t.seq.slot1 = none) (h2 : t.seq.slot2 = none) : t.JourneyStep t.dropActive :=
    .ite (fun _ => State.seqStaleStep fun law => Sequencer.lawful_of_slots_none h1 h2 law.2.2.2.2.1 law.2.2.2.2.2)
      fun _ => .refl t
  unfold State.clearNotices
  dsimp only
  split
  · exact .ite (fun _ => emptied) fun _ => emptied.trans (dropped _ rfl rfl)
  · exact emptied

end Sys2Proof.Machine
end

section
/-!
The Seat Table's operations keep the pool law and the seat limits (R93, R98), and the evaluation of the stage of
C, which hands on to every block of chapters 2 to 7, keeps every law.
-/
namespace Sys2Proof.Machine

/-! ### The laws of the table -/

/-- The pool law and the seat limits are laws of the Seat Table's own state (R93, R98). -/
def SeatTable.Lawful (tb : SeatTable) : Prop :=
  tb.free + segmentsHeld tb.seats = 256 ∧ (tb.seats.map Seat.number).Nodup
    ∧ tb.seats.length ≤ 96 ∧ ∀ bay : Nat, (tb.seats.filter fun x => x.bay = bay).length ≤ 6

theorem State.pool_iff (s : State) : s.PoolLaw ∧ s.SeatLimits ↔ s.table.Lawful := by
  simp only [State.PoolLaw, State.SeatLimits, State.seatsOfBay, SeatTable.Lawful, and_assoc]

/-- An event of the Seat Table that keeps its laws. -/
theorem State.tableStep {s : State} {tb : SeatTable} (h : s.table.Lawful → tb.Lawful) :
    s.JourneyStep { s with table := tb } := by
  refine ⟨⟨fun law => ?_, id, id, id, id, id, id, id⟩, rfl⟩
  exact (State.pool_iff { s with table := tb }).mpr (h (s.pool_iff.mp law))

/-- A change of records that leaves numbers and bays, and the free records and segments held together. -/
theorem SeatTable.Lawful.map {tb : SeatTable} (law : tb.Lawful) {f : Seat → Seat} {free : Nat}
    (number : ∀ x, (f x).number = x.number) (bay : ∀ x, (f x).bay = x.bay)
    (pool : free + segmentsHeld (tb.seats.map f) = tb.free + segmentsHeld tb.seats) :
    SeatTable.Lawful ⟨tb.seats.map f, free⟩ := by
  obtain ⟨total, nodup, few, bays⟩ := law
  refine ⟨pool.trans total, ?_, Nat.le_trans (Nat.le_of_eq (List.length_map f)) few, fun b => ?_⟩
  · rw [List.map_map]
    simpa only [Function.comp_def, number] using nodup
  · rw [List.filter_map, List.length_map]
    simpa only [Function.comp_def, bay] using bays b

/-- A change of records that leaves the number, the bay and the list of each (R94, R96, R111). -/
theorem SeatTable.Lawful.map_lists {tb : SeatTable} (law : tb.Lawful) {f : Seat → Seat}
    (number : ∀ x, (f x).number = x.number) (bay : ∀ x, (f x).bay = x.bay)
    (segments : ∀ x, (f x).segments = x.segments) : SeatTable.Lawful ⟨tb.seats.map f, tb.free⟩ := by
  refine law.map number bay ?_
  simp only [segmentsHeld, List.map_map, Function.comp_def, segments]

/-! ### Lists replaced -/

/-- Lists replaced by lists for which there are records keep the laws (R98). -/
theorem State.relist_step {f : Seat → List Segment} {s : State}
    (fits : s.table.Lawful →
      segmentsHeld (s.table.seats.map fun x => { x with segments := f x })
        ≤ s.table.free + segmentsHeld s.table.seats) : s.JourneyStep (s.relist f) := by
  refine State.tableStep fun law => law.map (fun _ => rfl) (fun _ => rfl) ?_
  have fit := fits law
  omega

/-- Lists that shrink keep the laws (R98). -/
theorem State.relist_shrink_step {f : Seat → List Segment} {s : State}
    (h : ∀ x, (f x).length ≤ x.segments.length) : s.JourneyStep (s.relist f) :=
  State.relist_step fun _ =>
    Nat.le_trans (segmentsHeld_le f s.table.seats fun x _ => h x) (Nat.le_add_left _ _)

theorem State.reform_step (named : Seat → Bool) (s : State) : s.JourneyStep (s.reform named) := by
  refine .trans (State.tableStep fun law => law.map_lists ?_ ?_ ?_) (State.staleStrips_step _ _) <;>
    · intro x
      split <;> rfl

theorem State.reformAll_step (s : State) : s.JourneyStep s.reformAll := s.reform_step _

theorem State.changeSeat_step (num : Nat) (bays : List Nat) (s : State) : s.JourneyStep (s.changeSeat num bays) :=
  (s.handSeats_step _).trans (State.reform_step _ _)

theorem State.relistAndHand_step {f : Seat → List Segment} {s : State}
    (h : ∀ x, (f x).length ≤ x.segments.length) : s.JourneyStep (s.relistAndHand f) :=
  (State.relist_shrink_step h).trans (State.handSeats_step _ _)

theorem State.clearSegments_step (s : State) : s.JourneyStep s.clearSegments :=
  State.relistAndHand_step fun _ => Nat.zero_le _

theorem State.expire_step (l : Nat) (s : State) : s.JourneyStep (s.expire l) :=
  State.relistAndHand_step fun _ => List.length_filter_le _ _

theorem State.restranded_length (s : State) (x : Seat) : (s.restranded x).length ≤ x.segments.length :=
  Nat.le_trans (List.length_filter_le _ _) (Nat.le_of_eq (List.length_map _))

theorem State.portionSeats_step (s : State) : s.JourneyStep s.portionSeats := by
  have relisted := State.relistAndHand_step (s := s) s.restranded_length
  exact .ite (fun _ => relisted.trans (State.raise_step _ _)) fun _ => relisted

theorem State.recallSeats_step (before : State) (c : Call) (s : State) : s.JourneyStep (s.recallSeats before c) := by
  have voided := State.JourneyStep.ite (c := c = .cancelled)
    (fun _ => State.relist_shrink_step (s := s) (f := s.unvoided) fun _ => List.length_filter_le _ _)
    fun _ => .refl s
  exact voided.trans (State.handSeats_step _ _)

/-! ### Events that touch no law -/

theorem State.appr_step (a : Approach) (s : State) : s.JourneyStep { s with appr := a } :=
  ⟨⟨id, id, id, id, id, id, id, id⟩, rfl⟩

theorem State.form_step (f : Formation) (s : State) : s.JourneyStep { s with form := f } :=
  ⟨⟨id, id, id, id, id, id, id, id⟩, rfl⟩

theorem State.apprForm_step (a : Approach) (f : Formation) (s : State) :
    s.JourneyStep { s with appr := a, form := f } :=
  ⟨⟨id, id, id, id, id, id, id, id⟩, rfl⟩

theorem State.holds_step (h : Holds) (s : State) : s.JourneyStep { s with holds := h } :=
  ⟨⟨id, id, id, id, id, id, id, id⟩, rfl⟩

theorem State.planState_step (st : PlanState) (s : State) :
    s.JourneyStep { s with plan := { s.plan with state := st } } :=
  ⟨⟨id, id, id, id, id, id, id, id⟩, rfl⟩

/-! ### The stage of C (R61 to R68) -/

theorem State.formEta_step (s : State) : s.JourneyStep s.formEta :=
  .ite (fun _ => s.appr_step _) fun _ => (s.appr_step _).trans (State.staleBanners_step _)

theorem State.autoReverse_step (s : State) : s.JourneyStep s.autoReverse :=
  (((s.form_step _).trans (State.staleAll_step _)).trans (State.raiseFormation_step true _)).trans
    (State.retestShort_step _)

theorem State.arriveFormation_step (c : Nat) (s : State) : s.JourneyStep (s.arriveFormation c) := by
  have taken := s.form_step { s.form with arrival := some s.form.lead }
  unfold State.arriveFormation
  dsimp only
  split
  · exact .ite (fun _ => taken.trans (State.autoReverse_step _)) fun _ => taken
  · exact taken

theorem State.reachStage_step (c : Nat) (st : Stage) (s : State) : s.JourneyStep (s.reachStage c st) := by
  have reached := ((s.appr_step { s.appr with stage := some st }).trans
    (State.raise_step (.stage c st false) _)).trans (State.endNotices_step (Notice.endsAt c st) _)
  refine .trans ?_ (State.staleDoorMaps_step _)
  refine .ite (fun _ => ?_) fun _ => reached
  have arrived := reached.trans ((fun t : State =>
    (t.appr_step { t.appr with departureRun := 0 }).trans (State.arriveFormation_step c _)) _)
  exact .ite (fun _ => arrived.trans (State.planState_step _ _)) fun _ => arrived

theorem State.giveC_step (next : Option Nat) (s : State) : s.JourneyStep (s.giveC next) := by
  cases next with
  | none => exact (State.apprForm_step _ _ s).trans (State.staleBoth_step _)
  | some c => exact ((State.apprForm_step _ _ s).trans (State.raise_step _ _)).trans (State.staleBoth_step _)

theorem State.depart_step (c : Nat) (passed : Bool) (s : State) : s.JourneyStep (s.depart c passed) := by
  have left := (((s.appr_step { s.appr with last := some c, passed := passed }).trans
    (State.raise_step (.stage c .departed passed) _)).trans
    (State.endNotices_step (Notice.endsAt c .departed) _)).trans (State.expire_step c _)
  have given (next : Option Nat) := left.trans (State.giveC_step next _)
  unfold State.depart
  dsimp only
  split
  · exact given _
  · exact (given _).trans (State.planState_step _ _)

theorem Evaluation.apply_step (c : Nat) (row : Stage × Bool) (e : Evaluation) :
    e.st.JourneyStep (e.apply c row).st := by
  unfold Evaluation.apply
  split
  · exact State.depart_step c row.2 e.st
  · exact State.reachStage_step c row.1 e.st

theorem passes_step (act : Option Nat) (n : Nat) (e : Evaluation) : e.st.JourneyStep (passes act n e).st := by
  induction n generalizing e with
  | zero => exact .refl e.st
  | succ n ih =>
    unfold passes
    split
    · dsimp only
      have applied := e.apply_step
      split
      · exact (applied _ _).trans (ih _)
      · exact applied _ _
    · exact .refl e.st

theorem State.endJourney_step (s : State) : s.JourneyStep s.endJourney := by
  have cleared := s.clearSegments_step.trans (State.breakAndMarkAll_step _)
  refine .trans ?_ (State.raise_step _ _)
  split
  · exact cleared.trans (State.postFinalStop_step _ _)
  · exact cleared.trans (State.postFinalStop_step _ _)
  · exact cleared

theorem Evaluation.conclude_step (e : Evaluation) : e.st.JourneyStep e.conclude := by
  have posted : e.st.JourneyStep (match e.st.appr.current, e.reached with
      | some c, some st => e.st.postStage c st
      | _, _ => e.st) := by
    split
    · exact State.postStage_step _ _ _
    · exact .refl e.st
  have ended := posted.trans (State.JourneyStep.ite (c := e.st.plan.state = .ended)
    (fun _ => State.endJourney_step _) fun _ => .refl _)
  have formed := ended.trans (State.formEta_step _)
  exact .ite (fun _ => formed.trans (State.reformAll_step _)) fun _ => formed

theorem State.evaluate_step (act : Option Nat) (s : State) : s.JourneyStep (s.evaluate act) :=
  .ite (fun _ => (passes_step act s.passFuel ⟨s, none, false⟩).trans (Evaluation.conclude_step _)) fun _ => .refl s

theorem State.countDeparture_step (s : State) : s.JourneyStep s.countDeparture :=
  .ite (fun _ => s.appr_step _) fun _ => .refl s

end Sys2Proof.Machine
end

section
/-!
The commands of chapters 2 to 5 and 7: the state that each leaves is reached by an event that keeps every law and
leaves the store and the Brightness Unit alone.
-/
namespace Sys2Proof.Machine

/-! ### The plan, the clock and the Odometer -/

/-- An event of the plan and the Odometer that keeps their law. -/
theorem State.travel_step {s : State} {pl : Plan} {o : Odometer}
    (h : s.TravelLaw → State.TravelLaw { s with plan := pl, odo := o }) :
    s.JourneyStep { s with plan := pl, odo := o } :=
  ⟨⟨id, id, id, h, id, id, id, id⟩, rfl⟩

/-- What the travel law bounds of the Odometer. -/
def Odometer.ranged (o : Odometer) : Nat × Nat × Nat × Nat × Nat × Nat :=
  (o.position, o.remainder, o.sinceFix, o.count, o.zeroRun, o.reported)

/-- A change of the Odometer that leaves what the law bounds. -/
theorem State.odo_step {s : State} {o : Odometer} (h : o.ranged = s.odo.ranged) :
    s.JourneyStep { s with odo := o } := by
  simp only [Odometer.ranged, Prod.mk.injEq] at h
  obtain ⟨position, remainder, sinceFix, count, zeroRun, reported⟩ := h
  refine State.travel_step fun law => ?_
  simp only [State.TravelLaw, position, remainder, sinceFix, count, zeroRun, reported] at law ⊢
  exact law

/-- A change of the stop table that keeps its number of records and the range of their lines. -/
theorem State.stops_step {s : State} {l : List StopRecord} {st : PlanState}
    (h : s.plan.stops.length ≤ 48 → (∀ r ∈ s.plan.stops, r.line ≤ 4000000) →
      l.length ≤ 48 ∧ ∀ r ∈ l, r.line ≤ 4000000) : s.JourneyStep { s with plan := ⟨st, l⟩ } := by
  refine State.travel_step fun ⟨few, lines, rest⟩ => ?_
  exact ⟨(h few lines).1, (h few lines).2, rest⟩

/-- A stop's line position lies within the range of line positions (2.1). -/
theorem Plan.lineAt_le {pl : Plan} (lines : ∀ r ∈ pl.stops, r.line ≤ 4000000) (n : Nat) : pl.lineAt n ≤ 4000000 := by
  unfold Plan.lineAt
  split
  next r found => exact lines r (List.mem_of_getElem? found)
  next => exact Nat.zero_le _

theorem State.setPlanState_step (st : PlanState) (s : State) : s.JourneyStep (s.setPlanState st) :=
  .ite (fun _ => .refl s) fun _ => (s.planState_step st).trans (State.reformAll_step _)

theorem State.startOdometer_step {line : Nat} {s : State} (h : s.TravelLaw → line ≤ 4000000) :
    s.JourneyStep (s.startOdometer line) := by
  refine .trans (State.travel_step fun law => ?_) (State.setMode_step _ _)
  have bound := h law
  obtain ⟨few, lines, -, -, -, rest⟩ := law
  exact ⟨few, lines, bound, Nat.zero_lt_succ _, Nat.zero_le _, rest⟩

theorem State.beginJourney_step (c : Nat) (s : State) : s.JourneyStep (s.beginJourney c) := by
  have started := State.startOdometer_step (s := s) (line := s.plan.lineAt c)
    fun ⟨_, lines, _⟩ => Plan.lineAt_le lines c
  have given (t : State) (a : Approach) (f : Formation) :=
    (t.planState_step .running).trans (State.apprForm_step a f _)
  exact (((((started.trans (given _ _ _)).trans (State.raise_step _ _)).trans
    (State.postWelcome_step c _)).trans (State.staleAll_step _)).trans (State.reformAll_step _)).trans
    (State.settle_step s _)

theorem State.clearPlan_step (s : State) : s.JourneyStep s.clearPlan := by
  have emptied (a : Approach) (f : Formation) : s.JourneyStep { s with
      plan := ⟨.empty, []⟩, odo := { s.odo with position := 0, remainder := 0, sinceFix := 0 }
      appr := a, form := f } :=
    ⟨⟨id, id, id, fun ⟨_, _, _, _, _, rest⟩ =>
      ⟨Nat.zero_le _, fun _ mem => absurd mem List.not_mem_nil, Nat.zero_le _, Nat.zero_lt_succ _, Nat.zero_le _, rest⟩,
      id, id, id, id⟩, rfl⟩
  have cleared (t : State) := ((t.clearSegments_step.trans (State.breakAndMarkAll_step _)).trans
    (State.clearNotices_step _)).trans (State.staleAll_step _)
  exact (((emptied _ _).trans (cleared _)).trans (State.reformAll_step _)).trans (State.settle_step s _)

theorem StopRecord.withCall_line (r : StopRecord) (po : Portion) (c : Call) : (r.withCall po c).line = r.line := by
  cases po <;> rfl

/-- One record of the stop table changed, its line position kept. -/
theorem State.modifyStop_step {s : State} (n : Nat) {f : StopRecord → StopRecord} (line : ∀ r, (f r).line = r.line) :
    s.JourneyStep { s with plan := { s.plan with stops := s.plan.stops.modify n f } } := by
  refine State.stops_step fun few lines => ⟨Nat.le_trans (Nat.le_of_eq (List.length_modify _ _ _)) few, fun r hr => ?_⟩
  obtain ⟨i, found⟩ := List.mem_iff_getElem?.mp hr
  rw [List.getElem?_modify] at found
  obtain ⟨r0, found0, rfl⟩ := Option.map_eq_some_iff.mp found
  have bound := lines r0 (List.mem_of_getElem? found0)
  split
  · rw [line]; exact bound
  · exact bound

theorem State.moveC_step (next : Option Nat) (s : State) : s.JourneyStep (s.moveC next) := by
  have ended : s.JourneyStep (match s.appr.current with
      | some cur => s.endNotices (Notice.awaitsStage cur)
      | none => s) := by
    split
    · exact s.endNotices_step _
    · exact .refl s
  exact (ended.trans (State.giveC_step next _)).trans (State.evaluate_step none _)

theorem State.changeCall_step (n : Nat) (po : Portion) (c : Call) (s : State) : s.JourneyStep (s.changeCall n po c) := by
  have stored := State.modifyStop_step (s := s) n fun r => r.withCall_line po c
  refine .ite (fun _ => ?_) fun _ => stored.trans (State.staleDoorMaps_step _)
  have recalled := stored.trans (State.recallSeats_step s c _)
  refine .trans (.trans (.trans ?_ (State.staleBoth_step _)) (State.reformAll_step _)) (State.settle_step s _)
  split
  · exact recalled.trans (State.moveC_step _ _)
  · exact recalled

theorem State.clock_step {s : State} {c : Clock} (h : s.clock.second ≤ 172799 → c.second ≤ 172799) :
    s.JourneyStep { s with clock := c } :=
  ⟨⟨id, id, id, id, h, id, id, id⟩, rfl⟩

theorem Clock.tick_second {c : Clock} (h : c.second ≤ 172799) : c.tick.second ≤ 172799 := by
  unfold Clock.tick
  split
  · dsimp only
    split <;> omega
  · exact h

/-! ### Windows, reports and fixes (chapter 3) -/

theorem State.pulse_step (s : State) : s.JourneyStep s.pulse := by
  refine .ite (fun below => State.travel_step fun law => ?_) fun _ => .refl s
  obtain ⟨few, lines, position, remainder, sinceFix, -, rest⟩ := law
  exact ⟨few, lines, position, remainder, sinceFix, below, rest⟩

theorem Odometer.ranged_ite {c : Prop} [Decidable c] {o : Odometer} {x y : Mode × Odometer}
    (hx : x.2.ranged = o.ranged) (hy : y.2.ranged = o.ranged) : (if c then x else y).2.ranged = o.ranged := by
  split
  · exact hx
  · exact hy

/-- The transitions of the mode leave what the law bounds. -/
theorem Odometer.ranged_transition (o : Odometer) : o.transition.2.ranged = o.ranged := by
  have untrusted : o.endUntrusted.2.ranged = o.ranged := Odometer.ranged_ite rfl rfl
  unfold Odometer.transition
  cases o.mode
  · exact Odometer.ranged_ite rfl (Odometer.ranged_ite rfl rfl)
  · exact Odometer.ranged_ite rfl (Odometer.ranged_ite rfl rfl)
  · exact untrusted
  · exact untrusted

theorem State.setMode_odo (m : Mode) (s : State) : (s.setMode m).odo = { s.odo with mode := m } := by
  unfold State.setMode
  split
  next same => rw [← same]
  next => rfl

theorem Odometer.countZero_zeroRun {o : Odometer} (h : o.zeroRun ≤ 4095) : o.countZero.zeroRun ≤ 4095 := by
  unfold Odometer.countZero
  dsimp only
  split <;> omega

theorem State.computeWindow_step (s : State) : s.JourneyStep s.computeWindow := by
  have counted : s.JourneyStep { s with odo := s.odo.countZero } :=
    State.travel_step fun ⟨few, lines, h1, h2, h3, h4, h5, h6⟩ =>
      ⟨few, lines, h1, h2, h3, h4, Odometer.countZero_zeroRun h5, h6⟩
  have moved : s.JourneyStep { s with odo := { s.odo.countZero.transition.2 with exemption := false } } :=
    counted.trans (State.odo_step (s := { s with odo := s.odo.countZero })
      (o := { s.odo.countZero.transition.2 with exemption := false }) s.odo.countZero.ranged_transition)
  have moded := moved.trans (State.setMode_step s.odo.countZero.transition.1 _)
  refine .trans (moded.trans (State.travel_step fun ⟨few, lines, h1, h2, h3, h4, h5, h6⟩ => ?_))
    (State.judgeStandstill_step _)
  refine ⟨few, lines, Nat.min_le_left _ _, ?_, Nat.min_le_left _ _, Nat.zero_le _, h5, h6⟩
  simp only [Odometer.keepSpeed, Odometer.accumulate]
  split <;> omega

theorem State.awakeWindow_step (s : State) : s.JourneyStep s.awakeWindow :=
  ((s.computeWindow_step.trans (State.countDeparture_step _)).trans (State.evaluate_step none _)).trans
    (State.settle_step s _)

theorem State.rest_step (r : RestState) (s : State) : s.JourneyStep { s with link := { s.link with rest := r } } :=
  ⟨⟨id, id, id, id, id, id, id, id⟩, rfl⟩

/-- A change of the panel line that keeps every address and kind keeps the laws (R191). -/
theorem State.line_step {s : State} {l : PanelLine} (h : l.panels.map Panel.key = s.line.panels.map Panel.key) :
    s.JourneyStep { s with line := l } :=
  ⟨⟨id, id, id, id, id, id, State.panelLaw_of_key h, id⟩, rfl⟩

theorem State.wakeOdometer_step (s : State) : s.JourneyStep s.wakeOdometer := by
  refine .trans (.trans (.trans (State.travel_step fun ⟨few, lines, h1, h2, h3, h4, _, h6⟩ => ?_)
    (State.appr_step _ _)) (State.setMode_step _ _)) (State.judgeStandstill_step _)
  exact ⟨few, lines, h1, h2, h3, h4, Nat.zero_le _, h6⟩

theorem State.wakeUp_step (why : WakeReason) (s : State) : s.JourneyStep (s.wakeUp why) := by
  have woken (t : State) : t.JourneyStep { t with line := t.line.wake } :=
    State.line_step (map_key_map (f := Panel.wake) (fun _ => rfl) t.line.panels)
  exact (((s.rest_step .awake).trans (State.wakeOdometer_step _)).trans (woken _)).trans (State.raise_step _ _)

theorem State.restWindow_step (s : State) : s.JourneyStep s.restWindow := by
  have noted : s.JourneyStep { s with odo := { s.odo with
      count := 0, windowMs := 0
      pulseInRest := s.odo.pulseInRest || decide (0 < s.odo.count) } } :=
    State.travel_step fun ⟨few, lines, h1, h2, h3, _, h5, h6⟩ => ⟨few, lines, h1, h2, h3, Nat.zero_le _, h5, h6⟩
  exact .ite (fun _ => noted.trans (State.wakeUp_step _ _)) fun _ => noted

theorem State.reportMotion_step (r : Nat) (s : State) : s.JourneyStep (s.reportMotion r) := by
  have stored : s.JourneyStep { s with odo := { s.odo with
      reported := min 4000 r, fresh := true, freshLeft := 10000 } } :=
    State.travel_step fun ⟨few, lines, h1, h2, h3, h4, h5, _⟩ => ⟨few, lines, h1, h2, h3, h4, h5, Nat.min_le_left _ _⟩
  refine .trans (.trans (.trans ?_ (State.judgeStandstill_step _)) (State.evaluate_step none _)) (State.settle_step s _)
  exact .ite (fun _ => stored.trans (State.setMode_step _ _)) fun _ => stored

theorem State.speedStale_step (s : State) : s.JourneyStep s.speedStale := by
  have stale : s.JourneyStep { s with odo := { s.odo with fresh := false, freshLeft := 0 } } := State.odo_step rfl
  refine .ite (fun _ => .trans ?_ (State.judgeStandstill_step _)) fun _ => stale
  exact .ite (fun _ => stale.trans (State.setMode_step _ _)) fun _ => stale

theorem State.applyFix_step (f a : Nat) (s : State) : s.JourneyStep (s.applyFix f a) := by
  have fixed : s.JourneyStep { s with odo := { s.odo with
      position := s.fixedPosition f a, remainder := 0, sinceFix := 0 } } :=
    State.travel_step fun ⟨few, lines, _, _, _, rest⟩ =>
      ⟨few, lines, Nat.min_le_left _ _, Nat.zero_lt_succ _, Nat.zero_le _, rest⟩
  have jumped := fixed.optional (c := (s.tolerance : Int) < (s.jump f a).natAbs)
    (State.raise_step (.fixJump (s.jump f a)) _)
  have readmitted (t : State) : t.JourneyStep (State.setMode .wheel { t with odo := { t.odo with exemption := true } }) :=
    (State.odo_step (s := t) (o := { t.odo with exemption := true }) rfl).trans (State.setMode_step _ _)
  exact ((jumped.optional (readmitted _)).trans (State.evaluate_step none _)).trans (State.settle_step s _)

/-! ### The door release line and Set Stage -/

theorem State.noteActivation_step (s : State) : s.JourneyStep s.noteActivation := by
  refine .ite (fun _ => ?_) fun _ => .refl s
  split
  · exact .ite (fun _ => s.raise_step _) fun _ => .ite (fun _ => s.appr_step _) fun _ => .refl s
  · exact .refl s

theorem State.doorLine_step (active : Bool) (s : State) : s.JourneyStep { s with doorLine := active } :=
  ⟨⟨id, id, id, id, id, id, id, id⟩, rfl⟩

theorem State.doorChange_step (active : Bool) (s : State) : s.JourneyStep (s.doorChange active) := by
  have recorded := (s.doorLine_step active).trans (State.appr_step { s.appr with doorTaken := active } _)
  exact .ite
    (fun _ => ((recorded.trans (State.noteActivation_step _)).trans (State.evaluate_step _ _)).trans
      (State.settle_step s _))
    fun _ => (recorded.trans (State.evaluate_step none _)).trans (State.settle_step s _)

theorem State.doorRelease_step (active : Bool) (s : State) : s.JourneyStep (s.doorRelease active) :=
  .ite (fun _ => s.doorLine_step active) fun _ => .ite (fun _ => .refl s) fun _ =>
    .ite (fun _ => s.doorChange_step active) fun _ =>
      .ite (fun _ => (s.doorLine_step true).trans (State.wakeUp_step _ _)) fun _ => s.doorLine_step false

theorem State.setStage_step (c : Nat) (before st : Stage) (s : State) : s.JourneyStep (s.setStage c before st) := by
  have applied := Evaluation.apply_step c (st, before.isBelow) ⟨s, none, false⟩
  unfold State.setStage
  dsimp only
  split
  · exact ((applied.trans (passes_step _ _ _)).trans (Evaluation.conclude_step _)).trans (State.settle_step s _)
  · exact (applied.trans (Evaluation.conclude_step _)).trans (State.settle_step s _)

/-! ### The formation (chapter 4) -/

theorem State.flushNotices_step (s : State) : s.JourneyStep s.flushNotices := by
  unfold State.flushNotices
  split
  · exact s.endNotices_step _
  · exact s.dropSaved_step _

theorem State.changePortion_step (s : State) : s.JourneyStep s.changePortion := by
  have marked := s.setMarks_step (BitVec.allOnes 24)
  exact .ite (fun _ => marked.trans (State.portionSeats_step _)) fun _ => marked

theorem State.applyFormation_step (e : TrainEnd) (s : State) : s.JourneyStep (s.applyFormation e) := by
  unfold State.applyFormation
  extract_lets s1 moved s2 s3 s4 s5
  have h2 : s.JourneyStep s2 :=
    ((s.form_step _).trans (State.raiseFormation_step false _)).trans (State.breakHolds_step _ _)
  clear_value s1 moved s2
  have h3 : s.JourneyStep s3 := h2.optional s2.changePortion_step
  clear_value s3
  have h4 : s.JourneyStep s4 :=
    ((h3.trans s3.flushNotices_step).trans (State.retestShort_step _)).trans (State.staleDoorMaps_step _)
  clear_value s4
  have h5 : s.JourneyStep s5 := h4.optional s4.staleAll_step
  exact (h5.optional s5.reformAll_step).trans (State.settle_step s _)

theorem State.turnTrain_step (e : TrainEnd) (s : State) : s.JourneyStep (s.turnTrain e) := by
  have turned := s.form_step { s.form with lead := e }
  exact .ite (fun _ => (((turned.trans (State.staleAll_step _)).trans (State.raiseFormation_step false _)).trans
    (State.retestShort_step _)).trans (State.settle_step s _)) fun _ => turned

/-! ### Edits of the Seat Table (chapter 5) -/

/-- An edit of one seat's record that leaves its number, its bay and its list. -/
theorem State.updateSeat_step {f : Seat → Seat} (num : Nat) (s : State) (number : ∀ x, (f x).number = x.number)
    (bay : ∀ x, (f x).bay = x.bay) (segments : ∀ x, (f x).segments = x.segments) :
    s.JourneyStep (s.updateSeat num f) := by
  refine State.tableStep fun law => law.map_lists ?_ ?_ ?_ <;> intro x <;> split
  · exact number x
  · rfl
  · exact bay x
  · rfl
  · exact segments x
  · rfl

theorem State.blockSeat_step (x : Seat) (value : Bool) (s : State) : s.JourneyStep (s.blockSeat x value) :=
  .ite (fun _ => .refl s) fun _ =>
    (s.updateSeat_step (f := fun y => { y with blocked := value }) x.number (fun _ => rfl) (fun _ => rfl)
      fun _ => rfl).trans (State.changeSeat_step _ _ _)

/-- A new seat joins the table where the limits leave room (R93, R94). -/
theorem State.addSeat_step {b : List Byte} {s : State} (fresh : s.seat? (u16 b 1) = none)
    (room : s.table.seats.length < 96)
    (bayRoom : ((s.seatsOfBay (u8 b 3)).filter fun x => x.number ≠ u16 b 1).length < 6) :
    s.JourneyStep (s.addSeat b) := by
  refine .trans (State.tableStep fun ⟨total, nodup, _, bays⟩ => ?_) (State.changeSeat_step _ _ _)
  have absent : ∀ x ∈ s.table.seats, x.number ≠ u16 b 1 := by simpa [State.seat?] using fresh
  refine ⟨?_, ?_, ?_, fun bay => ?_⟩
  · simpa [segmentsHeld, newSeat] using total
  · rw [List.map_append, List.nodup_append]
    refine ⟨nodup, List.nodup_singleton _, fun n hn m hm => ?_⟩
    obtain ⟨x, hx, rfl⟩ := List.mem_map.mp hn
    rw [List.mem_singleton.mp hm]
    exact absent x hx
  · simpa using room
  · rw [List.filter_append, List.length_append]
    by_cases here : u8 b 3 = bay
    · subst here
      have all : (s.seatsOfBay (u8 b 3)).filter (fun x => x.number ≠ u16 b 1) = s.seatsOfBay (u8 b 3) :=
        List.filter_eq_self.mpr fun x hx => by simpa using absent x (List.mem_of_mem_filter hx)
      rw [all] at bayRoom
      have one := List.length_filter_le (fun x : Seat => decide (x.bay = u8 b 3)) [newSeat b]
      rw [List.length_singleton] at one
      exact Nat.le_trans (Nat.add_le_add_left one _) bayRoom
    · have none : [newSeat b].filter (fun x => decide (x.bay = bay)) = [] := List.filter_eq_nil_iff.mpr (by simp [newSeat, here])
      rw [none]
      exact bays bay

/-- A seat redefined keeps its number and its list, and its new bay has room (R93, R94). -/
theorem State.redefineSeat_step {b : List Byte} {x : Seat} {s : State} (found : s.seat? (u16 b 1) = some x)
    (bayRoom : ((s.seatsOfBay (u8 b 3)).filter fun x => x.number ≠ u16 b 1).length < 6) :
    s.JourneyStep (s.redefineSeat b x) := by
  refine .trans (State.tableStep fun ⟨total, nodup, few, bays⟩ => ?_) (State.changeSeat_step _ _ _)
  have same {β : Type} (g : Seat → β) (h : ∀ y, g (y.redefine b) = g y) :
      (s.table.seats.map fun y => if y.number = u16 b 1 then y.redefine b else y).map g = s.table.seats.map g := by
    rw [List.map_map]
    refine List.map_congr_left fun y _ => ?_
    rw [Function.comp_apply]
    split
    · exact h y
    · rfl
  have number := State.seat?_number found
  obtain ⟨front, back, seats⟩ := List.append_of_mem (List.mem_of_find?_eq_some found)
  have others (part : List Seat) (apart : ∀ y ∈ part, y.number ≠ x.number) :
      (part.map fun y => if y.number = u16 b 1 then y.redefine b else y) = part := by
    conv => rhs; rw [← List.map_id part]
    exact List.map_congr_left fun y hy => if_neg (number ▸ apart y hy)
  have nodup1 := nodup
  rw [seats, List.map_append, List.map_cons, List.nodup_middle] at nodup1
  have apart : ∀ y ∈ front ++ back, y.number ≠ x.number := fun y hy eq => by
    refine (List.nodup_cons.mp nodup1).1 ?_
    rw [← List.map_append, ← eq]
    exact List.mem_map_of_mem hy
  refine ⟨?_, ?_, ?_, fun bay => ?_⟩
  · have held := same (fun y => y.segments.length) fun _ => rfl
    exact (congrArg (s.table.free + List.sum ·) held).trans total
  · rw [same Seat.number fun _ => rfl]
    exact nodup
  · rw [List.length_map]
    exact few
  · rw [seats, List.map_append, List.map_cons, others front fun y hy => apart y (List.mem_append_left _ hy),
      others back fun y hy => apart y (List.mem_append_right _ hy), if_pos number]
    have bound := bays bay
    rw [State.seatsOfBay, seats, List.filter_filter] at bayRoom
    rw [seats] at bound
    simp only [← List.countP_eq_length_filter, List.countP_append, List.countP_cons] at bayRoom bound ⊢
    have keep (part : List Seat) (h : ∀ y ∈ part, y.number ≠ x.number) :
        part.countP (fun y => decide (y.number ≠ u16 b 1) && decide (y.bay = u8 b 3))
          = part.countP fun y => decide (y.bay = u8 b 3) :=
      List.countP_congr fun y hy => by simp [number ▸ h y hy]
    rw [keep front fun y hy => apart y (List.mem_append_left _ hy),
      keep back fun y hy => apart y (List.mem_append_right _ hy)] at bayRoom
    by_cases here : u8 b 3 = bay
    · subst here
      split <;> omega
    · rw [if_neg fun isBay : decide ((x.redefine b).bay = bay) = true => here (of_decide_eq_true isBay)]
      omega

theorem State.dropSeat_step {x : Seat} {s : State} (empty : x.segments = []) (held : x ∈ s.table.seats) :
    s.JourneyStep (s.dropSeat x) := by
  refine .trans (State.tableStep fun ⟨total, nodup, few, bays⟩ => ?_) (State.handSeats_step _ _)
  have sub := List.filter_sublist (p := fun y : Seat => decide (y.number ≠ x.number)) (l := s.table.seats)
  refine ⟨?_, nodup.sublist (sub.map _), Nat.le_trans sub.length_le few,
    fun bay => Nat.le_trans (sub.filter _).length_le (bays bay)⟩
  have gone : ∀ y ∈ s.table.seats, y.number = x.number → y.segments.length = 0 := fun y hy same => by
    rw [List.inj_on_of_nodup_map nodup hy held same, empty]
    rfl
  have sums (l : List Seat) (h : ∀ y ∈ l, y.number = x.number → y.segments.length = 0) :
      segmentsHeld (l.filter fun y => y.number ≠ x.number) = segmentsHeld l := by
    induction l with
    | nil => rfl
    | cons y ys ih =>
      have tail := ih fun z hz => h z (List.mem_cons_of_mem y hz)
      rw [List.filter_cons]
      by_cases same : y.number = x.number
      · have zero := h y List.mem_cons_self same
        rw [if_neg (by simp [same]), tail]
        simp [segmentsHeld, zero]
      · rw [if_pos (by simp [same])]
        simpa [segmentsHeld] using tail
  exact (congrArg (s.table.free + ·) (sums _ gone)).trans total

/-- One list replaced, where there are records for the new one (R98). -/
theorem State.setSegments_step {num : Nat} {segs : List Segment} {x : Seat} {s : State}
    (found : s.seat? num = some x) (fits : segs.length ≤ s.table.free + x.segments.length) :
    s.JourneyStep (s.setSegments num segs) := by
  refine State.relist_step fun ⟨_, nodup, _⟩ => ?_
  have held := segmentsHeld_replace nodup (List.mem_of_find?_eq_some found) segs
  rw [State.seat?_number found] at held
  omega

/-- A put replaces the segments that it overlaps by one (R104). -/
theorem putList_length (leg : Segment) (segs : List Segment) :
    (putList leg segs).length + (clashing leg segs).length = segs.length + 1 := by
  have split := List.length_eq_length_filter_add (l := segs) fun g => leg.overlaps g
  rw [putList, insertSegment_length, clashing]
  omega

theorem State.putSegment_step {x : Seat} {leg : Segment} {s : State} (found : s.seat? x.number = some x)
    (records : s.table.free + (clashing leg x.segments).length ≠ 0) : s.JourneyStep (s.putSegment x leg) := by
  have count := putList_length leg x.segments
  exact (State.setSegments_step found (by omega)).trans (State.changeSeat_step _ _ _)

theorem State.removeSegment_step {x : Seat} {f : Nat} {s : State} (found : s.seat? x.number = some x) :
    s.JourneyStep (s.removeSegment x f) :=
  (State.setSegments_step found (Nat.le_trans List.eraseP_sublist.length_le (Nat.le_add_left _ _))).trans
    (State.changeSeat_step _ _ _)

theorem State.clearSeat_step {x : Seat} {s : State} (found : s.seat? x.number = some x) :
    s.JourneyStep (s.clearSeat x) :=
  .ite (fun _ => .refl s) fun _ => (State.setSegments_step found (Nat.zero_le _)).trans (State.changeSeat_step _ _ _)

/-- Each segment of seat a moves or stays (R107, R108). -/
theorem State.moving_staying_length (s : State) (x : Seat) :
    (s.moving x).length + (s.staying x).length = x.segments.length := by
  rw [State.moving, State.staying, List.length_map, ← List.length_eq_length_filter_add]

/-- The segments held over a list of seats once some have moved from one seat to another. -/
theorem State.moveSeat_step {x y : Seat} {s : State} (foundX : s.seat? x.number = some x)
    (foundY : s.seat? y.number = some y) (apart : x.number ≠ y.number) : s.JourneyStep (s.moveSeat x y) := by
  refine .ite (fun _ => .refl s) fun _ => ?_
  refine .trans (.trans (State.relist_step fun ⟨_, nodup, _⟩ => ?_) (State.changeSeat_step _ _ _))
    (State.changeSeat_step _ _ _)
  have left := segmentsHeld_replace nodup (List.mem_of_find?_eq_some foundX) (s.staying x)
  have nodupLeft : ((s.table.seats.map fun z =>
      { z with segments := if z.number = x.number then s.staying x else z.segments }).map Seat.number).Nodup := by
    rw [List.map_map]
    exact nodup
  have memY : y ∈ s.table.seats.map fun z =>
      { z with segments := if z.number = x.number then s.staying x else z.segments } :=
    List.mem_map.mpr ⟨y, List.mem_of_find?_eq_some foundY, by rw [if_neg (Ne.symm apart)]⟩
  have joined := segmentsHeld_replace nodupLeft memY (joinSegments (s.moving x) y.segments)
  have table : (s.table.seats.map fun z => { z with segments := s.movedList x y z })
      = (s.table.seats.map fun z =>
          { z with segments := if z.number = x.number then s.staying x else z.segments }).map fun z =>
          { z with segments := if z.number = y.number then joinSegments (s.moving x) y.segments else z.segments } := by
    rw [List.map_map]
    refine List.map_congr_left fun z hz => ?_
    rw [Function.comp_apply]
    refine congrArg (fun l => { z with segments := l }) ?_
    unfold State.movedList
    dsimp only
    by_cases isX : z.number = x.number
    · rw [if_pos isX, if_neg (isX ▸ apart), if_pos isX,
        List.inj_on_of_nodup_map nodup hz (List.mem_of_find?_eq_some foundX) isX]
    · rw [if_neg isX]
      by_cases isY : z.number = y.number
      · rw [if_pos isY, if_pos isY,
          List.inj_on_of_nodup_map nodup hz (List.mem_of_find?_eq_some foundY) isY]
      · rw [if_neg isY, if_neg isY, if_neg isX]
  have all := s.moving_staying_length x
  rw [joinSegments_length] at joined
  rw [table]
  omega

theorem State.commitSeat_step {x : Seat} {b : List Byte} {s : State} (found : s.seat? x.number = some x)
    (fits : commitCount b ≤ s.table.free + x.segments.length) : s.JourneyStep (s.commitSeat x b) := by
  refine .ite (fun _ => .refl s) fun _ => (State.setSegments_step found ?_).trans (State.changeSeat_step _ _ _)
  simpa [State.commitList, State.commitLegs] using fits

/-! ### The notices' commands (chapter 7) -/

theorem State.withdraw_step (tag place : Nat) (s : State) : s.JourneyStep (s.withdraw tag place) := by
  refine .ite (fun _ => s.endActive_step) fun _ => .ite (fun _ => State.seqStep fun law => ?_) fun _ =>
    .ite (fun _ => State.seqStep fun law => ?_) fun _ =>
      State.queue_step fun ⟨long, lower⟩ => queue_sublist List.eraseP_sublist long lower
  · obtain ⟨-, two, -, saved2, queue⟩ := law
    exact ⟨nofun, two, nofun, fun n hn => ⟨(saved2 n hn).1, fun _ => rfl⟩, queue⟩
  · obtain ⟨one, -, saved1, -, queue⟩ := law
    exact ⟨one, nofun, saved1, nofun, queue⟩

theorem State.dwellExpiry_step (s : State) : s.JourneyStep s.dwellExpiry := by
  unfold State.dwellExpiry
  split
  · exact .refl s
  next n active =>
    refine .ite (fun _ => s.endActive_step.trans (State.settle_step s _)) fun _ => State.seqStaleStep fun law => ?_
    obtain ⟨one, two, rest⟩ := law
    have level : levelOf (some n.step) = levelOf s.seq.active := by
      rw [active, levelOf_some, levelOf_some]
      rfl
    exact ⟨fun h => level ▸ one h, fun h => level ▸ two h, rest⟩

theorem State.validityExpiry_step (ref : NoticeRef) (s : State) : s.JourneyStep (s.validityExpiry ref) :=
  (s.endNotices_step _).trans (State.settle_step s _)

end Sys2Proof.Machine
end

section
/-!
What each block makes of a request (R6, R8): it refuses and leaves the state, or it answers DONE with a state of
which the lemma says how it comes from the one before.
-/
namespace Sys2Proof.Machine

/-! ### Answers -/

/-- An answer to a request taken in state s: a refusal, or a Read Phrase that waits, leaves s; one that is carried
out leaves a state of which R holds (R6). -/
def Answer.From (s : State) (R : State → Prop) : Answer → Prop
  | .reply t st _ => (st = .done ∧ R t) ∨ (st ≠ .done ∧ t = s)
  | .defer t _ _ => t = s

section From
variable {s t : State} {R : State → Prop} {b : List Byte} {st : Status} {a a' : Answer}

theorem Answer.from_done (h : R t) : (done t b).From s R := .inl ⟨rfl, h⟩

theorem Answer.from_refuseWith (h : st ≠ .done) : (refuseWith s st b).From s R := .inr ⟨h, rfl⟩

theorem Answer.from_refuse (h : st ≠ .done) : (refuse s st).From s R := Answer.from_refuseWith h

/-- A check of a request, and what follows where it passes. -/
theorem Answer.from_check {c : Prop} [Decidable c] (h : st ≠ .done) (pass : ¬ c → a.From s R) :
    (if c then refuse s st else a).From s R := by
  split
  · exact Answer.from_refuse h
  next passed => exact pass passed

theorem Answer.from_ite {c : Prop} [Decidable c] (yes : c → a.From s R) (no : ¬ c → a'.From s R) :
    (if c then a else a').From s R := by
  split
  next h => exact yes h
  next h => exact no h

/-- The check of an empty payload (R6 step 4). -/
theorem Answer.from_emptyPayload {block : State → Answer} (h : (block s).From s R) :
    (emptyPayload b block s).From s R := by
  unfold emptyPayload
  split
  · exact h
  · exact Answer.from_refuse nofun

theorem Answer.From.imp {R' : State → Prop} (h : a.From s R) (weaker : ∀ t, R t → R' t) : a.From s R' := by
  cases a with
  | defer t phrase lang => exact h
  | reply t st body => exact h.imp_left fun ⟨isDone, holds⟩ => ⟨isDone, weaker t holds⟩

end From

/-! ### Link Unit, plan and clock (chapters 1 and 2) -/

theorem wakeBlock_from (s : State) : (wakeBlock s).From s s.JourneyStep :=
  Answer.from_ite (fun _ => Answer.from_done (s.wakeUp_step _)) fun _ => Answer.from_refuse nofun

/-- Rest is entered from level 0, with the store IDLE (R17). -/
theorem restBlock_from (s : State) :
    (restBlock s).From s fun t => t = s.enterRest ∧ s.level = 0 ∧ s.store.op = .idle :=
  Answer.from_check nofun fun idle => Answer.from_check nofun fun level => Answer.from_check nofun fun _ =>
    Answer.from_done ⟨rfl, Decidable.not_not.mp level, Decidable.not_not.mp idle⟩

theorem restartBlock_from (s : State) :
    (done { s with link := { s.link with restart := .replying } } []).From s s.JourneyStep :=
  Answer.from_done ⟨⟨id, id, id, id, id, id, id, id⟩, rfl⟩

theorem setClockBlock_from (b : List Byte) (s : State) : (setClockBlock b s).From s s.JourneyStep := by
  refine Answer.from_check nofun fun ok => Answer.from_done ?_
  obtain ⟨-, day, second⟩ := Decidable.not_not.mp ok
  have set : s.JourneyStep { s with clock := ⟨true, u8 b 0 * 86400 + u32 b 1, 0⟩ } :=
    State.clock_step fun _ => by dsimp only; omega
  exact (set.trans (State.minuteChange_step s _)).trans (State.settleBrightness_step s _)

/-- What Load Stop's check of form says of the line position (R21). -/
theorem loadStopOk_line {b : List Byte} (h : loadStopOk b = true) : (loadStopRecord b).line ≤ 4000000 := by
  simp only [loadStopOk, Bool.and_eq_true, decide_eq_true_eq] at h
  obtain ⟨⟨⟨⟨⟨⟨⟨⟨⟨⟨⟨-, line⟩, -⟩, -⟩, -⟩, -⟩, -⟩, -⟩, -⟩, -⟩, -⟩, -⟩ := h
  exact line

theorem loadStopBlock_from (b : List Byte) (s : State) : (loadStopBlock b s).From s s.JourneyStep := by
  refine Answer.from_check nofun fun ok => Answer.from_check nofun fun _ => Answer.from_check nofun fun _ =>
    Answer.from_check nofun fun _ => Answer.from_check nofun fun room => Answer.from_done ?_
  have line := loadStopOk_line (Decidable.not_not.mp ok)
  have written : s.JourneyStep { s with plan := s.plan.write (u8 b 0) (loadStopRecord b) } := by
    unfold Plan.write
    split
    next below =>
      refine State.stops_step fun few lines => ⟨Nat.le_trans (Nat.le_of_eq List.length_set) few, fun r hr => ?_⟩
      rcases List.mem_or_eq_of_mem_set hr with old | rfl
      · exact lines r old
      · exact line
    next atEnd =>
      refine State.stops_step fun _ lines => ⟨?_, fun r hr => ?_⟩
      · rw [List.length_append, List.length_singleton]
        omega
      · rcases List.mem_append.mp hr with old | new
        · exact lines r old
        · rw [List.mem_singleton.mp new]
          exact line
  exact (written.optional (State.staleAll_step _)).trans (State.setPlanState_step _ _)

theorem closePlanBlock_from (s : State) : (closePlanBlock s).From s s.JourneyStep := by
  refine Answer.from_check nofun fun _ => ?_
  split
  · exact Answer.from_refuseWith nofun
  · exact Answer.from_done ((s.setPlanState_step _).trans (State.staleAll_step _))

theorem startJourneyBlock_from (s : State) : (startJourneyBlock s).From s s.JourneyStep := by
  refine Answer.from_check nofun fun _ => ?_
  split
  · exact Answer.from_refuse nofun
  · exact Answer.from_done (s.beginJourney_step _)

theorem clearPlanBlock_from (s : State) : (done s.clearPlan []).From s s.JourneyStep :=
  Answer.from_done s.clearPlan_step

theorem amendStopBlock_from (b : List Byte) (s : State) : (amendStopBlock b s).From s s.JourneyStep := by
  refine Answer.from_check nofun fun _ => Answer.from_check nofun fun _ => ?_
  split
  · exact Answer.from_refuse nofun
  next r found =>
    refine Answer.from_done (.ite (fun _ => .refl s) fun _ => .trans ?_ (State.staleBoth_step _))
    refine State.stops_step fun few lines => ⟨Nat.le_trans (Nat.le_of_eq List.length_set) few, fun r' hr => ?_⟩
    rcases List.mem_or_eq_of_mem_set hr with old | rfl
    · exact lines r' old
    · exact lines r (List.mem_of_getElem? found)

theorem setCallBlock_from (b : List Byte) (s : State) : (setCallBlock b s).From s s.JourneyStep :=
  Answer.from_check nofun fun _ => Answer.from_check nofun fun _ => Answer.from_check nofun fun _ =>
    Answer.from_check nofun fun _ => Answer.from_ite (fun _ => Answer.from_done (.refl s)) fun _ =>
      Answer.from_check nofun fun _ => Answer.from_done (s.changeCall_step _ _ _)

theorem readStopBlock_from (b : List Byte) (s : State) : (readStopBlock b s).From s (· = s) := by
  refine Answer.from_check nofun fun _ => Answer.from_ite (fun _ => Answer.from_done rfl) fun _ =>
    Answer.from_check nofun fun _ => ?_
  split
  · exact Answer.from_refuse nofun
  · exact Answer.from_done rfl

/-! ### Odometer, Approach Monitor, formation (chapters 3 and 4) -/

theorem setWheelBlock_from (b : List Byte) (s : State) : (setWheelBlock b s).From s s.JourneyStep :=
  Answer.from_check nofun fun _ => Answer.from_check nofun fun _ => Answer.from_done (State.odo_step rfl)

theorem motionReportBlock_from (b : List Byte) (s : State) : (motionReportBlock b s).From s s.JourneyStep :=
  Answer.from_check nofun fun _ => Answer.from_done (s.reportMotion_step _)

theorem positionFixBlock_from (b : List Byte) (s : State) : (positionFixBlock b s).From s s.JourneyStep :=
  Answer.from_check nofun fun _ => Answer.from_check nofun fun _ => Answer.from_check nofun fun _ =>
    Answer.from_done (s.applyFix_step _ _)

theorem setApproachBlock_from (b : List Byte) (s : State) : (setApproachBlock b s).From s s.JourneyStep :=
  Answer.from_check nofun fun _ => Answer.from_done (s.appr_step _)

theorem setStageBlock_from (b : List Byte) (s : State) : (setStageBlock b s).From s s.JourneyStep := by
  refine Answer.from_check nofun fun _ => Answer.from_check nofun fun _ => ?_
  split
  · exact Answer.from_check nofun fun _ => Answer.from_done (s.setStage_step _ _ _)
  · exact Answer.from_refuse nofun

theorem stageCoachBlock_from (b : List Byte) (s : State) : (stageCoachBlock b s).From s s.JourneyStep :=
  Answer.from_check nofun fun _ => Answer.from_check nofun fun _ => Answer.from_done (s.form_step _)

theorem clearStagedBlock_from (s : State) :
    (done { s with form := { s.form with staged := [] } } []).From s s.JourneyStep :=
  Answer.from_done (s.form_step _)

theorem applyFormationBlock_from (b : List Byte) (s : State) : (applyFormationBlock b s).From s s.JourneyStep := by
  refine Answer.from_check nofun fun _ => Answer.from_check nofun fun _ => ?_
  split
  · exact Answer.from_refuseWith nofun
  · exact Answer.from_check nofun fun _ => Answer.from_check nofun fun _ =>
      Answer.from_done (s.applyFormation_step _)

theorem setLeadingEndBlock_from (b : List Byte) (s : State) : (setLeadingEndBlock b s).From s s.JourneyStep :=
  Answer.from_check nofun fun _ => Answer.from_check nofun fun _ =>
    Answer.from_done (.ite (fun _ => .refl s) fun _ => s.turnTrain_step _)

theorem writeLayoutBlock_from (b : List Byte) (s : State) : (writeLayoutBlock b s).From s s.JourneyStep :=
  Answer.from_check nofun fun _ => Answer.from_done ((s.form_step _).optional (State.staleWhere_step _ _))

theorem readFormationBlock_from (b : List Byte) (s : State) : (readFormationBlock b s).From s (· = s) :=
  Answer.from_check nofun fun _ => Answer.from_ite (fun _ => Answer.from_done rfl) fun _ =>
    Answer.from_ite (fun _ => Answer.from_done rfl) fun _ => Answer.from_done rfl

/-! ### Seats, holds and marks (chapters 5 and 6) -/

theorem createSeat_from (b : List Byte) (s : State) : (createSeat b s).From s s.JourneyStep := by
  unfold createSeat
  dsimp only
  split
  next fresh =>
    refine Answer.from_check nofun fun room => ?_
    simp only [not_or, Nat.not_le] at room
    exact Answer.from_done (State.addSeat_step fresh room.1 room.2)
  next x found =>
    exact Answer.from_check nofun fun _ => Answer.from_check nofun fun room =>
      Answer.from_done (State.redefineSeat_step found (Nat.lt_of_not_le room))

theorem deleteSeat_from (b : List Byte) (s : State) : (deleteSeat b s).From s s.JourneyStep := by
  unfold deleteSeat
  split
  · exact Answer.from_refuse nofun
  next x found =>
    refine Answer.from_check nofun fun empty =>
      Answer.from_done (State.dropSeat_step ?_ (List.mem_of_find?_eq_some found))
    simpa using empty

theorem defineSeatBlock_from (b : List Byte) (s : State) : (defineSeatBlock b s).From s s.JourneyStep :=
  Answer.from_check nofun fun _ => Answer.from_ite (fun _ => createSeat_from b s) fun _ => deleteSeat_from b s

/-- A seat that is found is found by its own number. -/
theorem State.seat?_self {s : State} {num : Nat} {x : Seat} (found : s.seat? num = some x) :
    s.seat? x.number = some x := by rw [State.seat?_number found, found]

theorem blockSeatBlock_from (b : List Byte) (s : State) : (blockSeatBlock b s).From s s.JourneyStep := by
  refine Answer.from_check nofun fun _ => ?_
  split
  · exact Answer.from_refuse nofun
  · exact Answer.from_done (s.blockSeat_step _ _)

theorem State.legRefusal_ne_done {s : State} {f t : Nat} {st : Status} (h : s.legRefusal f t = some st) :
    st ≠ .done := by
  rintro rfl
  unfold State.legRefusal at h
  split at h
  · exact nomatch h
  · split at h
    · split at h
      · exact nomatch h
      · split at h <;> exact nomatch h
    · exact nomatch h

theorem putBlock_from {b : List Byte} {x : Seat} {s : State} (found : s.seat? x.number = some x) :
    (putBlock b x s).From s s.JourneyStep :=
  Answer.from_check nofun fun _ => Answer.from_check nofun fun room =>
    Answer.from_done (State.putSegment_step found fun none => room (.inr none))

theorem putSegmentBlock_from (b : List Byte) (s : State) : (putSegmentBlock b s).From s s.JourneyStep := by
  refine Answer.from_check nofun fun _ => Answer.from_check nofun fun _ => ?_
  split
  · exact Answer.from_refuse nofun
  next x found =>
    refine Answer.from_check nofun fun _ => ?_
    split
    next st refused => exact Answer.from_refuse (State.legRefusal_ne_done refused)
    next => exact putBlock_from (State.seat?_self found)

theorem removeSegmentBlock_from (b : List Byte) (s : State) : (removeSegmentBlock b s).From s s.JourneyStep := by
  refine Answer.from_check nofun fun _ => ?_
  split
  · exact Answer.from_refuse nofun
  next x found =>
    split
    · exact Answer.from_refuse nofun
    · exact Answer.from_done (State.removeSegment_step (State.seat?_self found))

theorem clearSeatBlock_from (b : List Byte) (s : State) : (clearSeatBlock b s).From s s.JourneyStep := by
  refine Answer.from_check nofun fun _ => ?_
  split
  · exact Answer.from_refuse nofun
  next x found => exact Answer.from_done (State.clearSeat_step (State.seat?_self found))

theorem moveSeatBlock_from (b : List Byte) (s : State) : (moveSeatBlock b s).From s s.JourneyStep := by
  refine Answer.from_check nofun fun form => Answer.from_check nofun fun _ => ?_
  have apart : u16 b 0 ≠ u16 b 2 := (Decidable.not_not.mp form).2.2.2
  split
  next x y foundX foundY =>
    refine Answer.from_ite (fun _ => Answer.from_refuseWith nofun) fun _ =>
      Answer.from_ite (fun _ => Answer.from_refuseWith nofun) fun _ => ?_
    split
    · exact Answer.from_refuseWith nofun
    · refine Answer.from_done (State.moveSeat_step (State.seat?_self foundX) (State.seat?_self foundY) ?_)
      rw [State.seat?_number foundX, State.seat?_number foundY]
      exact apart
  · exact Answer.from_refuse nofun

theorem readSeatBlock_from (b : List Byte) (s : State) : (readSeatBlock b s).From s (· = s) := by
  refine Answer.from_check nofun fun _ => ?_
  split
  · exact Answer.from_refuse nofun
  · exact Answer.from_done rfl

theorem readBayBlock_from (b : List Byte) (s : State) : (readBayBlock b s).From s (· = s) :=
  Answer.from_check nofun fun _ => Answer.from_done rfl

theorem heldReadBlock_from (p : Port) (b : List Byte) (s : State) : (heldReadBlock p b s).From s s.JourneyStep := by
  refine Answer.from_check nofun fun _ => ?_
  split
  · exact Answer.from_refuse nofun
  · exact Answer.from_done (s.setHold_step _ _)

theorem State.commitLegRefusal_ne_done {s : State} {b : List Byte} {st : Status} {i : Nat}
    (h : s.commitLegRefusal b = some (st, i)) : st ≠ .done := by
  obtain ⟨j, -, leg⟩ := List.exists_of_findSome?_eq_some h
  obtain ⟨st', refused, same⟩ := Option.map_eq_some_iff.mp leg
  cases same
  exact State.legRefusal_ne_done refused

theorem commitChecks_from {b : List Byte} {x : Seat} {s : State} (found : s.seat? x.number = some x) :
    (commitChecks b x s).From s s.JourneyStep := by
  refine Answer.from_check nofun fun _ => Answer.from_ite (fun _ => Answer.from_refuseWith nofun) fun _ => ?_
  split
  next st i refused => exact Answer.from_refuseWith (State.commitLegRefusal_ne_done refused)
  next =>
    split
    · exact Answer.from_refuseWith nofun
    · exact Answer.from_check nofun fun room =>
        Answer.from_done (State.commitSeat_step found (Nat.le_of_not_lt room))

theorem commitBlock_from (p : Port) (b : List Byte) (s : State) : (commitBlock p b s).From s s.JourneyStep := by
  refine Answer.from_check nofun fun _ => ?_
  split
  · exact Answer.from_refuseWith nofun
  · split
    · exact Answer.from_refuse nofun
    next x found => exact commitChecks_from (State.seat?_self found)

theorem takeMarksBlock_from (p : Port) (b : List Byte) (s : State) : (takeMarksBlock p b s).From s s.JourneyStep :=
  Answer.from_check nofun fun _ => Answer.from_done (s.holds_step _)

/-! ### Notices (chapter 7) -/

theorem postNoticeBlock_from (b : List Byte) (s : State) : (postNoticeBlock b s).From s s.JourneyStep := by
  refine Answer.from_check nofun fun _ => Answer.from_check nofun fun _ => Answer.from_check nofun fun room =>
    Answer.from_done (.trans (State.place_step fun info running => ?_) (State.settle_step s _))
  rw [info] at room
  have goes : s.goesToQueue .information = true := by
    unfold State.goesToQueue
    cases h : s.seq.active with
    | none => exact absurd h running
    | some n => rfl
  rw [goes, Bool.true_and] at room
  exact Bool.not_eq_true _ ▸ room

theorem withdrawBlock_from (p : Port) (b : List Byte) (s : State) : (withdrawBlock p b s).From s s.JourneyStep := by
  refine Answer.from_check nofun fun _ => ?_
  split
  · exact Answer.from_refuse nofun
  · exact Answer.from_check nofun fun _ => Answer.from_done ((s.withdraw_step _ _).trans (State.settle_step s _))

theorem clearAlarmBlock_from (s : State) : (clearAlarmBlock s).From s s.JourneyStep :=
  Answer.from_check nofun fun _ => Answer.from_done (s.endActive_step.trans (State.settle_step s _))

/-! ### Phrase Store (chapter 8) -/

/-- A program starts under the latch, in an entry of the store (R173, R174). -/
theorem writePhraseBlock_from (b : List Byte) (s : State) : (writePhraseBlock b s).From s fun t =>
    t = { s with store := s.store.startProgram (u16 b 0) (u8 b 2) (b.drop 3) }
      ∧ s.store.latch = true ∧ u16 b 0 < 1024 ∧ u8 b 2 < 4 := by
  refine Answer.from_check nofun fun ok => Answer.from_check nofun fun latch => Answer.from_check nofun fun _ =>
    Answer.from_check nofun fun _ => Answer.from_check nofun fun _ => Answer.from_done ?_
  have form := Decidable.not_not.mp ok
  simp only [writeOk, Bool.and_eq_true, decide_eq_true_eq] at form
  obtain ⟨⟨⟨-, phrase⟩, lang⟩, -⟩ := form
  exact ⟨rfl, Decidable.not_not.mp latch, phrase, lang⟩

/-- An erase starts under the latch (R175, R176). -/
theorem eraseSectorsBlock_from (b : List Byte) (s : State) : (eraseSectorsBlock b s).From s fun t =>
    t = { s with store := s.store.startErase (u8 b 0) (u8 b 1) } ∧ s.store.latch = true := by
  refine Answer.from_check nofun fun _ => Answer.from_check nofun fun latch => ?_
  split
  · exact Answer.from_refuseWith nofun
  · exact Answer.from_check nofun fun _ => Answer.from_done ⟨rfl, Decidable.not_not.mp latch⟩

theorem holdEraseBlock_from (s : State) : (holdEraseBlock s).From s fun t =>
    ∃ er, s.store.op = .erasing er ∧ t = s.setOp (.eraseHeld er) := by
  unfold holdEraseBlock
  split
  next er running => exact Answer.from_done ⟨er, running, rfl⟩
  next => exact Answer.from_refuse nofun

theorem resumeEraseBlock_from (s : State) : (resumeEraseBlock s).From s fun t =>
    ∃ er, s.store.op = .eraseHeld er ∧ t = s.setOp (.erasing er) := by
  unfold resumeEraseBlock
  split
  next er held => exact Answer.from_done ⟨er, held, rfl⟩
  · exact Answer.from_refuse nofun
  · exact Answer.from_refuse nofun

theorem readPhraseBlock_from (b : List Byte) (s : State) : (readPhraseBlock b s).From s (· = s.suspendErase) :=
  Answer.from_check nofun fun _ => Answer.from_ite (fun _ => rfl) fun _ => Answer.from_done rfl

theorem lockSectorsBlock_from (b : List Byte) (s : State) : (lockSectorsBlock b s).From s fun t =>
    ∃ bits, t = { s with store := { s.store with locks := bits } } :=
  Answer.from_check nofun fun _ => Answer.from_check nofun fun _ => Answer.from_check nofun fun _ =>
    Answer.from_done ⟨_, rfl⟩

theorem lockFixedBlock_from (s : State) : (lockFixedBlock s).From s fun t =>
    t = { s with store := { s.store with fixedLock := true } } :=
  Answer.from_check nofun fun _ => Answer.from_done rfl

/-! ### Panels and languages (chapter 9) -/

/-- A record inserted by its address (9.1). -/
theorem insertPanel_perm (x : Panel) (l : List Panel) : (insertPanel x l).Perm (x :: l) := by
  induction l with
  | nil => exact .refl _
  | cons y ys ih =>
    unfold insertPanel
    split
    · exact .refl _
    · exact (ih.cons y).trans (.swap x y ys)

theorem pairwise_insertPanel {x : Panel} {l : List Panel} (rising : l.Pairwise fun y z => y.addr < z.addr)
    (fresh : ∀ y ∈ l, y.addr ≠ x.addr) : (insertPanel x l).Pairwise fun y z => y.addr < z.addr := by
  induction l with
  | nil => exact List.pairwise_singleton _ _
  | cons y ys ih =>
    obtain ⟨first, rest⟩ := List.pairwise_cons.mp rising
    unfold insertPanel
    split
    next below =>
      refine List.pairwise_cons.mpr ⟨fun z hz => ?_, rising⟩
      rcases List.mem_cons.mp hz with rfl | hz
      · exact below
      · exact Nat.lt_trans below (first z hz)
    next above =>
      refine List.pairwise_cons.mpr ⟨fun z hz => ?_, ih rest fun z hz => fresh z (List.mem_cons_of_mem y hz)⟩
      rcases List.mem_cons.mp ((insertPanel_perm x ys).mem_iff.mp hz) with rfl | hz
      · have apart := fresh y List.mem_cons_self
        omega
      · exact first z hz

/-- A record defined within its range and its kind's limit keeps the panel law (R191, R192). -/
theorem State.putPanel_step {addr param : Nat} {k : PanelKind} {s : State} (low : 1 ≤ addr) (high : addr ≤ 24)
    (room : s.line.kindFull k addr = false) : s.JourneyStep (s.putPanel addr k param) := by
  have limit (kind : PanelKind) (limited : kind ≠ .seatStrip) (h : k = kind) : s.line.othersOf kind addr < 4 := by
    subst h
    simpa [PanelLine.kindFull, limited] using room
  unfold State.putPanel
  split
  next x found =>
    refine ⟨⟨id, id, id, id, id, id, fun ⟨rising, range, maps, banners⟩ => ?_, id⟩, rfl⟩
    have mem := List.mem_of_find?_eq_some found
    have isAddr : x.addr = addr := by simpa using List.find?_some found
    have addrs : (s.line.panels.map fun y => if y.addr = addr then y.redefine k param else y).map Panel.addr
        = s.line.panels.map Panel.addr := by
      rw [List.map_map]
      refine List.map_congr_left fun y _ => ?_
      rw [Function.comp_apply]
      split <;> rfl
    have count (kind : PanelKind) (limited : kind ≠ .seatStrip)
        (few : s.line.panels.countP (fun y => decide (y.kind = kind)) ≤ 4) :
        (s.line.panels.map fun y => if y.addr = addr then y.redefine k param else y).countP
          (fun y => decide (y.kind = kind)) ≤ 4 := by
      obtain ⟨front, back, panels⟩ := List.append_of_mem mem
      have apart : ∀ y ∈ front ++ back, y.addr ≠ addr := by
        rw [panels, List.pairwise_append, List.pairwise_cons] at rising
        obtain ⟨-, ⟨above, -⟩, below⟩ := rising
        intro y hy
        rcases List.mem_append.mp hy with hy | hy
        · have order := below y hy x List.mem_cons_self
          omega
        · have order := above y hy
          omega
      have others (part : List Panel) (h : ∀ y ∈ part, y.addr ≠ addr) :
          (part.map fun y => if y.addr = addr then y.redefine k param else y) = part := by
        conv => rhs; rw [← List.map_id part]
        exact List.map_congr_left fun y hy => if_neg (h y hy)
      have skip (part : List Panel) (h : ∀ y ∈ part, y.addr ≠ addr) :
          part.countP (fun y => decide (y.kind = kind) && decide (y.addr ≠ addr))
            = part.countP fun y => decide (y.kind = kind) :=
        List.countP_congr fun y hy => by simp [h y hy]
      have full := limit kind limited
      rw [PanelLine.othersOf, panels] at full
      rw [panels] at few
      rw [panels, List.map_append, List.map_cons, others front fun y hy => apart y (List.mem_append_left _ hy),
        others back fun y hy => apart y (List.mem_append_right _ hy), if_pos isAddr]
      simp only [List.countP_append, List.countP_cons] at few full ⊢
      rw [skip front fun y hy => apart y (List.mem_append_left _ hy),
        skip back fun y hy => apart y (List.mem_append_right _ hy)] at full
      by_cases isKind : k = kind
      · have below := full isKind
        have this : (if decide ((x.redefine k param).kind = kind) = true then 1 else 0) ≤ 1 := by split <;> omega
        simp only [isAddr, ne_eq, not_true_eq_false, decide_false, Bool.and_false, Bool.false_eq_true,
          if_false] at below
        omega
      · rw [if_neg fun h : decide ((x.redefine k param).kind = kind) = true => isKind (of_decide_eq_true h)]
        omega
    refine ⟨?_, fun y hy => ?_, count _ nofun maps, count _ nofun banners⟩
    · have pairs := List.pairwise_map (f := Panel.addr) (R := (· < ·)).mpr rising
      rw [← addrs] at pairs
      exact List.pairwise_map.mp pairs
    · have key : y.addr ∈ s.line.panels.map Panel.addr := addrs ▸ List.mem_map_of_mem hy
      obtain ⟨z, hz, same⟩ := List.mem_map.mp key
      exact same ▸ range z hz
  next absent =>
    refine ⟨⟨id, id, id, id, id, id, fun ⟨rising, range, maps, banners⟩ => ?_, id⟩, rfl⟩
    have fresh : ∀ y ∈ s.line.panels, y.addr ≠ addr := by simpa [PanelLine.panel?] using absent
    have perm := insertPanel_perm (newPanel addr k param) s.line.panels
    have count (kind : PanelKind) (limited : kind ≠ .seatStrip)
        (few : s.line.panels.countP (fun y => decide (y.kind = kind)) ≤ 4) :
        (insertPanel (newPanel addr k param) s.line.panels).countP (fun y => decide (y.kind = kind)) ≤ 4 := by
      rw [perm.countP_eq, List.countP_cons]
      by_cases isKind : k = kind
      · have below := limit kind limited isKind
        have all : s.line.othersOf kind addr = s.line.panels.countP fun y => decide (y.kind = kind) :=
          List.countP_congr fun y hy => by simp [fresh y hy]
        have this : (if decide ((newPanel addr k param).kind = kind) = true then 1 else 0) ≤ 1 := by
          split <;> omega
        omega
      · rw [if_neg fun h : decide ((newPanel addr k param).kind = kind) = true => isKind (of_decide_eq_true h)]
        exact few
    refine ⟨pairwise_insertPanel rising fresh, fun y hy => ?_, count _ nofun maps, count _ nofun banners⟩
    rcases List.mem_cons.mp (perm.mem_iff.mp hy) with rfl | old
    · exact ⟨low, high⟩
    · exact range y old

theorem State.dropPanel_step (addr : Nat) (s : State) : s.JourneyStep (s.dropPanel addr) := by
  refine ⟨⟨id, id, id, id, id, id, fun ⟨rising, range, maps, banners⟩ => ?_, id⟩, rfl⟩
  have sub := List.filter_sublist (p := fun x : Panel => decide (x.addr ≠ addr)) (l := s.line.panels)
  exact ⟨rising.sublist sub, fun x hx => range x (sub.subset hx), Nat.le_trans sub.countP_le maps,
    Nat.le_trans sub.countP_le banners⟩

theorem definePanelBlock_from (b : List Byte) (s : State) : (definePanelBlock b s).From s s.JourneyStep := by
  refine Answer.from_check nofun fun ok => Answer.from_ite (fun _ => ?_) fun _ => ?_
  · have form := Decidable.not_not.mp ok
    simp only [definePanelOk, Bool.and_eq_true, decide_eq_true_eq] at form
    obtain ⟨⟨⟨⟨-, low⟩, high⟩, -⟩, -⟩ := form
    exact Answer.from_check nofun fun room =>
      Answer.from_done (State.putPanel_step low high (Bool.eq_false_iff.mpr room))
  · exact Answer.from_check nofun fun _ => Answer.from_done (s.dropPanel_step _)

/-- The rotation changes no record of the panel table (R199, R200). -/
theorem State.rotation_step {l : PanelLine} {s : State} (h : l.panels = s.line.panels) :
    s.JourneyStep ({ s with line := l }.staleRotation) :=
  (State.line_step (congrArg (List.map Panel.key) h)).trans (State.staleRotation_step _)

theorem State.setLanguages_step (langs : List Nat) (dwell : Nat) (s : State) :
    s.JourneyStep (s.setLanguages langs dwell) := State.rotation_step rfl

theorem State.rotate_step (s : State) : s.JourneyStep s.rotate := State.rotation_step rfl

theorem setLanguagesBlock_from (b : List Byte) (s : State) : (setLanguagesBlock b s).From s s.JourneyStep :=
  Answer.from_check nofun fun _ => Answer.from_done (s.setLanguages_step _ _)

/-! ### Brightness (chapter 10) -/

theorem setLevelsBlock_from (b : List Byte) (s : State) : (setLevelsBlock b s).From s fun t =>
    t = s.withBright (s.bright.setLevels b) :=
  Answer.from_check nofun fun _ => Answer.from_done rfl

theorem setTunnelsBlock_from (b : List Byte) (s : State) : (setTunnelsBlock b s).From s fun t =>
    t = s.withBright { s.bright with tunnels := tunnelsOf b } :=
  Answer.from_check nofun fun _ => Answer.from_done rfl

/-- A configuration is written while the guard is not enabled, its ceilings ordered (R214). -/
theorem setHeatGuardBlock_from (b : List Byte) (s : State) : (setHeatGuardBlock b s).From s fun t =>
    t = { s with bright := { s.bright with guard := heatGuardOf b } } ∧ s.bright.guard.enabled = false
      ∧ u8 b 6 ≤ u8 b 5 ∧ u8 b 5 ≤ 15 := by
  refine Answer.from_check nofun fun ok => Answer.from_check nofun fun open' => Answer.from_done ?_
  have form := Decidable.not_not.mp ok
  simp only [heatGuardOk, Bool.and_eq_true, decide_eq_true_eq] at form
  obtain ⟨⟨-, warm⟩, hot⟩ := form
  exact ⟨rfl, Bool.eq_false_iff.mpr open', hot, warm⟩

theorem enableHeatGuardBlock_from (s : State) : (enableHeatGuardBlock s).From s fun t =>
    t = s ∨ (t = s.withBright s.bright.enable ∧ s.bright.guard.enabled = false) :=
  Answer.from_check nofun fun _ => Answer.from_ite (fun _ => Answer.from_done (.inl rfl)) fun off =>
    Answer.from_done (.inr ⟨rfl, Bool.eq_false_iff.mpr off⟩)

end Sys2Proof.Machine
end

section
/-!
What every command keeps: the laws, the commands that wait, the identity, and the protection of the store and
of an enabled heat guard.  A request is served by its block; the other commands are taken one by one.
-/
namespace Sys2Proof.Machine

/-! ### What a command keeps -/

/-- An event of the whole part.  locks says that it may change lock bits, guard that it may change the heat
guard's configuration. -/
structure State.PartStep (locks guard : Bool) (s t : State) : Prop where
  laws : s.KeepsLaws t
  pending : t.pending = s.pending
  unitId : t.unitId = s.unitId
  program : s.store.op.program? = none → t.store.op.program? ≠ none → s.store.latch = true
  erase : s.store.op.erase? = none → t.store.op.erase? ≠ none → s.store.latch = true
  fixedLock : s.store.fixedLock = true → t.store.fixedLock = true
  locksKept : locks = false → t.store.locks = s.store.locks
  guardKept : guard = false → s.bright.guard.enabled = true → t.bright.guard = s.bright.guard

section PartStep
variable {l g : Bool} {s t u : State}

theorem State.JourneyStep.part (h : s.JourneyStep t) : s.PartStep l g t where
  laws := h.laws
  pending := h.pending_eq
  unitId := h.unitId_eq
  program none_ some_ := absurd (h.store_eq ▸ none_) some_
  erase none_ some_ := absurd (h.store_eq ▸ none_) some_
  fixedLock set := h.store_eq ▸ set
  locksKept _ := congrArg Store.locks h.store_eq
  guardKept _ _ := congrArg Brightness.guard h.bright_eq

/-- An event before which the Link Unit has done its part. -/
theorem State.JourneyStep.thenPart (h : s.JourneyStep t) (k : t.PartStep l g u) : s.PartStep l g u where
  laws := h.laws.trans k.laws
  pending := k.pending.trans h.pending_eq
  unitId := k.unitId.trans h.unitId_eq
  program := h.store_eq ▸ k.program
  erase := h.store_eq ▸ k.erase
  fixedLock := h.store_eq ▸ k.fixedLock
  locksKept := h.store_eq ▸ k.locksKept
  guardKept := h.bright_eq ▸ k.guardKept

theorem State.PartStep.thenJourney (h : s.PartStep l g t) (k : t.JourneyStep u) : s.PartStep l g u where
  laws := h.laws.trans k.laws
  pending := k.pending_eq.trans h.pending
  unitId := k.unitId_eq.trans h.unitId
  program none_ some_ := h.program none_ (k.store_eq ▸ some_)
  erase none_ some_ := h.erase none_ (k.store_eq ▸ some_)
  fixedLock set := k.store_eq ▸ h.fixedLock set
  locksKept off := (congrArg Store.locks k.store_eq).trans (h.locksKept off)
  guardKept off enabled := (congrArg Brightness.guard k.bright_eq).trans (h.guardKept off enabled)

/-- The write-enable latch is cleared after the event (R171). -/
theorem State.PartStep.thenClearLatch (h : s.PartStep l g t) : s.PartStep l g t.clearLatch where
  laws := h.laws.trans ⟨id, id, id, id, id, id, id, id⟩
  pending := h.pending
  unitId := h.unitId
  program := h.program
  erase := h.erase
  fixedLock := h.fixedLock
  locksKept := h.locksKept
  guardKept := h.guardKept

theorem State.PartStep.ite {c : Prop} [Decidable c] (yes : c → s.PartStep l g t) (no : ¬ c → s.PartStep l g u) :
    s.PartStep l g (if c then t else u) := by
  split
  next h => exact yes h
  next h => exact no h

theorem State.PartStep.live {f : State → State} (h : s.PartStep l g (f s)) : s.PartStep l g (live f s) :=
  .ite (fun _ => h) fun _ => (State.JourneyStep.refl s).part

theorem State.JourneyStep.live {f : State → State} (h : s.JourneyStep (f s)) : s.JourneyStep (live f s) :=
  .ite (fun _ => h) fun _ => .refl s

end PartStep

/-! ### Events of the store -/

section StoreEvents
variable {l g : Bool} {s : State} {st : Store}

/-- An event of the store alone. -/
theorem State.store_part (law : s.StoreLaw → State.StoreLaw { s with store := st })
    (program : s.store.op.program? = none → st.op.program? ≠ none → s.store.latch = true)
    (erase : s.store.op.erase? = none → st.op.erase? ≠ none → s.store.latch = true)
    (fixedLock : s.store.fixedLock = true → st.fixedLock = true)
    (locks : l = false → st.locks = s.store.locks) : s.PartStep l g { s with store := st } :=
  ⟨⟨id, id, id, id, id, law, id, id⟩, rfl, rfl, program, erase, fixedLock, locks, fun _ _ => rfl⟩

/-- An event that leaves the places and the operation under way. -/
theorem State.store_part_of_same (entries : st.entries = s.store.entries) (op : st.op = s.store.op)
    (fixedLock : s.store.fixedLock = true → st.fixedLock = true)
    (locks : l = false → st.locks = s.store.locks) : s.PartStep l g { s with store := st } := by
  refine State.store_part (fun law => ?_) (fun off on => absurd off (op ▸ on)) (fun off on => absurd off (op ▸ on))
    fixedLock locks
  simpa only [State.StoreLaw, Store.wf, entries, op] using law

/-- A program starts under the latch in an entry of the store (R173, R174). -/
theorem State.startProgram_part {phrase lang : Nat} {text : List Byte} (latch : s.store.latch = true)
    (hp : phrase < 1024) (hl : lang < 4) :
    s.PartStep l g { s with store := s.store.startProgram phrase lang text } := by
  refine State.store_part (fun ⟨wf, places, _⟩ => ⟨Store.startProgram_wf _ _ _ _ wf, fun x hx => ?_, fun pr hpr => ?_⟩)
    (fun _ _ => latch) (fun _ _ => latch) id fun _ => rfl
  · rcases mem_putEntry _ _ _ x hx with key | old
    · rw [key, entryKey]
      omega
    · exact places x old
  · have started : (s.store.op.withProgram ⟨phrase, lang, text, 2⟩).program? = some ⟨phrase, lang, text, 2⟩ := by
      cases s.store.op <;> rfl
    cases started.symm.trans hpr
    exact ⟨hp, hl⟩

/-- A sector's erase that starts keeps the places and every lock (R168, R176). -/
theorem Store.startSector_same (sector : Nat) (st : Store) :
    (st.startSector sector).entries = st.entries ∧ (st.startSector sector).locks = st.locks
      ∧ (st.startSector sector).fixedLock = st.fixedLock := by
  unfold Store.startSector
  split <;> exact ⟨rfl, rfl, rfl⟩

/-- An erase starts under the latch (R175, R176). -/
theorem State.startErase_part {first last : Nat} (latch : s.store.latch = true) :
    s.PartStep l g { s with store := s.store.startErase first last } := by
  obtain ⟨entries, locks, fixed⟩ := s.store.startSector_same first
  refine State.store_part (fun ⟨wf, places, _⟩ => ⟨?_, ?_, nofun⟩) (fun _ _ => latch) (fun _ _ => latch)
    (fun set => fixed.trans set) fun _ => locks
  · exact Store.startSector_wf first s.store wf
  · exact fun x hx => places x (entries ▸ hx)

/-- An erase that goes on in another operation state (R177 to R179). -/
theorem State.goingErase_part {er : Erase} {op : StoreOp} (running : s.store.op.erase? = some er)
    (idle : op.program? = none) : s.PartStep l g (s.setOp op) :=
  State.store_part (fun ⟨wf, places, _⟩ => ⟨wf, places, fun _ h => nomatch idle.symm.trans h⟩)
    (fun _ on => absurd idle on) (fun off _ => nomatch running.symm.trans off) id fun _ => rfl

theorem State.suspendErase_part : s.PartStep l g s.suspendErase := by
  unfold State.suspendErase
  split
  next er running =>
    refine ⟨⟨id, id, id, id, id, fun ⟨wf, places, _⟩ => ⟨wf, places, nofun⟩, id, id⟩, rfl, rfl,
      fun _ on => absurd rfl on, fun off _ => ?_, id, fun _ => rfl, fun _ _ => rfl⟩
    rw [running] at off
    exact nomatch off
  · exact (State.JourneyStep.refl s).part

end StoreEvents

/-! ### Events of the Brightness Unit -/

section BrightEvents
variable {l g : Bool} {s : State} {x : Brightness}

/-- An event of the Brightness Unit alone. -/
theorem State.bright_part (law : s.HeatLaw → State.HeatLaw { s with bright := x })
    (guard : g = false → s.bright.guard.enabled = true → x.guard = s.bright.guard) :
    s.PartStep l g { s with bright := x } :=
  ⟨⟨id, id, id, id, id, id, id, law⟩, rfl, rfl, fun off on => absurd off on, fun off on => absurd off on, id,
    fun _ => rfl, guard⟩

theorem State.withBright_part (law : s.HeatLaw → State.HeatLaw { s with bright := x })
    (guard : g = false → s.bright.guard.enabled = true → x.guard = s.bright.guard) :
    s.PartStep l g (s.withBright x) :=
  (State.bright_part law guard).thenJourney (State.settleBrightness_step s _)

/-- The heat state is formed OFF while the guard is not enabled (R216). -/
theorem Brightness.formHeat_off (x : Brightness) (off : x.guard.enabled = false) : x.formHeat.heat = .off := by
  simp [Brightness.formHeat, off]

theorem State.heatWindowEnd_part : s.PartStep l g (s.withBright s.bright.windowEnd) := by
  refine State.withBright_part (fun ⟨hot, warm, zeros, _⟩ => ⟨hot, warm, ?_, Brightness.formHeat_off _⟩) fun _ _ => rfl
  show (if s.bright.count = 0 then min 3 (s.bright.zeroRun + 1) else 0) ≤ 3
  split <;> omega

theorem State.enableGuard_part (off : s.bright.guard.enabled = false) :
    s.PartStep l g (s.withBright s.bright.enable) :=
  State.withBright_part (fun ⟨hot, warm, zeros, _⟩ => ⟨hot, warm, zeros, nofun⟩)
    fun _ on => nomatch off.symm.trans on

theorem State.overheatChange_part (active : Bool) : s.PartStep l g (s.overheatChange active) := by
  have lineSet : s.PartStep l g { s with
      overheatLine := active, bright := { s.bright with overheat := active } } :=
    ⟨⟨id, id, id, id, id, id, id, id⟩, rfl, rfl, fun off on => absurd off on, fun off on => absurd off on, id,
      fun _ => rfl, fun _ _ => rfl⟩
  exact (lineSet.thenJourney (State.raise_step _ _)).thenJourney (State.settleBrightness_step s _)

end BrightEvents

end Sys2Proof.Machine
end

section
/-!
The events of the part itself that are not events of chapters 2 to 7: resets, loss of power, rest entry, break,
frames on the ports and on the panel line, and the ends of programs and erases.
-/
namespace Sys2Proof.Machine

/-! ### Resets and power (R15, R16, R186) -/

/-- Every law but the store's holds at reset (R15). -/
theorem State.reset_laws : State.reset.PoolLaw ∧ State.reset.SeatLimits ∧ State.reset.SlotLaw ∧ State.reset.QueueLaw
    ∧ State.reset.ReceiveLaw ∧ State.reset.TravelLaw ∧ State.reset.ClockLaw ∧ State.reset.StoreLaw
    ∧ State.reset.PanelLaw ∧ State.reset.HeatLaw := by
  refine ⟨⟨rfl, .nil⟩, ⟨Nat.zero_le _, fun _ => Nat.zero_le _⟩, ⟨nofun, nofun, nofun, nofun⟩,
    ⟨Nat.zero_le _, Nat.zero_le _⟩, ⟨Nat.zero_le _, Nat.zero_le _⟩, ?_, ?_, ⟨rfl, nofun, nofun⟩,
    ⟨.nil, nofun, Nat.zero_le _, Nat.zero_le _⟩, ?_⟩
  · simp [State.TravelLaw, State.reset, Odometer.reset]
  · simp [State.ClockLaw, State.reset]
  · simp [State.HeatLaw, State.reset, Brightness.reset, HeatGuard.reset]

/-- What a reset leaves keeps the laws, whatever it was before (R15, R16). -/
theorem State.resetBlocks_laws {st : Store} {s : State} (law : s.StoreLaw → State.StoreLaw { s with store := st }) :
    s.KeepsLaws (s.resetBlocks st) := by
  obtain ⟨pool, seats, slots, queue, receive, travel, clock, -, panels, heat⟩ := State.reset_laws
  exact ⟨fun _ => ⟨pool, seats⟩, fun _ => ⟨slots, queue⟩, fun _ => receive, fun _ => travel, fun _ => clock, law,
    fun _ => panels, fun _ => heat⟩

/-- With the operation abandoned no program is under way. -/
theorem State.storeLaw_of_idle {st : Store} {s : State} (entries : st.entries = s.store.entries)
    (idle : st.op = .idle) (law : s.StoreLaw) : State.StoreLaw { s with store := st } := by
  obtain ⟨wf, places, -⟩ := law
  refine ⟨?_, fun x hx => places x (entries ▸ hx), fun pr h => ?_⟩
  · rw [Store.wf] at wf ⊢
    exact entries ▸ wf
  · rw [idle] at h
    exact nomatch h

theorem State.raiseDamage_step (s : State) : s.JourneyStep s.raiseDamage := State.JourneyStep.optional (.refl s) (s.raise_step _)

theorem State.raiseOverheat_step (s : State) : s.JourneyStep s.raiseOverheat :=
  .optional (.refl s) (s.raise_step _)

theorem State.powerUp_part (s : State) : s.PartStep false true s.powerUp := by
  have blocks : s.PartStep false true (s.resetBlocks s.store.lose.scan) :=
    ⟨State.resetBlocks_laws (State.storeLaw_of_idle rfl rfl), rfl, rfl, fun _ on => absurd rfl on,
      fun _ on => absurd rfl on, id, fun _ => rfl, nofun⟩
  exact (blocks.thenJourney (State.raiseDamage_step _)).thenJourney (State.raiseOverheat_step _)

theorem State.restartReset_part (s : State) : s.PartStep false false s.restartReset := by
  have blocks : s.PartStep false false { s.resetBlocks s.store.abandon with
      clock := s.clock
      bright := { (s.resetBlocks s.store.abandon).bright with
        guard := s.bright.guard
        heat := if s.bright.guard.enabled then .hot else .off } } := by
    have laws := State.resetBlocks_laws (s := s) (st := s.store.abandon) (State.storeLaw_of_idle rfl rfl)
    refine ⟨⟨laws.pool, laws.places, laws.receive, laws.travel, id, laws.store, laws.panels, ?_⟩, rfl, rfl,
      fun _ on => absurd rfl on, fun _ on => absurd rfl on, id, fun _ => rfl, fun _ _ => rfl⟩
    rintro ⟨hot, warm, -, -⟩
    exact ⟨hot, warm, Nat.zero_le _, fun off => if_neg (Bool.eq_false_iff.mp off)⟩
  exact ((blocks.thenJourney (State.raiseDamage_step _)).thenJourney (State.raiseOverheat_step _)).thenJourney
    (State.settleBrightness_step s _)

theorem State.losePower_part (s : State) : s.PartStep false true s.losePower := by
  have laws := State.resetBlocks_laws (s := s) (st := s.store.lose) (State.storeLaw_of_idle rfl rfl)
  exact ⟨⟨laws.pool, laws.places, fun _ => ⟨Nat.zero_le _, Nat.zero_le _⟩, laws.travel, laws.clock, laws.store,
    laws.panels, laws.heat⟩, rfl, rfl, fun _ on => absurd rfl on, fun _ on => absurd rfl on, id, fun _ => rfl, nofun⟩

/-! ### Rest entry (R17) -/

/-- At level 0 both slots are empty, so that ending the notices keeps the slot law (R166). -/
theorem State.enterRest_part {s : State} (level : s.level = 0) : s.PartStep false false s.enterRest := by
  have emptied : s.JourneyStep { s with seq := { s.seq with queue := [] } } := State.seqStep fun law => by
    obtain ⟨slot1, slot2, cls1, cls2, -, -⟩ := law
    exact ⟨slot1, slot2, cls1, cls2, Nat.zero_le _, Nat.zero_le _⟩
  have dropped (t : State) (low : t.level = 0) : t.JourneyStep t.dropActive :=
    .ite (fun _ => State.seqStaleStep fun law => Sequencer.lawful_of_slots_none (law.slot1_none low)
      (law.slot2_none (by rw [show levelOf t.seq.active = 0 from low]; nofun)) law.2.2.2.2.1 law.2.2.2.2.2)
      fun _ => .refl t
  have ended : s.JourneyStep s.restNotices := emptied.trans (dropped _ level)
  have broken := ended.trans (State.breakHolds_step (fun _ => true) _)
  refine broken.thenPart ⟨⟨id, id, id, id, id, id, ?_, id⟩, rfl, rfl, fun off on => absurd off on,
    fun off on => absurd off on, id, fun _ => rfl, fun _ _ => rfl⟩
  exact State.panelLaw_of_key (map_key_map (f := fun x => { x with probe := .stopped }) (fun _ => rfl) _)

/-! ### Ports (R1 to R4, R10 to R12) -/

theorem PortState.offer_queue {r : Request} {ps : PortState} (h : ps.queue.length ≤ 4) :
    (ps.offer r).queue.length ≤ 4 := by
  unfold PortState.offer
  split
  · rw [List.length_append, List.length_singleton]
    omega
  · exact h

theorem PortState.char_queue {b : Byte} {ps : PortState} (h : ps.queue.length ≤ 4) :
    (ps.char b).queue.length ≤ 4 := by
  unfold PortState.char
  split
  · exact h
  · split <;> exact h
  next got receiving =>
    dsimp only
    split
    · exact h
    · split
      · exact h
      · split
        · exact h
        · unfold PortState.complete
          dsimp only
          split
          · exact PortState.offer_queue h
          · exact h

theorem PortState.chars_queue {bytes : List Byte} {ps : PortState} (h : ps.queue.length ≤ 4) :
    (bytes.foldl PortState.char ps).queue.length ≤ 4 := by
  induction bytes generalizing ps with
  | nil => exact h
  | cons b rest ih => exact ih (PortState.char_queue h)

theorem PortState.idleTimeout_queue (ps : PortState) : ps.idleTimeout.queue = ps.queue := by
  unfold PortState.idleTimeout
  split <;> rfl

theorem PortState.lineIdle_queue (ps : PortState) : ps.lineIdle.queue = ps.queue := by
  unfold PortState.lineIdle
  split
  · rfl
  · exact ps.idleTimeout_queue

theorem State.startReport_step (p : Port) (s : State) : s.JourneyStep (s.startReport p) :=
  State.JourneyStep.optional (s.onPort_step p _ id) (State.holds_step _ _)

theorem State.startReply_step (p : Port) (r : Reply) (s : State) : s.JourneyStep (s.startReply p r) :=
  s.onPort_step p _ id

theorem State.startNext_step (p : Port) (s : State) : s.JourneyStep (s.startNext p) := by
  refine .ite (fun _ => .refl s) fun _ => ?_
  split
  · exact s.startReply_step p _
  · exact .ite (fun _ => .refl s) fun _ => s.startReport_step p

theorem State.finishReply_step (p : Port) (s : State) : s.JourneyStep (s.finishReply p) := by
  have finished : s.JourneyStep (s.onPort p fun ps => { ps with queue := ps.queue.tail, service := .untaken, tx := .free }) :=
    s.onPort_step p _ fun few => Nat.le_trans (by rw [List.length_tail]; exact Nat.sub_le _ _) few
  refine .ite (fun _ => finished.trans ⟨⟨id, id, id, id, id, id, id, id⟩, rfl⟩) fun _ => ?_
  exact .ite (fun _ => finished.trans (State.startNext_step p _)) fun _ => finished

theorem State.breakPort_part (p : Port) (s : State) : s.PartStep false false (s.breakPort p) := by
  have broken : s.JourneyStep ((s.onPort p PortState.broken).setHold p ((s.holds.get p).breakIf fun _ => true)) :=
    (s.onPort_step p _ fun _ => Nat.zero_le _).trans (State.setHold_step _ _ _)
  cases p with
  | content =>
    exact broken.thenPart ⟨⟨id, id, id, id, id, id, id, id⟩, rfl, rfl, fun off on => absurd off on,
      fun off on => absurd off on, id, fun _ => rfl, fun _ _ => rfl⟩
  | operations => exact .ite (fun _ => broken.part) fun _ => s.restartReset_part

/-! ### The panel line (R194 to R198, R207) -/

theorem State.updatePanel_step (addr : Nat) {f : Panel → Panel} (s : State)
    (key : ∀ x, (f x).key = x.key := by intro; rfl) : s.JourneyStep (s.updatePanel addr f) :=
  State.line_step (map_key_map (fun x => by split <;> simp [key]) _)

/-- The line alone: its frame, its last-served addresses, its timers. -/
theorem State.flight_step {l : PanelLine} {s : State} (h : l.panels = s.line.panels) :
    s.JourneyStep { s with line := l } := State.line_step (congrArg (List.map Panel.key) h)

/-- The bytes of a page are formed and sent; a running erase is suspended after that (R179, R195). -/
theorem State.launchPage_eq (fr : Frame) (cells : List Cell) (s : State) : ∃ t, s.JourneyStep t
    ∧ s.launchPage fr cells = if readsStore cells then t.suspendErase else t := by
  refine ⟨_, ?_, rfl⟩
  exact (State.JourneyStep.ite (fun _ => .refl s) fun _ => s.updatePanel_step _).trans (State.flight_step rfl)

theorem State.launchPage_part {l g : Bool} (fr : Frame) (cells : List Cell) (s : State) :
    s.PartStep l g (s.launchPage fr cells) := by
  obtain ⟨t, sent, result⟩ := s.launchPage_eq fr cells
  rw [result]
  exact .ite (fun _ => sent.thenPart State.suspendErase_part) fun _ => sent.part

/-- Only a running erase is suspended for a read (R179). -/
theorem State.suspendErase_of_not_running {s : State} (h : ∀ er, s.store.op ≠ .erasing er) : s.suspendErase = s := by
  unfold State.suspendErase
  split
  next er running => exact absurd running (h er)
  · rfl

theorem State.launchPage_step {s : State} (h : ∀ er, s.store.op ≠ .erasing er) (fr : Frame) (cells : List Cell) :
    s.JourneyStep (s.launchPage fr cells) := by
  obtain ⟨t, sent, result⟩ := s.launchPage_eq fr cells
  rw [result, State.suspendErase_of_not_running (sent.store_eq ▸ h)]
  exact .ite (fun _ => sent) fun _ => sent

theorem PanelLine.serve_panels (k : PanelKind) (addr : Nat) (l : PanelLine) : (l.serve k addr).panels = l.panels := by
  cases k <;> rfl

theorem State.startPage_part {l g : Bool} (x : Panel) (s : State) : s.PartStep l g (s.startPage x) := by
  unfold State.startPage
  extract_lets cells fr s1 line s2
  have sending : s.JourneyStep s1 := s.updatePanel_step x.addr
  have begun : s.JourneyStep s2 := sending.trans (State.flight_step (PanelLine.serve_panels _ _ _))
  exact .ite (fun _ => begun.part) fun _ => begun.thenPart (State.launchPage_part _ _ _)

theorem State.sendPage_part {l g : Bool} (s : State) : s.PartStep l g s.sendPage := by
  refine .ite (fun _ => ?_) fun _ => (State.JourneyStep.refl s).part
  split
  · exact State.startPage_part _ s
  · exact (State.JourneyStep.refl s).part

theorem State.sendProbe_step (s : State) : s.JourneyStep s.sendProbe := by
  refine .ite (fun _ => ?_) fun _ => .refl s
  split
  · exact (s.updatePanel_step _).trans (State.flight_step rfl)
  · exact .refl s

theorem State.sendBlank_step (s : State) : s.JourneyStep s.sendBlank := by
  refine .ite (fun _ => ?_) fun _ => .refl s
  split
  · exact State.flight_step rfl
  · exact .refl s

theorem State.failPanel_step (addr miss : Nat) (s : State) : s.JourneyStep (s.failPanel addr miss) :=
  (s.updatePanel_step addr).trans (State.raise_step _ _)

theorem State.pageOutcome_step (x : Panel) (o : AckOutcome) (s : State) : s.JourneyStep (s.pageOutcome x o) := by
  cases o with
  | ok => exact s.updatePanel_step _
  | fault => exact s.failPanel_step _ _
  | missing => exact .ite (fun _ => s.updatePanel_step _) fun _ => s.failPanel_step _ _

theorem State.probeOutcome_step (x : Panel) (o : AckOutcome) (s : State) : s.JourneyStep (s.probeOutcome x o) := by
  cases o with
  | ok => exact (s.updatePanel_step _).trans (State.raise_step _ _)
  | fault => exact s.updatePanel_step _
  | missing => exact s.updatePanel_step _

theorem State.answerFrame_step (fr : Frame) (o : AckOutcome) (s : State) : s.JourneyStep (s.answerFrame fr o) := by
  have freed : s.JourneyStep { s with line := { s.line with flight := none } } := State.flight_step rfl
  refine .ite (fun _ => freed) fun _ => ?_
  split
  · exact freed
  · split
    · exact freed.trans (State.pageOutcome_step _ _ _)
    · exact freed.trans (State.probeOutcome_step _ _ _)
    · exact freed

theorem State.takeAnswer_step (o : Frame → Option AckOutcome) (s : State) : s.JourneyStep (s.takeAnswer o) := by
  unfold State.takeAnswer
  split
  · refine .ite (fun _ => ?_) fun _ => .refl s
    split
    · exact s.answerFrame_step _ _
    · exact .refl s
  · exact .refl s

theorem Panel.probeFalls_key (x : Panel) : x.probeFalls.key = x.key := by
  unfold Panel.probeFalls
  split <;> rfl

/-! ### Ends of programs and erases (R174, R176) -/

theorem State.launchWaiting_step {s : State} (h : ∀ er, s.store.op ≠ .erasing er) :
    s.JourneyStep s.launchWaiting := by
  unfold State.launchWaiting
  split
  · split
    · exact State.launchPage_step h _ _
    · exact .refl s
  · exact .refl s

theorem State.answerDeferred_step (p : Port) (s : State) : s.JourneyStep (s.answerDeferred p) := by
  unfold State.answerDeferred
  split
  · exact s.answer_step _ _ _ _
  · exact .refl s

theorem StoreOp.afterProgram_program? (op : StoreOp) : op.afterProgram.program? = none := by cases op <;> rfl

theorem StoreOp.afterProgram_erase? (op : StoreOp) : op.afterProgram.erase? ≠ none → op.erase? ≠ none := by
  cases op <;> simp [StoreOp.afterProgram, StoreOp.erase?]

theorem State.finishProgram_part {l g : Bool} {pr : Program} {s : State} (running : s.store.op.program? = some pr) :
    s.PartStep l g { s with store := s.store.finishProgram pr } := by
  have off := s.store.op.afterProgram_program?
  refine State.store_part (fun ⟨wf, places, range⟩ => ⟨Store.finishProgram_wf _ _ wf, fun x hx => ?_, fun _ h => ?_⟩)
    (fun _ on => absurd off on) (fun none_ on => absurd none_ (StoreOp.afterProgram_erase? _ on)) id fun _ => rfl
  · rcases mem_putEntry _ _ _ x hx with key | old
    · obtain ⟨phrase, lang⟩ := range pr running
      rw [key, entryKey]
      omega
    · exact places x old
  · exact nomatch off.symm.trans h

theorem StoreOp.afterProgram_not_running (op : StoreOp) (er : Erase) : op.afterProgram ≠ .erasing er := by
  cases op <;> exact nofun

theorem State.restaleIncomplete_step (s : State) : s.JourneyStep s.restaleIncomplete := s.staleWhere_step _

/-- No erase runs when a program ends, so that the page that waited suspends none (R174, R195). -/
theorem State.programComplete_part {l g : Bool} {pr : Program} {s : State}
    (running : s.store.op.program? = some pr) : s.PartStep l g (s.programComplete pr) :=
  (State.finishProgram_part running).thenJourney <|
    (State.raise_step _ _).trans <| (State.launchWaiting_step fun er => s.store.op.afterProgram_not_running er).trans <|
      (State.answerDeferred_step _ _).trans <| (State.answerDeferred_step _ _).trans (State.restaleIncomplete_step _)

/-- A sector finished: fewer places, and the erase goes on or is over (R176). -/
theorem State.finishSector_part {l g : Bool} {er : Erase} {st : Store} {s : State}
    (running : s.store.op.erase? = some er) (entries : st.entries = (s.store.finishSector er.current).entries)
    (locks : st.locks = s.store.locks) (fixed : st.fixedLock = s.store.fixedLock) (idle : st.op.program? = none) :
    s.PartStep l g { s with store := st } := by
  refine State.store_part (fun ⟨wf, places, _⟩ => ⟨?_, fun x hx => places x ?_, fun _ h => nomatch idle.symm.trans h⟩)
    (fun _ on => absurd idle on) (fun off _ => nomatch running.symm.trans off) (fun set => fixed.trans set)
    fun _ => locks
  · have kept := Store.finishSector_wf er.current s.store wf
    rw [Store.wf] at kept ⊢
    exact entries ▸ kept
  · rw [entries] at hx
    exact List.mem_of_mem_filter hx

theorem State.sectorFinish_part {l g : Bool} {er : Erase} {s : State} (running : s.store.op = .erasing er) :
    s.PartStep l g (s.sectorFinish er) := by
  have current : s.store.op.erase? = some er := by rw [running]; rfl
  obtain ⟨entries, locks, fixed⟩ := (s.store.finishSector er.current).startSector_same (er.current + 1)
  refine .ite (fun _ => State.finishSector_part current entries locks fixed rfl) fun _ => ?_
  have ended : s.PartStep l g { s with store := { s.store.finishSector er.current with op := .idle } } :=
    State.finishSector_part current rfl rfl rfl rfl
  exact (ended.thenJourney (State.raise_step _ _)).thenJourney
    (State.restaleIncomplete_step _)

end Sys2Proof.Machine
end

section
/-!
Requests and commands: what a request's block keeps, its port's service keeps, and so does every command and
every step (chapter 95).
-/
namespace Sys2Proof

/-- Whether a command may change lock bits (R183). -/
def Instr.relocks : Instr → Bool
  | .lockSectors .. => true
  | _ => false

/-- Whether a command may change an enabled guard's configuration (R15, R186). -/
def Instr.reguards : Instr → Bool
  | .powerUpReset | .powerLoss => true
  | _ => false

end Sys2Proof

namespace Sys2Proof.Machine

/-! ### Blocks that touch the store or the brightness -/

section Blocks
variable {l g : Bool} (b : List Byte) (s : State)

theorem Answer.From.part {s : State} {a : Answer} (h : a.From s s.JourneyStep) : a.From s (s.PartStep l g) :=
  h.imp fun _ k => k.part

/-- A read answers and changes nothing. -/
theorem Answer.from_read {s : State} : (done s b).From s (s.PartStep l g) :=
  Answer.from_done (State.JourneyStep.refl s).part

theorem Answer.From.read {s : State} {a : Answer} (h : a.From s (· = s)) : a.From s (s.PartStep l g) :=
  h.imp fun _ same => by subst same; exact (State.JourneyStep.refl _).part

theorem restBlock_part : (restBlock s).From s (s.PartStep false false) :=
  (restBlock_from s).imp fun _ ⟨same, level, _⟩ => same ▸ State.enterRest_part level

theorem unlock_part : (done { s with store := { s.store with latch := true } } []).From s (s.PartStep l g) :=
  Answer.from_done (State.store_part_of_same rfl rfl id fun _ => rfl)

theorem writePhraseBlock_part : (writePhraseBlock b s).From s (s.PartStep l g) :=
  (writePhraseBlock_from b s).imp fun _ ⟨same, latch, phrase, lang⟩ =>
    same ▸ State.startProgram_part latch phrase lang

theorem eraseSectorsBlock_part : (eraseSectorsBlock b s).From s (s.PartStep l g) :=
  (eraseSectorsBlock_from b s).imp fun _ ⟨same, latch⟩ => same ▸ State.startErase_part latch

theorem holdEraseBlock_part : (holdEraseBlock s).From s (s.PartStep l g) :=
  (holdEraseBlock_from s).imp fun _ ⟨er, running, same⟩ =>
    same ▸ State.goingErase_part (er := er) (by rw [running]; rfl) rfl

theorem resumeEraseBlock_part : (resumeEraseBlock s).From s (s.PartStep l g) :=
  (resumeEraseBlock_from s).imp fun _ ⟨er, held, same⟩ =>
    same ▸ State.goingErase_part (er := er) (by rw [held]; rfl) rfl

theorem readPhraseBlock_part : (readPhraseBlock b s).From s (s.PartStep l g) :=
  (readPhraseBlock_from b s).imp fun _ same => same ▸ State.suspendErase_part

theorem lockSectorsBlock_part : (lockSectorsBlock b s).From s (s.PartStep true g) :=
  (lockSectorsBlock_from b s).imp fun _ ⟨_, same⟩ => same ▸ State.store_part_of_same rfl rfl id nofun

theorem lockFixedBlock_part : (lockFixedBlock s).From s (s.PartStep l g) :=
  (lockFixedBlock_from s).imp fun _ same =>
    same ▸ State.store_part_of_same rfl rfl (fun _ => rfl) fun _ => rfl

theorem setLevelsBlock_part : (setLevelsBlock b s).From s (s.PartStep l g) :=
  (setLevelsBlock_from b s).imp fun _ same => same ▸ State.withBright_part id fun _ _ => rfl

theorem setTunnelsBlock_part : (setTunnelsBlock b s).From s (s.PartStep l g) :=
  (setTunnelsBlock_from b s).imp fun _ same => same ▸ State.withBright_part id fun _ _ => rfl

theorem setHeatGuardBlock_part : (setHeatGuardBlock b s).From s (s.PartStep l g) :=
  (setHeatGuardBlock_from b s).imp fun _ ⟨same, open', hot, warm⟩ => same ▸
    State.bright_part (fun ⟨_, _, zeros, off⟩ => ⟨hot, warm, zeros, fun _ => off open'⟩)
      fun _ on => nomatch open'.symm.trans on

theorem enableHeatGuardBlock_part : (enableHeatGuardBlock s).From s (s.PartStep l g) := by
  refine (enableHeatGuardBlock_from s).imp fun t h => ?_
  rcases h with rfl | ⟨rfl, off⟩
  · exact (State.JourneyStep.refl _).part
  · exact State.enableGuard_part off

end Blocks

/-! ### The service of a request -/

theorem State.linkRefusal_ne_done {s : State} {p : Port} {k : Byte} {b : List Byte} {st : Status}
    (h : s.linkRefusal p k b = some st) : st ≠ .done := by
  rintro rfl
  unfold State.linkRefusal at h
  split at h
  · exact nomatch h
  · split at h
    · exact nomatch h
    · split at h <;> exact nomatch h

/-- A request is not in service, or is refused, or is carried out, or waits (R6, R8, R187). -/
theorem serve_outcomes {p : Port} {k : Byte} {b : List Byte} {always : State → State} {block : State → Answer}
    {s : State} {R : State → Prop} (from_ : (block (s.enter p k b)).From (s.enter p k b) R) :
    (s.inService p k b = false ∧ serve p k b always block s = s)
    ∨ (∃ st body, st ≠ .done ∧ serve p k b always block s = (always (s.enter p k b)).answer p k st body)
    ∨ (∃ t body, R t ∧ serve p k b always block s = (always t).answer p k .done body)
    ∨ (∃ phrase lang, serve p k b always block s
        = (always (s.enter p k b)).onPort p fun ps => { ps with service := .deferred phrase lang }) := by
  rcases serve_cases p k b always block s with absent | ⟨st, _, refused, eq⟩ | ⟨t, st, body, _, _, answer, eq⟩
    | ⟨t, phrase, lang, _, _, answer, eq⟩
  · exact .inl absent
  · exact .inr (.inl ⟨st, [], State.linkRefusal_ne_done refused, eq⟩)
  · rw [answer] at from_
    rcases from_ with ⟨rfl, holds⟩ | ⟨bad, rfl⟩
    · exact .inr (.inr (.inl ⟨t, body, holds, eq⟩))
    · exact .inr (.inl ⟨st, body, bad, eq⟩)
  · rw [answer] at from_
    obtain rfl : t = s.enter p k b := from_
    exact .inr (.inr (.inr ⟨phrase, lang, eq⟩))

/-- What happens to a request of its kind whatever step refuses it keeps what the request keeps (R6). -/
theorem State.PartStep.refusalEffect {l g : Bool} {s t : State} (h : s.PartStep l g t) (p : Port) (k : Byte) :
    s.PartStep l g (t.refusalEffect p k) :=
  .ite (fun _ => h.thenClearLatch) fun _ => .ite (fun _ => h.thenJourney (t.setHold_step _ _)) fun _ => h

theorem serve_part {l g : Bool} {p : Port} {k : Byte} {b : List Byte} {always : State → State}
    {block : State → Answer} (effect : ∀ t, always t = t.refusalEffect p k)
    (from_ : ∀ u, (block u).From u (u.PartStep l g)) (s : State) : s.PartStep l g (serve p k b always block s) := by
  have entered : s.JourneyStep (s.enter p k b) := s.enter_step p k b
  have after {t : State} (h : s.PartStep l g t) : s.PartStep l g (always t) := effect t ▸ h.refusalEffect p k
  rcases serve_outcomes (always := always) (from_ (s.enter p k b)) with ⟨_, eq⟩ | ⟨st, body, _, eq⟩
    | ⟨t, body, carried, eq⟩ | ⟨phrase, lang, eq⟩ <;> rw [eq]
  · exact (State.JourneyStep.refl s).part
  · exact (after entered.part).thenJourney (State.answer_step _ _ _ _ _)
  · exact (after (entered.thenPart carried)).thenJourney (State.answer_step _ _ _ _ _)
  · exact (after entered.part).thenJourney (State.onPort_step p _ _ id)

/-! ### Every request -/

/-- A command serves the request by a block that keeps what the command keeps. -/
def Serves (c : Instr) (p : Port) (k : Byte) (b : List Byte) (s : State) : Prop :=
  ∃ always block, exec c s = .next (serve p k b always block s) ∧ (∀ t, always t = t.refusalEffect p k)
    ∧ ∀ u, (block u).From u (u.PartStep c.relocks c.reguards)

section Serves
variable {c : Instr} {p : Port} {k : Byte} {b : List Byte} {s : State} {always : State → State}
  {block : State → Answer}

theorem serves (eq : exec c s = .next (serve p k b always block s))
    (effect : ∀ t, always t = t.refusalEffect p k)
    (from_ : ∀ u, (block u).From u (u.PartStep c.relocks c.reguards)) : Serves c p k b s :=
  ⟨always, block, eq, effect, from_⟩

/-- A request with an empty payload. -/
theorem serves_empty (eq : exec c s = .next (serve p k b always (emptyPayload b block) s))
    (effect : ∀ t, always t = t.refusalEffect p k)
    (from_ : ∀ u, (block u).From u (u.PartStep c.relocks c.reguards)) : Serves c p k b s :=
  ⟨always, _, eq, effect, fun u => Answer.from_emptyPayload (from_ u)⟩

end Serves

/-- An unknown kind has no effect whatever refuses it (R6). -/
theorem State.refusalEffect_unknown {p : Port} {k : Byte} (unknown : (catalogueRow k).isNone = true) (t : State) :
    t.refusalEffect p k = t := by
  have other (k' : Byte) (known : (catalogueRow k').isNone = false) : k ≠ k' := by
    rintro rfl
    exact nomatch known.symm.trans unknown
  rw [State.refusalEffect, if_neg (not_or.mpr ⟨other 0x61 rfl, other 0x62 rfl⟩), if_neg (other 0x49 rfl)]

/-- A request's command serves it, or is no event, its kind being another row's (R5). -/
theorem serves_request (c : Instr) (s : State) {p : Port} {k : Byte} {b : List Byte}
    (h : c.request? = some (p, k, b)) :
    (c = .unknownKindRequest p k b ∧ exec c s = .next s) ∨ Serves c p k b s := by
  cases c with
  | unknownKindRequest p' k' b' =>
    cases h
    cases known : (catalogueRow k).isNone with
    | false => exact .inl ⟨rfl, by simp [exec, execUnknownKindRequest, known]⟩
    | true =>
      exact .inr (serves (always := id) (block := fun t => done t [])
        (by simp only [exec, execUnknownKindRequest, known, if_true])
        (fun t => (State.refusalEffect_unknown known t).symm) fun _ => Answer.from_read _)
  | readPlanSummary p' =>
    cases h
    exact .inr (serves rfl (fun _ => rfl) fun _ => Answer.from_read _)
  | identify =>
    cases h
    exact .inr (serves_empty rfl (fun _ => rfl) fun _ => Answer.from_read _)
  | status =>
    cases h
    exact .inr (serves_empty rfl (fun _ => rfl) fun _ => Answer.from_read _)
  | restart =>
    cases h
    exact .inr (serves_empty rfl (fun _ => rfl) fun u => (restartBlock_from u).part)
  | rest =>
    cases h
    exact .inr (serves_empty rfl (fun _ => rfl) restBlock_part)
  | wake =>
    cases h
    exact .inr (serves_empty rfl (fun _ => rfl) fun u => (wakeBlock_from u).part)
  | setClock =>
    cases h
    exact .inr (serves rfl (fun _ => rfl) fun u => (setClockBlock_from _ u).part)
  | loadStop =>
    cases h
    exact .inr (serves rfl (fun _ => rfl) fun u => (loadStopBlock_from _ u).part)
  | closePlan =>
    cases h
    exact .inr (serves_empty rfl (fun _ => rfl) fun u => (closePlanBlock_from u).part)
  | startJourney =>
    cases h
    exact .inr (serves_empty rfl (fun _ => rfl) fun u => (startJourneyBlock_from u).part)
  | clearPlan =>
    cases h
    exact .inr (serves_empty rfl (fun _ => rfl) fun u => (clearPlanBlock_from u).part)
  | amendStop =>
    cases h
    exact .inr (serves rfl (fun _ => rfl) fun u => (amendStopBlock_from _ u).part)
  | setCall =>
    cases h
    exact .inr (serves rfl (fun _ => rfl) fun u => (setCallBlock_from _ u).part)
  | readStop =>
    cases h
    exact .inr (serves rfl (fun _ => rfl) fun u => (readStopBlock_from _ u).read)
  | setWheel =>
    cases h
    exact .inr (serves rfl (fun _ => rfl) fun u => (setWheelBlock_from _ u).part)
  | setApproach =>
    cases h
    exact .inr (serves rfl (fun _ => rfl) fun u => (setApproachBlock_from _ u).part)
  | motionReport =>
    cases h
    exact .inr (serves rfl (fun _ => rfl) fun u => (motionReportBlock_from _ u).part)
  | positionFix =>
    cases h
    exact .inr (serves rfl (fun _ => rfl) fun u => (positionFixBlock_from _ u).part)
  | setStage =>
    cases h
    exact .inr (serves rfl (fun _ => rfl) fun u => (setStageBlock_from _ u).part)
  | readPosition =>
    cases h
    exact .inr (serves_empty rfl (fun _ => rfl) fun _ => Answer.from_read _)
  | stageCoach =>
    cases h
    exact .inr (serves rfl (fun _ => rfl) fun u => (stageCoachBlock_from _ u).part)
  | clearStaged =>
    cases h
    exact .inr (serves_empty rfl (fun _ => rfl) fun u => (clearStagedBlock_from u).part)
  | applyFormation =>
    cases h
    exact .inr (serves rfl (fun _ => rfl) fun u => (applyFormationBlock_from _ u).part)
  | setLeadingEnd =>
    cases h
    exact .inr (serves rfl (fun _ => rfl) fun u => (setLeadingEndBlock_from _ u).part)
  | readFormation =>
    cases h
    exact .inr (serves rfl (fun _ => rfl) fun u => (readFormationBlock_from _ u).read)
  | writeLayout =>
    cases h
    exact .inr (serves rfl (fun _ => rfl) fun u => (writeLayoutBlock_from _ u).part)
  | defineSeat =>
    cases h
    exact .inr (serves rfl (fun _ => rfl) fun u => (defineSeatBlock_from _ u).part)
  | removeSeat =>
    cases h
    exact .inr (serves rfl (fun _ => rfl) fun u => (defineSeatBlock_from _ u).part)
  | blockSeat =>
    cases h
    exact .inr (serves rfl (fun _ => rfl) fun u => (blockSeatBlock_from _ u).part)
  | putSegment =>
    cases h
    exact .inr (serves rfl (fun _ => rfl) fun u => (putSegmentBlock_from _ u).part)
  | removeSegment =>
    cases h
    exact .inr (serves rfl (fun _ => rfl) fun u => (removeSegmentBlock_from _ u).part)
  | clearSeat =>
    cases h
    exact .inr (serves rfl (fun _ => rfl) fun u => (clearSeatBlock_from _ u).part)
  | moveSeat =>
    cases h
    exact .inr (serves rfl (fun _ => rfl) fun u => (moveSeatBlock_from _ u).part)
  | readSeat =>
    cases h
    exact .inr (serves rfl (fun _ => rfl) fun u => (readSeatBlock_from _ u).read)
  | readBay =>
    cases h
    exact .inr (serves rfl (fun _ => rfl) fun u => (readBayBlock_from _ u).read)
  | heldRead =>
    cases h
    exact .inr (serves rfl (fun _ => rfl) fun u => (heldReadBlock_from _ _ u).part)
  | commitSeat =>
    cases h
    exact .inr (serves rfl (fun _ => rfl) fun u => (commitBlock_from _ _ u).part)
  | takeMarks =>
    cases h
    exact .inr (serves rfl (fun _ => rfl) fun u => (takeMarksBlock_from _ _ u).part)
  | postNotice =>
    cases h
    exact .inr (serves rfl (fun _ => rfl) fun u => (postNoticeBlock_from _ u).part)
  | withdrawNotice =>
    cases h
    exact .inr (serves rfl (fun _ => rfl) fun u => (withdrawBlock_from _ _ u).part)
  | clearAlarm =>
    cases h
    exact .inr (serves_empty rfl (fun _ => rfl) fun u => (clearAlarmBlock_from u).part)
  | readNotices =>
    cases h
    exact .inr (serves_empty rfl (fun _ => rfl) fun _ => Answer.from_read _)
  | storeUnlock =>
    cases h
    exact .inr (serves_empty rfl (fun _ => rfl) unlock_part)
  | writePhrase =>
    cases h
    exact .inr (serves rfl (fun _ => rfl) (writePhraseBlock_part _))
  | eraseSectors =>
    cases h
    exact .inr (serves rfl (fun _ => rfl) (eraseSectorsBlock_part _))
  | holdErase =>
    cases h
    exact .inr (serves_empty rfl (fun _ => rfl) holdEraseBlock_part)
  | resumeErase =>
    cases h
    exact .inr (serves_empty rfl (fun _ => rfl) resumeEraseBlock_part)
  | readPhrase =>
    cases h
    exact .inr (serves rfl (fun _ => rfl) (readPhraseBlock_part _))
  | readStore =>
    cases h
    exact .inr (serves_empty rfl (fun _ => rfl) fun _ => Answer.from_read _)
  | lockSectors =>
    cases h
    exact .inr (serves rfl (fun _ => rfl) (lockSectorsBlock_part _))
  | lockFixedArea =>
    cases h
    exact .inr (serves_empty rfl (fun _ => rfl) lockFixedBlock_part)
  | definePanel =>
    cases h
    exact .inr (serves rfl (fun _ => rfl) fun u => (definePanelBlock_from _ u).part)
  | removePanel =>
    cases h
    exact .inr (serves rfl (fun _ => rfl) fun u => (definePanelBlock_from _ u).part)
  | setLanguages =>
    cases h
    exact .inr (serves rfl (fun _ => rfl) fun u => (setLanguagesBlock_from _ u).part)
  | readPanels =>
    cases h
    exact .inr (serves_empty rfl (fun _ => rfl) fun _ => Answer.from_read _)
  | setLevels =>
    cases h
    exact .inr (serves rfl (fun _ => rfl) (setLevelsBlock_part _))
  | setTunnels =>
    cases h
    exact .inr (serves rfl (fun _ => rfl) (setTunnelsBlock_part _))
  | setHeatGuard =>
    cases h
    exact .inr (serves rfl (fun _ => rfl) (setHeatGuardBlock_part _))
  | enableHeatGuard =>
    cases h
    exact .inr (serves_empty rfl (fun _ => rfl) enableHeatGuardBlock_part)
  | readBrightness =>
    cases h
    exact .inr (serves_empty rfl (fun _ => rfl) fun _ => Answer.from_read _)
  | _ => exact nomatch h

theorem serves_part {c : Instr} {s : State} {p : Port} {k : Byte} {b : List Byte} (h : Serves c p k b s) :
    ∃ t, exec c s = .next t ∧ s.PartStep c.relocks c.reguards t := by
  obtain ⟨always, block, eq, effect, from_⟩ := h
  exact ⟨_, eq, serve_part effect from_ s⟩

/-- Every command is carried out, and keeps what a command keeps. -/
theorem exec_part (c : Instr) (s : State) : ∃ t, exec c s = .next t ∧ s.PartStep c.relocks c.reguards t := by
  have same {l g : Bool} : s.PartStep l g s := (State.JourneyStep.refl s).part
  cases request : c.request? with
  | some r =>
    obtain ⟨p, k, b⟩ := r
    rcases serves_request c s request with ⟨_, none_⟩ | served
    · exact ⟨s, none_, same⟩
    · exact serves_part served
  | none =>
    cases c with
    | frameReceived p bytes => exact ⟨_, rfl, (s.onPort_step p _ PortState.chars_queue).live.part⟩
    | frameIdleTimeout p =>
      exact ⟨_, rfl, (s.onPort_step p _ fun few => (PortState.idleTimeout_queue _).symm ▸ few).live.part⟩
    | lineIdle p => exact ⟨_, rfl, (s.onPort_step p _ fun few => (PortState.lineIdle_queue _).symm ▸ few).live.part⟩
    | replySend p =>
      refine ⟨_, rfl, .live ?_⟩
      split
      · exact (s.startNext_step p).part
      · exact same
    | replyComplete p =>
      refine ⟨_, rfl, .live ?_⟩
      split
      · exact (s.finishReply_step p).part
      · exact same
    | reportSend p =>
      refine ⟨_, rfl, .live ?_⟩
      split
      · exact (s.startNext_step p).part
      · exact same
    | reportComplete p =>
      refine ⟨_, rfl, .live ?_⟩
      split
      · exact ((s.onPort_step p _ id).trans (State.startNext_step p _)).part
      · exact same
    | portBreak p => exact ⟨_, rfl, (s.breakPort_part p).live⟩
    | powerUpReset => exact ⟨_, rfl, s.powerUp_part⟩
    | restartReset => exact ⟨_, rfl, .live (.ite (fun _ => s.restartReset_part) fun _ => same)⟩
    | powerLoss => exact ⟨_, rfl, s.losePower_part⟩
    | clockTick =>
      refine ⟨_, rfl, State.PartStep.live (State.JourneyStep.part ?_)⟩
      exact ((State.clock_step Clock.tick_second).trans (State.minuteChange_step s _)).trans
        (State.settleBrightness_step s _)
    | wheelPulse => exact ⟨_, rfl, s.pulse_step.live.part⟩
    | odometerWindowEnd =>
      exact ⟨_, rfl, .live (.ite (fun _ => s.awakeWindow_step.part) fun _ => s.restWindow_step.part)⟩
    | speedStale => exact ⟨_, rfl, .live (.ite (fun _ => s.speedStale_step.part) fun _ => same)⟩
    | doorReleaseChange active => exact ⟨_, rfl, (s.doorRelease_step active).part⟩
    | dwellExpiry => exact ⟨_, rfl, s.dwellExpiry_step.live.part⟩
    | noticeValidityExpiry ref => exact ⟨_, rfl, (s.validityExpiry_step ref).live.part⟩
    | programComplete =>
      refine ⟨_, rfl, .live ?_⟩
      split
      next pr running => exact State.programComplete_part running
      · exact same
    | sectorEraseFinish =>
      refine ⟨_, rfl, .live ?_⟩
      split
      next er running => exact State.sectorFinish_part running
      · exact same
    | pageSend => exact ⟨_, rfl, .live s.sendPage_part⟩
    | probeSend => exact ⟨_, rfl, s.sendProbe_step.live.part⟩
    | blankPageSend => exact ⟨_, rfl, s.sendBlank_step.live.part⟩
    | panelAck bytes => exact ⟨_, rfl, (s.takeAnswer_step _).live.part⟩
    | ackTimeout => exact ⟨_, rfl, (s.takeAnswer_step _).live.part⟩
    | probeTimerExpiry addr => exact ⟨_, rfl, (s.updatePanel_step addr Panel.probeFalls_key).live.part⟩
    | rotationTimerExpiry => exact ⟨_, rfl, .live (.ite (fun _ => s.rotate_step.part) fun _ => same)⟩
    | cabinetEdge => exact ⟨_, rfl, .live (State.bright_part id fun _ _ => rfl)⟩
    | heatWindowEnd => exact ⟨_, rfl, .live s.heatWindowEnd_part⟩
    | overheatLineChange active =>
      exact ⟨_, rfl, .ite (fun _ => same) fun _ => .ite (fun _ => s.overheatChange_part active) fun _ =>
        ⟨⟨id, id, id, id, id, id, id, id⟩, rfl, rfl, fun off on => absurd off on, fun off on => absurd off on, id,
          fun _ => rfl, fun _ _ => rfl⟩⟩
    | _ => exact nomatch request

theorem exec_next {c : Instr} {s t : State} (h : exec c s = .next t) : s.PartStep c.relocks c.reguards t := by
  obtain ⟨u, next, kept⟩ := exec_part c s
  cases next.symm.trans h
  exact kept

/-! ### What the part does of its own accord -/

theorem PanelLine.tick_key (l : PanelLine) : l.tick.panels.map Panel.key = l.panels.map Panel.key :=
  map_key_map (f := Panel.tick) (fun _ => rfl) _

theorem StoreOp.tick_program? (op : StoreOp) {pr : Program} (h : op.tick.program? = some pr) :
    ∃ pr', op.program? = some pr' ∧ pr'.phrase = pr.phrase ∧ pr'.lang = pr.lang := by
  cases op <;> cases h <;> exact ⟨_, rfl, rfl, rfl⟩

/-- 1 ms passing keeps every law (log entry 3). -/
theorem State.oneMs_laws (s : State) : s.KeepsLaws s.oneMs := by
  have notices := (s.mapNotices_step (f := Notice.tick) fun _ => rfl).laws
  refine ⟨id, notices.places, id, id, id, fun ⟨wf, places, range⟩ => ⟨wf, places, fun pr h => ?_⟩,
    State.panelLaw_of_key s.line.tick_key, id⟩
  obtain ⟨pr', running, phrase, lang⟩ := StoreOp.tick_program? _ h
  exact phrase ▸ lang ▸ range pr' running

theorem State.idle_laws (s : State) : s.KeepsLaws s.idle := by
  have queued (u : State) (l : List Instr) : u.KeepsLaws { u with pending := l } := ⟨id, id, id, id, id, id, id, id⟩
  unfold State.idle
  split
  · exact .refl s
  · split
    · exact queued s _
    · exact s.oneMs_laws.trans (queued s.oneMs _)

/-- A step keeps every law. -/
theorem step_laws {s t : State} (h : step s = .next t) : s.KeepsLaws t := by
  unfold step at h
  split at h
  · cases h
    exact s.idle_laws
  next i rest pending =>
    have queued : s.KeepsLaws { s with pending := rest } := ⟨id, id, id, id, id, id, id, id⟩
    exact queued.trans (exec_next h).laws

/-! ### The statements -/

/-- Settles O41: the pool law and the seat limits are one of the laws that every step keeps. -/
theorem poolLawKept : Obligations.PoolLawKept :=
  fun _ _ pool seats next => (step_laws next).pool ⟨pool, seats⟩

/-- Settles O48: the slot law and the queue law are one of the laws that every step keeps. -/
theorem noticePlacesKept : Obligations.NoticePlacesKept :=
  fun _ _ slots queue next => (step_laws next).places ⟨slots, queue⟩

/-- Settles O59: each of the six is one of the laws that every step keeps. -/
theorem rangesKept : Obligations.RangesKept := by
  intro s t next
  have kept := step_laws next
  exact ⟨kept.receive, kept.travel, kept.clock, kept.store, kept.panels, kept.heat⟩

/-- Settles O60. -/
theorem resetMeetsTheLaws : Obligations.ResetMeetsTheLaws := State.reset_laws

/-- Settles O2: every command has a next state, which keeps the queue and the identity. -/
theorem everyCommandCompletes : Obligations.EveryCommandCompletes := by
  intro c s
  obtain ⟨t, next, kept⟩ := exec_part c s
  exact ⟨t, next, kept.pending, kept.unitId⟩

/-- A request of which the latch is cleared whatever refuses it leaves it clear (R171). -/
theorem serve_clears_latch {p : Port} {k : Byte} {b : List Byte} {block : State → Answer} {s : State}
    (taken : s.inService p k b = true) : (serve p k b State.clearLatch block s).store.latch = false := by
  rcases serve_cases p k b State.clearLatch block s with ⟨absent, _⟩ | ⟨st, _, _, eq⟩ | ⟨t, st, body, _, _, _, eq⟩
    | ⟨t, phrase, lang, _, _, _, eq⟩
  · exact nomatch taken.symm.trans absent
  all_goals rw [eq]; rfl

/-- Settles O52: programs and erases start under the latch, and no command but Lock Sectors changes a lock bit. -/
theorem storeProtected : Obligations.StoreProtected := by
  intro c s t next
  have kept := exec_next next
  refine ⟨kept.program, kept.erase, ?_, fun other => kept.locksKept ?_, kept.fixedLock⟩
  · rintro p b (⟨rfl, taken⟩ | ⟨rfl, taken⟩) <;> cases next <;> exact serve_clears_latch taken
  · cases c with
    | lockSectors p b => exact absurd rfl (other p b)
    | _ => rfl

/-- An enabled guard keeps its configuration through every command but a power-up reset and the loss of power
(R214, R215). -/
theorem exec_guard {c : Instr} {s t : State} (enabled : s.bright.guard.enabled = true) (notReset : c ≠ .powerUpReset)
    (notLoss : c ≠ .powerLoss) (next : exec c s = .next t) : t.bright.guard = s.bright.guard := by
  refine (exec_next next).guardKept ?_ enabled
  cases c with
  | powerUpReset => exact absurd rfl notReset
  | powerLoss => exact absurd rfl notLoss
  | _ => rfl

theorem port_answer (p : Port) (k : Byte) (st : Status) (b : List Byte) (s : State) :
    (s.answer p k st b).port p = { s.port p with service := .answered, reply := some ⟨replyKind k, st, b⟩ } := by
  cases p <;> rfl

/-- A request enters service and is refused with the effect that every refusal of its kind has (R6). -/
theorem State.refusalEffect_enter (s : State) (p : Port) (k : Byte) (b : List Byte) :
    (s.enter p k b).refusalEffect p k = (s.refusalEffect p k).enter p k b := by
  unfold State.refusalEffect
  split
  · rfl
  · split
    · rfl
    · rfl

/-- Settles O5: a block that refuses leaves the state, so that only the service of the request is left. -/
theorem refusalHasNoEffect : Obligations.RefusalHasNoEffect := by
  intro c s t p k b r _ request taken next answered reply refused
  have untaken : (s.port p).service ≠ .answered := by
    unfold State.inService at taken
    simp only [Bool.and_eq_true, decide_eq_true_eq] at taken
    obtain ⟨⟨⟨-, -⟩, untaken⟩, -⟩ := taken
    exact untaken ▸ nofun
  have absent {u : State} (same : u = s) (answered : (u.port p).service = .answered) : False :=
    untaken (same ▸ answered)
  rcases serves_request c s request with ⟨_, none_⟩ | ⟨always, block, eq, effect, from_⟩
  · cases none_.symm.trans next
    exact (absent rfl answered).elim
  · cases eq.symm.trans next
    rcases serve_outcomes (always := always) (from_ (s.enter p k b)) with ⟨off, _⟩ | ⟨st, body, _, eq⟩
      | ⟨u, body, _, eq⟩ | ⟨phrase, lang, eq⟩
    · exact nomatch taken.symm.trans off
    · rw [eq] at reply ⊢
      rw [port_answer] at reply
      cases reply
      rw [effect, State.refusalEffect_enter]
      rfl
    · rw [eq, port_answer] at reply
      cases reply
      exact absurd rfl refused
    · rw [eq] at answered
      cases p <;> exact nomatch answered

end Sys2Proof.Machine
end

section
/-!
The step (log entries 3 and 9): what an empty queue calls for, and 1 ms.
-/
namespace Sys2Proof.Machine

theorem mem_dueIf {cond : Bool} {i c : Instr} : c ∈ dueIf cond i ↔ cond = true ∧ c = i := by
  cases cond <;> simp [dueIf]

theorem dueIf_eq_ite (cond : Bool) (i : Instr) : dueIf cond i = if cond = true then [i] else [] := rfl

/-! ### What an empty queue calls for -/

/-- The frame that a port's transmitter may begin (R10, R11). -/
theorem State.portDue_eq (s : State) (p : Port) : s.portDue p =
    (match (s.port p).service, (s.port p).queue with
      | .untaken, r :: _ => [requestCommand p r]
      | _, _ => [])
    ++ (if (s.port p).tx ≠ .free then []
      else if (s.port p).reply ≠ none then [.replySend p]
      else if (s.port p).events ≠ [] then [.reportSend p]
      else []) := by
  unfold State.portDue
  congr 1
  cases (s.port p).tx with
  | free => cases (s.port p).reply <;> cases (s.port p).events <;> rfl
  | reply bytes => rfl
  | report bytes => rfl

theorem PanelLine.probeDue_isSome (l : PanelLine) :
    l.probeDue.isSome = true ↔ ∃ x ∈ l.panels, x.state = .failed ∧ x.probe = .due := by
  simp [PanelLine.probeDue, List.find?_isSome]

theorem PanelLine.blankDue_isSome (l : PanelLine) :
    l.blankDue.isSome = true ↔ ∃ x ∈ l.panels, ∃ n ∈ l.blankFrom, n ≤ x.addr := by
  unfold PanelLine.blankDue
  cases l.blankFrom <;> simp [List.find?_isSome]

/-- Some panel of the kind is served where one is ready (R194). -/
theorem PanelLine.roundRobin_isSome (l : PanelLine) (k : PanelKind) :
    (l.roundRobin k).isSome = true ↔ ∃ x ∈ l.panels, x.kind = k ∧ x.stale = true ∧ x.state = .idle := by
  have ready : (l.ready k).head?.isSome = true ↔ ∃ x ∈ l.panels, x.kind = k ∧ x.stale = true ∧ x.state = .idle := by
    rw [List.isSome_head?, ← List.isEmpty_eq_false_iff, List.isEmpty_eq_false_iff_exists_mem]
    simp [PanelLine.ready, and_assoc]
  unfold PanelLine.roundRobin
  split
  next x found =>
    simp only [Option.isSome_some, true_iff]
    have mem := List.mem_of_find?_eq_some found
    simp only [PanelLine.ready, List.mem_filter, Bool.and_eq_true, decide_eq_true_eq] at mem
    obtain ⟨mem, ⟨kind, stale⟩, idle⟩ := mem
    exact ⟨x, mem, kind, stale, idle⟩
  · exact ready

theorem PanelLine.pageDue_isSome (l : PanelLine) :
    l.pageDue.isSome = true ↔ ∃ x ∈ l.panels, x.stale = true ∧ x.state = .idle := by
  have any : l.pageDue.isSome = ((l.roundRobin .banner).isSome || (l.roundRobin .doorMap).isSome
      || (l.roundRobin .seatStrip).isSome) := by
    unfold PanelLine.pageDue
    cases l.roundRobin .banner <;> cases l.roundRobin .doorMap <;> simp
  rw [any]
  simp only [Bool.or_eq_true, PanelLine.roundRobin_isSome]
  constructor
  · rintro ((⟨x, hx, -, due⟩ | ⟨x, hx, -, due⟩) | ⟨x, hx, -, due⟩) <;> exact ⟨x, hx, due⟩
  · rintro ⟨x, hx, due⟩
    cases kind : x.kind with
    | banner => exact .inl (.inl ⟨x, hx, kind, due⟩)
    | doorMap => exact .inl (.inr ⟨x, hx, kind, due⟩)
    | seatStrip => exact .inr ⟨x, hx, kind, due⟩

/-- The frame that a free panel line calls for (R194, R207). -/
theorem State.lineDue_eq (s : State) : s.lineDue =
    if s.line.flight ≠ none then []
    else if s.link.rest = .resting then
      (if ∃ x ∈ s.line.panels, ∃ n ∈ s.line.blankFrom, n ≤ x.addr then [.blankPageSend] else [])
    else if ∃ x ∈ s.line.panels, x.state = .failed ∧ x.probe = .due then [.probeSend]
    else if ∃ x ∈ s.line.panels, x.stale = true ∧ x.state = .idle then [.pageSend]
    else [] := by
  simp only [← PanelLine.probeDue_isSome, ← PanelLine.pageDue_isSome, ← PanelLine.blankDue_isSome,
    State.lineDue, State.arbitrates, dueIf_eq_ite]
  cases s.line.flight with
  | some fr => simp
  | none =>
    cases s.link.rest with
    | resting => simp
    | awake => cases s.line.probeDue <;> simp

/-- The command for a request is one that takes it: its port, kind and payload (R5, 1.10). -/
theorem requestCommand_request? (p : Port) (r : Request) :
    (requestCommand p r).request? = some (p, r.kind, r.payload) := by
  have named {k : Byte} (h : r.kind.toNat = k.toNat) {c : Instr} (takes : c.request? = some (p, k, r.payload)) :
      c.request? = some (p, r.kind, r.payload) := by
    rw [takes, BitVec.eq_of_toNat_eq h]
  have either {cond : Prop} [Decidable cond] {c d : Instr} (yes : cond → c.request? = some (p, r.kind, r.payload))
      (no : d.request? = some (p, r.kind, r.payload)) :
      (if cond then c else d).request? = some (p, r.kind, r.payload) := by
    split
    next h => exact yes h
    · exact no
  unfold requestCommand
  dsimp only
  split
  case h_13 kind => exact either (fun whole => named (k := 0x16) kind (by rw [whole]; rfl)) (named (k := 0x16) kind rfl)
  case h_26 kind => exact either (fun _ => named (k := 0x40) kind rfl) (named (k := 0x40) kind rfl)
  case h_50 kind => exact either (fun _ => named (k := 0x70) kind rfl) (named (k := 0x70) kind rfl)
  case h_58 => rfl
  all_goals exact named ‹_› rfl

/-! ### One millisecond -/

theorem mem_limitsDue {q : Sequencer} {c : Instr} :
    c ∈ q.limitsDue ↔ ∃ n ∈ q.all, n.validity = .limit 1 ∧ c = .noticeValidityExpiry n.ref := by
  simp [Sequencer.limitsDue, and_assoc, eq_comm]

theorem PanelLine.ackDue_iff {l : PanelLine} :
    l.ackDue = true ↔ ∃ fr ∈ l.flight, fr.ackLeft = 1 ∧ ∃ bytes, fr.body = .sent bytes := by
  unfold PanelLine.ackDue
  cases l.flight with
  | none => simp
  | some fr =>
    have sent : fr.isSent = true ↔ ∃ bytes, fr.body = .sent bytes := by
      unfold Frame.isSent
      cases fr.body <;> simp
    simp [sent, and_comm]

theorem StoreOp.mem_due {op : StoreOp} {c : Instr} : c ∈ op.due ↔
    (c = .programComplete ∧ ∃ pr ∈ op.program?, pr.left ≤ 1)
    ∨ (c = .sectorEraseFinish ∧ ∃ er, op = .erasing er ∧ er.left ≤ 1) := by
  cases op <;> simp [StoreOp.due, StoreOp.program?, mem_dueIf, and_comm]

/-- The commands of the timers and windows that end with this ms (log entry 3). -/
theorem State.mem_msDue {s : State} {c : Instr} : c ∈ s.msDue ↔
    (c = .dwellExpiry ∧ s.seq.active ≠ none ∧ s.seq.dwellLeft = 1)
    ∨ (∃ n ∈ s.seq.all, n.validity = .limit 1 ∧ c = .noticeValidityExpiry n.ref)
    ∨ (c = .rotationTimerExpiry ∧ s.line.rotationLeft = 1)
    ∨ (∃ x ∈ s.line.panels, x.probe = .running 1 ∧ c = .probeTimerExpiry x.addr)
    ∨ (c = .ackTimeout ∧ ∃ fr ∈ s.line.flight, fr.ackLeft = 1 ∧ ∃ bytes, fr.body = .sent bytes)
    ∨ (c = .programComplete ∧ ∃ pr ∈ s.store.op.program?, pr.left ≤ 1)
    ∨ (c = .sectorEraseFinish ∧ ∃ er, s.store.op = .erasing er ∧ er.left ≤ 1)
    ∨ (c = .speedStale ∧ s.odo.freshLeft = 1)
    ∨ (c = .clockTick ∧ s.clock.set = true ∧ 999 ≤ s.clock.phase)
    ∨ (c = .heatWindowEnd ∧ 999 ≤ s.bright.windowMs)
    ∨ (c = .odometerWindowEnd ∧ 199 ≤ s.odo.windowMs) := by
  have probes : c ∈ ((s.line.panels.filter fun x => x.probe = .running 1).map fun x => Instr.probeTimerExpiry x.addr)
      ↔ ∃ x ∈ s.line.panels, x.probe = .running 1 ∧ c = .probeTimerExpiry x.addr := by
    simp [and_assoc, eq_comm]
  simp only [State.msDue, List.mem_append, mem_dueIf, mem_limitsDue, probes, StoreOp.mem_due,
    PanelLine.ackDue_iff, Bool.and_eq_true, decide_eq_true_eq, or_assoc, Option.isSome_iff_ne_none,
    and_comm (b := c = _)]

/-! ### The statement -/

/-- Settles O1: the called for and the due, event by event, are what the model queues. -/
theorem stepTakesFrontCommand : Obligations.StepTakesFrontCommand := by
  refine ⟨fun _ _ _ => rfl, fun s empty => ?_⟩
  have calledFor : s.calledFor = if s.link.restart = .due then [.restartReset]
      else s.portDue .operations ++ s.portDue .content ++ s.lineDue := rfl
  rw [State.portDue_eq, State.portDue_eq, State.lineDue_eq] at calledFor
  have idle : step s = .next s.idle := by rw [step, empty]
  extract_lets port line called next tick
  have called_eq : s.calledFor = called := calledFor
  clear calledFor
  refine ⟨fun off => ?_, requestCommand_request?, fun on some_ => ?_, fun on none_ => ?_⟩
  · exact idle.trans (congrArg Host.Outcome.next (if_pos (Bool.eq_false_iff.mp off)))
  · have next : s.idle = { s with pending := s.calledFor } :=
      (if_neg (not_not_intro on)).trans (if_pos (called_eq ▸ some_))
    exact idle.trans (congrArg Host.Outcome.next (next.trans (called_eq ▸ rfl)))
  · have next : s.idle = { s.oneMs with pending := s.msDue } :=
      (if_neg (not_not_intro on)).trans (if_neg (not_not_intro (called_eq.trans none_)))
    refine ⟨_, idle.trans (congrArg Host.Outcome.next next), rfl, rfl, ?_, ?_, ?_, rfl, ?_, fun c => ?_⟩
    · have ticked : Notice.tick = tick := funext fun n => by
        refine congrArg (fun v => { n with validity := v }) ?_
        cases n.validity <;> rfl
      exact ticked ▸ rfl
    · refine congrArg (fun op => { s.store with op := op }) ?_
      cases s.store.op <;> rfl
    · refine congrArg₂ (fun (panel : Panel → Panel) (frame : Frame → Frame) => { s.line with
        panels := s.line.panels.map panel, flight := s.line.flight.map frame
        rotationLeft := s.line.rotationLeft - 1 }) (funext fun x => ?_) (funext fun fr => ?_)
      · refine congrArg (fun y => { x with probe := y }) ?_
        cases x.probe <;> rfl
      · unfold Frame.tick Frame.isSent
        cases fr.body <;> rfl
    · exact empty ▸ rfl
    · refine State.mem_msDue.trans (or_congr Iff.rfl (or_congr ?_ Iff.rfl))
      exact exists_congr fun n => and_congr_right fun _ => and_congr_right fun _ =>
        iff_of_eq (congrArg (c = .noticeValidityExpiry ·) (by unfold Notice.ref; cases n.kind <;> rfl))

end Sys2Proof.Machine
end

section
/-!
Proofs of the statements about the ports (chapter 1): frames received (R1 to R3), the checks of the Link Unit
(R6 to R8, R18), replies and reports (R4, R10, R11), breaks (R12), Identify and Status (R13, R14).
-/
namespace Sys2Proof.Machine

/-! ### Changes of a port -/

/-- Two changes that make the same of a port are the same. -/
theorem State.onPort_congr {s : State} {p : Port} {f g : PortState → PortState} (h : f (s.port p) = g (s.port p)) :
    s.onPort p f = s.onPort p g :=
  congrArg (fun ps => { s with link := s.link.setPort p ps }) h

/-- A change that leaves the port leaves the state. -/
theorem State.onPort_self {s : State} {p : Port} {f : PortState → PortState} (h : f (s.port p) = s.port p) :
    s.onPort p f = s := by
  refine (State.onPort_congr (g := id) h).trans ?_
  cases p <;> rfl

/-- Two changes of one port are one. -/
theorem State.onPort_onPort (s : State) (p : Port) (f g : PortState → PortState) :
    (s.onPort p f).onPort p g = s.onPort p fun ps => g (f ps) := by
  cases p <;> rfl

/-- An event of the part with power. -/
theorem live_next {f : State → State} {s : State} (h : s.powered = true) :
    (Host.Outcome.next (live f s) : Host.Outcome State Fault Refusal) = .next (f s) :=
  congrArg Host.Outcome.next (live_powered h)

/-! ### Frames received (R1 to R3) -/

/-- Characters before the line has been idle are ignored (R1). -/
theorem PortState.chars_ignoring {ps : PortState} (h : ps.rx = .ignoring) (bytes : List Byte) :
    bytes.foldl PortState.char ps = ps := by
  induction bytes with
  | nil => rfl
  | cons b rest ih =>
    have same : ps.char b = ps := by rw [PortState.char, h]
    rw [List.foldl_cons, same, ih]

/-- The 2-byte number at the front of a list is that of the whole list. -/
theorem u16_append_left {xs : List Byte} (h : 2 ≤ xs.length) (ys : List Byte) : u16 (xs ++ ys) 0 = u16 xs 0 := by
  match xs, h with
  | x :: y :: rest, _ => simp [u16]

/-- The characters of a frame that is not complete are received (R2). -/
theorem PortState.chars_receiving {n : Nat} (fits : n ≤ 1024) (xs : List Byte) {got : List Byte}
    (len : ∀ zs, zs <+: got ++ xs → 2 ≤ zs.length → u16 zs 0 = n) (short : (got ++ xs).length < n + 5)
    (ps : PortState) :
    xs.foldl PortState.char { ps with rx := .receiving got } = { ps with rx := .receiving (got ++ xs) } := by
  induction xs generalizing got with
  | nil => rw [List.append_nil]; rfl
  | cons x rest ih =>
    have assoc : got ++ x :: rest = (got ++ [x]) ++ rest := by rw [List.append_assoc, List.singleton_append]
    have more : PortState.char { ps with rx := .receiving got } x = { ps with rx := .receiving (got ++ [x]) } := by
      have room : (got ++ [x]).length < n + 5 := by
        rw [assoc, List.length_append] at short
        omega
      show (if (got ++ [x]).length < 2 then _ else _) = _
      split
      · rfl
      next two =>
        rw [len (got ++ [x]) (assoc ▸ List.prefix_append _ _) (Nat.le_of_not_lt two), if_neg (Nat.not_lt.mpr fits),
          if_pos room]
    rw [List.foldl_cons, more, ih (assoc ▸ len) (assoc ▸ short), assoc]

/-- A frame's last character completes it (R2). -/
theorem PortState.char_completes {n : Nat} (fits : n ≤ 1024) {got : List Byte} {x : Byte}
    (len : u16 (got ++ [x]) 0 = n) (whole : (got ++ [x]).length = n + 5) (ps : PortState) :
    PortState.char { ps with rx := .receiving got } x
      = PortState.complete (got ++ [x]) { ps with rx := .ignoring } := by
  show (if (got ++ [x]).length < 2 then _ else _) = _
  rw [if_neg (by omega), len, if_neg (Nat.not_lt.mpr fits), if_neg (by omega)]

/-- A start byte on a listening receiver (R1). -/
theorem PortState.char_start {ps : PortState} (listening : ps.rx = .listening) :
    ps.char 0xC3 = { ps with rx := .receiving [] } := by
  rw [PortState.char, listening]
  rfl

/-- A whole frame on a listening receiver has its CRC checked (R2). -/
theorem PortState.chars_frame {ps : PortState} (listening : ps.rx = .listening) (k : Byte) {b : List Byte}
    (fits : b.length ≤ 1024) (c : Nat) :
    (0xC3 :: (be 2 b.length ++ [k] ++ b ++ be 2 c)).foldl PortState.char ps
      = PortState.complete (be 2 b.length ++ [k] ++ b ++ be 2 c) { ps with rx := .ignoring } := by
  obtain ⟨front, last, bytes⟩ : ∃ front last, be 2 b.length ++ [k] ++ b ++ be 2 c = front ++ [last] :=
    ⟨be 2 b.length ++ [k] ++ b ++ [BitVec.ofNat 8 (c / 256)], BitVec.ofNat 8 c, by simp [be_two]⟩
  have whole : (front ++ [last]).length = b.length + 5 := by
    rw [← bytes]
    simp
    omega
  have read : u16 (front ++ [last]) 0 = b.length := by
    rw [← bytes, List.append_assoc, List.append_assoc]
    exact u16_be_two _ _ (by omega)
  have len (zs : List Byte) (h : zs <+: front) (two : 2 ≤ zs.length) : u16 zs 0 = b.length := by
    obtain ⟨rest, rfl⟩ := h
    rw [← read, List.append_assoc, u16_append_left two]
  rw [bytes, List.foldl_cons, PortState.char_start listening, List.foldl_append, PortState.chars_receiving fits front
    (by simpa using len) (by rw [List.length_append] at whole; simp at whole ⊢; omega), List.nil_append,
    List.foldl_cons, List.foldl_nil, PortState.char_completes fits read whole]

/-- A whole frame is queued, or discarded with its flag (R2, R3). -/
theorem PortState.complete_frame (k : Byte) (b : List Byte) {c : Nat} (h : c < 65536) (ps : PortState) :
    PortState.complete (be 2 b.length ++ [k] ++ b ++ be 2 c) ps
      = if c ≠ (crc (be 2 b.length ++ [k] ++ b)).toNat then { ps with frameError := true }
        else if ps.queue.length < 4 then { ps with queue := ps.queue ++ [⟨k, b⟩] }
        else { ps with overrun := true } := by
  have counted : (be 2 b.length ++ [k] ++ b ++ be 2 c).length - 2 = (be 2 b.length ++ [k] ++ b).length := by
    rw [List.length_append, be_length, Nat.add_sub_cancel]
  have sent : u16 (be 2 b.length ++ [k] ++ b ++ be 2 c) (be 2 b.length ++ [k] ++ b).length = c := by
    have skip := u8_append_right (be 2 b.length ++ [k] ++ b) (be 2 c)
    rw [u16, skip 1, ← Nat.add_zero (be 2 b.length ++ [k] ++ b).length, skip 0]
    have read := u16_be_two c [] h
    rwa [List.append_nil] at read
  have front : (be 2 b.length ++ [k] ++ b ++ be 2 c).getD 2 0 = k
      ∧ (be 2 b.length ++ [k] ++ b).drop 3 = b := by
    rw [be_two]
    exact ⟨rfl, rfl⟩
  unfold PortState.complete
  simp only [counted, sent, List.take_left', front]
  by_cases same : (crc (be 2 b.length ++ [k] ++ b)).toNat = c
  · rw [if_pos same, if_neg (not_not_intro same.symm)]
    rfl
  · rw [if_neg same, if_pos fun h => same h.symm]

/-- Settles O3: a frame's characters are received one by one, up to the last, which completes it; characters
that are ignored and an idle line are single cases of the receiver. -/
theorem framesReceived : Obligations.FramesReceived := by
  refine ⟨⟨fun s p k b c on listening fits crc16 => ?_, fun s p hi lo more on listening long => ?_,
    fun s p bytes on ignoring => ?_⟩, fun s p on => ⟨fun got receiving => ?_, fun ignoring => ?_⟩⟩
  · refine (live_next on).trans (congrArg Host.Outcome.next (State.onPort_congr ?_))
    rw [PortState.chars_frame listening k fits, PortState.complete_frame k b crc16]
  · refine (live_next on).trans (congrArg Host.Outcome.next (State.onPort_congr ?_))
    have start : ((s.port p).char 0xC3).char hi = { s.port p with rx := .receiving [hi] } := by
      rw [PortState.char_start listening]
      rfl
    have discarded : PortState.char { s.port p with rx := .receiving [hi] } lo
        = { s.port p with rx := .ignoring, frameError := true } := if_pos long
    rw [List.foldl_cons, List.foldl_cons, List.foldl_cons, start, discarded]
    exact PortState.chars_ignoring rfl more
  · exact (live_next on).trans (congrArg Host.Outcome.next (State.onPort_self (PortState.chars_ignoring ignoring bytes)))
  · have timeout : (s.port p).idleTimeout = { s.port p with rx := .listening, frameError := true } := by
      rw [PortState.idleTimeout, receiving]
    have idle : (s.port p).lineIdle = (s.port p).idleTimeout := by rw [PortState.lineIdle, receiving]
    exact ⟨(live_next on).trans (congrArg Host.Outcome.next (State.onPort_congr timeout)),
      (live_next on).trans ((congrArg Host.Outcome.next (State.onPort_congr idle)).trans (live_next on).symm)⟩
  · have listens : (s.port p).lineIdle = { s.port p with rx := .listening } := by rw [PortState.lineIdle, ignoring]
    exact (live_next on).trans (congrArg Host.Outcome.next (State.onPort_congr listens))

/-! ### The checks of the Link Unit (R6, R7, R18) -/

/-- The kinds of the Operations port (1.10, R7). -/
def operationsKinds : List Byte :=
  [0x03, 0x04, 0x05, 0x06, 0x10, 0x11, 0x12, 0x13, 0x14, 0x15, 0x20, 0x21, 0x22, 0x23, 0x24, 0x30,
   0x31, 0x32, 0x33, 0x35, 0x41, 0x52, 0x67, 0x68, 0x70, 0x71, 0x73, 0x74, 0x75, 0x76]

/-- Every row of the catalogue: which port it is for, and where it is allowed in rest (1.10, R18). -/
theorem catalogue_rows : ∀ r ∈ catalogue, (r.opsOnly = true ↔ r.kind ∈ operationsKinds)
    ∧ ∀ p, (r.inRest p = true ↔ r.kind = 0x01 ∨ r.kind = 0x02 ∨ (p = .operations ∧ (r.kind = 0x03 ∨ r.kind = 0x05))) := by
  have ports (P : Port → Prop) : (∀ p, P p) ↔ P .operations ∧ P .content :=
    ⟨fun h => ⟨h _, h _⟩, fun ⟨h1, h2⟩ p => by cases p <;> assumption⟩
  simp only [ports]
  decide

theorem catalogueRow_spec {k : Byte} {r : CatalogueRow} (h : catalogueRow k = some r) : r ∈ catalogue ∧ r.kind = k :=
  ⟨List.mem_of_find?_eq_some h, by simpa using List.find?_some h⟩

/-- The class field of a Post Notice restricts it on the Content port (R7). -/
theorem classRestricted_iff (p : Port) (k : Byte) (b : List Byte) :
    classRestricted p k b = true ↔ p = .content ∧ k = 0x50 ∧ ∃ x more, b = x :: more ∧ x ≠ 3 := by
  unfold classRestricted
  cases b with
  | nil => simp
  | cons x more =>
    have other : x.toNat ≠ 3 ↔ x ≠ 3 := not_congr (BitVec.toNat_inj (y := 3)).symm.symm
    have front : (∃ x' more', x :: more = x' :: more' ∧ x' ≠ 3) ↔ x ≠ 3 := by simp
    rw [front, ← other]
    simp [and_assoc]

/-- Steps 2 and 3 for a kind of the catalogue (R6, R7, R18). -/
theorem State.linkRefusal_known {k : Byte} (known : (catalogueRow k).isSome = true) (s : State) (p : Port)
    (b : List Byte) :
    let restricted := p = .content ∧ (k ∈ operationsKinds ∨ (k = 0x50 ∧ ∃ x more, b = x :: more ∧ x ≠ 3))
    let allowed := k = 0x01 ∨ k = 0x02 ∨ (p = .operations ∧ (k = 0x03 ∨ k = 0x05))
    (restricted → s.linkRefusal p k b = some .privilege)
    ∧ (¬ restricted → s.link.rest = .resting → ¬ allowed → s.linkRefusal p k b = some .asleep)
    ∧ (¬ restricted → (s.link.rest = .resting → allowed) → s.linkRefusal p k b = none) := by
  classical
  intro restricted allowed
  obtain ⟨r, found⟩ := Option.isSome_iff_exists.mp known
  obtain ⟨mem, rfl⟩ := catalogueRow_spec found
  obtain ⟨ops, rest⟩ := catalogue_rows r mem
  have port : ((r.opsOnly && decide (p = .content)) || classRestricted p r.kind b) = true ↔ restricted := by
    rw [Bool.or_eq_true, Bool.and_eq_true, decide_eq_true_eq, ops, classRestricted_iff]
    tauto
  have asleep : (decide (s.link.rest = .resting) && !r.inRest p) = true ↔ s.link.rest = .resting ∧ ¬ allowed := by
    rw [Bool.and_eq_true, decide_eq_true_eq, Bool.not_eq_true', ← Bool.not_eq_true, rest p]
  have steps : s.linkRefusal p r.kind b = if restricted then some Status.privilege
      else if s.link.rest = .resting ∧ ¬ allowed then some Status.asleep else none := by
    simp only [State.linkRefusal, found, port, asleep]
  rw [steps]
  refine ⟨fun yes => if_pos yes, fun no resting notAllowed => ?_, fun no awake => ?_⟩
  · rw [if_neg no, if_pos ⟨resting, notAllowed⟩]
  · rw [if_neg no, if_neg fun ⟨resting, notAllowed⟩ => notAllowed (awake resting)]

/-- The kind of every request command but an unknown one is in the catalogue (1.10). -/
theorem request_known {c : Instr} {p : Port} {k : Byte} {b : List Byte} (h : c.request? = some (p, k, b))
    (notUnknown : ∀ q l d, c ≠ .unknownKindRequest q l d) : (catalogueRow k).isSome = true := by
  cases c with
  | unknownKindRequest q l d => exact absurd rfl (notUnknown q l d)
  | _ => cases h <;> rfl

/-- Settles O4: the first failing step of R6 answers, with the effect that every refusal of its kind has. -/
theorem linkUnitChecks : Obligations.LinkUnitChecks := by
  constructor
  · intro s p k b taken unknown
    have refused : s.linkRefusal p k b = some .unknownKind := by rw [State.linkRefusal, unknown]
    constructor
    · show Host.Outcome.next (if (catalogueRow k).isNone then _ else s) = _
      rw [if_pos (by rw [unknown]; rfl)]
      exact congrArg Host.Outcome.next (serve_refused taken refused)
    · rw [State.replied, port_answer]
      rfl
  · intro c s p k b _ request notUnknown taken operationsOnly restricted allowed
    have known := request_known request notUnknown
    obtain ⟨privilege, asleep, -⟩ := s.linkRefusal_known known p b
    rcases serves_request c s request with ⟨unknown, _⟩ | ⟨always, block, eq, effect, -⟩
    · exact absurd unknown (notUnknown p k b)
    have answers {st : Status} (refused : s.linkRefusal p k b = some st) :
        exec c s = .next ((s.refusalEffect p k).replied p k b st []) := by
      rw [eq, serve_refused taken refused, effect, State.refusalEffect_enter]
      rfl
    exact ⟨fun yes => answers (privilege yes), fun no resting notAllowed => answers (asleep no resting notAllowed)⟩

/-! ### Identify and Status (R13, R14) -/

/-- A request that is answered and changes nothing (R8). -/
theorem serve_reads {s : State} {p : Port} {k : Byte} {b body : List Byte} {block : State → Answer}
    (taken : s.inService p k b = true) (passes : s.linkRefusal p k b = none)
    (hb : block (s.enter p k b) = done (s.enter p k b) body) :
    serve p k b id block s = s.replied p k b .done body := serve_reply taken passes hb

/-- Identify and Status are allowed on both ports and in rest (R18). -/
theorem State.linkRefusal_always {k : Byte} (h : k = 0x01 ∨ k = 0x02) (s : State) (p : Port) :
    s.linkRefusal p k [] = none := by
  have known : (catalogueRow k).isSome = true := by rcases h with rfl | rfl <;> rfl
  obtain ⟨-, -, passes⟩ := s.linkRefusal_known known p []
  refine passes ?_ fun _ => ?_
  · rcases h with rfl | rfl <;> simp [operationsKinds]
  · rcases h with rfl | rfl
    · exact .inl rfl
    · exact .inr (.inl rfl)

/-- Settles O13: both pass the checks in every rest state, and their blocks read. -/
theorem identifyAndStatus : Obligations.IdentifyAndStatus := by
  intro s p
  constructor
  · intro taken
    exact congrArg Host.Outcome.next (serve_reads taken (s.linkRefusal_always (.inl rfl) p) rfl)
  · intro taken
    refine congrArg Host.Outcome.next (serve_reads taken (s.linkRefusal_always (.inr rfl) p) ?_)
    rw [← List.countP_eq_length_filter]
    cases p <;> rfl

/-! ### Replies and reports (R4, R10, R11) -/

/-- The frame of a reply (1.10, R4). -/
theorem replyFrame_eq (r : Reply) (frameError overrun : Bool) (rest : RestState) :
    replyFrame r frameError overrun (decide (rest = .resting)) =
      let flags := (if frameError then 1 else 0) + (if overrun then 2 else 0) + (if rest = .resting then 4 else 0)
      let counted := be 2 r.payload.length ++ [r.kind, r.status.code] ++ be 1 flags ++ r.payload
      0xC3 :: (counted ++ be 2 (crc counted).toNat) := by
  cases frameError <;> cases overrun <;> cases rest <;> rfl

/-- An entry of a report (1.10). -/
theorem Event.encode_eq_entry (e : Event) : e.encode = e.entry := by
  cases e <;> simp [Event.encode, Event.entry, Event.code, Event.data, be_one, flag, orFF, beInt]

theorem reportFrame_eq (es : List Event) : reportFrame es = reportBytes es := by
  have entries : es.flatMap Event.encode = es.flatMap Event.entry :=
    List.flatMap_congr fun e _ => e.encode_eq_entry
  rw [reportFrame, entries]
  rfl

/-- While a reset is due nothing begins (log entry 28). -/
theorem State.startNext_due {s : State} (h : s.link.restart = .due) (p : Port) : s.startNext p = s := if_pos h

/-- A waiting reply goes first (R11). -/
theorem State.startNext_reply {s : State} {p : Port} {r : Reply} (h : s.link.restart ≠ .due)
    (waiting : (s.port p).reply = some r) : s.startNext p = s.onPort p fun ps =>
      let flags := (if (s.port p).frameError then 1 else 0) + (if (s.port p).overrun then 2 else 0)
        + (if s.link.rest = .resting then 4 else 0)
      let counted := be 2 r.payload.length ++ [r.kind, r.status.code] ++ be 1 flags ++ r.payload
      { ps with
        tx := .reply (0xC3 :: (counted ++ be 2 (crc counted).toNat))
        reply := none
        frameError := false
        overrun := false } := by
  rw [State.startNext, if_neg h, waiting]
  refine State.onPort_congr ?_
  rw [PortState.startReply, replyFrame_eq]

/-- With no reply waiting and nothing pending the transmitter stays free (R11). -/
theorem State.startNext_quiet {s : State} {p : Port} (noReply : (s.port p).reply = none)
    (quiet : (s.port p).events = []) : s.startNext p = s := by
  rw [State.startNext, noReply, quiet]
  exact ite_self s

/-- With no reply waiting a report of the pending set begins (R11). -/
theorem State.startNext_report {s : State} {p : Port} (h : s.link.restart ≠ .due)
    (noReply : (s.port p).reply = none) (pending : (s.port p).events ≠ []) : s.startNext p = s.startReport p := by
  rw [State.startNext, if_neg h, noReply]
  exact if_neg (by simpa using pending)

theorem any_isMarks (es : List Event) : es.any Event.isMarks = true ↔ ∃ bays, .marks bays ∈ es := by
  rw [List.any_eq_true]
  constructor
  · rintro ⟨e, mem, marks⟩
    cases e with
    | marks bays => exact ⟨bays, mem⟩
    | _ => exact nomatch marks
  · rintro ⟨bays, mem⟩
    exact ⟨_, mem, rfl⟩

/-- What a report leaves: the whole set sent, MARKS and its unreported marks with it (R10, R135). -/
theorem State.startReport_spec (s : State) (p : Port) :
    (s.startReport p).link = (s.onPort p fun ps => { ps with
        tx := .report (reportBytes (s.port p).events), events := [] }).link
    ∧ (s.startReport p).holds.unreported = (if ∃ bays, .marks bays ∈ (s.port p).events then 0 else s.holds.unreported)
    ∧ { s.startReport p with
        link := s.link
        holds := { (s.startReport p).holds with unreported := s.holds.unreported } } = s := by
  have sent : (s.onPort p fun ps => { ps with tx := .report (reportFrame ps.events), events := [] })
      = s.onPort p fun ps => { ps with tx := .report (reportBytes (s.port p).events), events := [] } :=
    State.onPort_congr (by rw [reportFrame_eq])
  unfold State.startReport
  rw [sent]
  simp only [any_isMarks]
  split <;> exact ⟨rfl, rfl, rfl⟩

/-- Settles O6: a free transmitter starts the reply that waits. -/
theorem replySent : Obligations.ReplySent := by
  intro s p r on running free waiting
  refine (live_next on).trans (congrArg Host.Outcome.next ?_)
  simp only [free, waiting]
  exact State.startNext_reply running waiting

/-- Settles O7: the request leaves the queue, and what the transmitter starts next is a report or nothing. -/
theorem replyEnds : Obligations.ReplyEnds := by
  intro s p frame on sending noReply
  have finished : exec (.replyComplete p) s = .next (s.finishReply p) := by
    refine (live_next on).trans (congrArg Host.Outcome.next ?_)
    simp only [sending]
  rw [finished]
  generalize atEnd : s.onPort p (fun ps => { ps with queue := ps.queue.tail, service := .untaken, tx := .free }) = s1
  have port : s1.port p = { s.port p with queue := (s.port p).queue.tail, service := .untaken, tx := .free } := by
    rw [← atEnd, State.port_onPort]
  have restart : s1.link.restart = s.link.restart := by rw [← atEnd, State.onPort_restart]
  have unfolded : s.finishReply p = if p = .operations ∧ s.link.restart = .replying then
        { s1 with link := { s1.link with restart := .due } }
      else if (s1.port p).queue.isEmpty then s1.startNext p else s1 := atEnd ▸ rfl
  refine ⟨fun replying => ?_, fun notReset stays => ?_, fun notReset running noRequest pending => ?_⟩
  · rw [unfolded, if_pos replying, ← atEnd]
    obtain ⟨rfl, -⟩ := replying
    rfl
  · rw [unfolded, if_neg notReset]
    refine congrArg Host.Outcome.next ?_
    split
    next empty =>
      rcases stays with quiet | waits | due
      · exact State.startNext_quiet (by rw [port]; exact noReply) (by rw [port]; exact quiet)
      · rw [port, List.isEmpty_iff] at empty
        exact absurd empty waits
      · exact State.startNext_due (restart.trans due) p
    · rfl
  · rw [unfolded, if_neg notReset, if_pos (by rw [port]; simp [noRequest]),
      State.startNext_report (restart ▸ running) (by rw [port]; exact noReply) (by rw [port]; exact pending)]
    obtain ⟨link, unreported, frame⟩ := s1.startReport_spec p
    refine ⟨_, rfl, ?_, ?_, ?_⟩
    · rw [link, port, ← atEnd, State.onPort_onPort]
      rfl
    · rw [unreported, port, ← atEnd]
      rfl
    · rw [← atEnd] at frame ⊢
      exact congrArg (fun t : State => { t with link := s.link }) frame

/-- Settles O8: a report is begun by a free transmitter, or at the end of the report before it. -/
theorem reportsCarryTheWholeSet : Obligations.ReportsCarryTheWholeSet := by
  intro s p on reported
  have send (free : (s.port p).tx = .free) (noReply : (s.port p).reply = none) :
      exec (.reportSend p) s = .next (s.startNext p) := by
    refine (live_next on).trans (congrArg Host.Outcome.next ?_)
    simp only [free, noReply]
  generalize atEnd : s.onPort p (fun ps => { ps with tx := .free }) = s1
  have ends {frame : List Byte} (sending : (s.port p).tx = .report frame) :
      exec (.reportComplete p) s = .next (s1.startNext p) := by
    refine (live_next on).trans (congrArg Host.Outcome.next ?_)
    simp only [sending, atEnd]
  have port : s1.port p = { s.port p with tx := .free } := by rw [← atEnd, State.port_onPort]
  have restart : s1.link.restart = s.link.restart := by rw [← atEnd, State.onPort_restart]
  have rest : s1.link.rest = s.link.rest := by rw [← atEnd, State.onPort_rest]
  refine ⟨fun running free noReply pending => ?_, fun frame running sending noReply pending => ?_,
    fun frame sending stays => ?_, fun frame r running sending waiting => ?_⟩
  · exact ⟨_, send free noReply, State.startNext_report running noReply pending ▸ s.startReport_spec p⟩
  · refine ⟨_, ends sending, ?_⟩
    rw [State.startNext_report (restart ▸ running) (by rw [port]; exact noReply) (by rw [port]; exact pending)]
    obtain ⟨link, unreported, frame⟩ := s1.startReport_spec p
    refine ⟨?_, ?_, ?_⟩
    · rw [link, port, ← atEnd, State.onPort_onPort]
    · rw [unreported, port, ← atEnd]
      rfl
    · rw [← atEnd] at frame ⊢
      exact congrArg (fun t : State => { t with link := s.link }) frame
  · rw [ends sending]
    refine congrArg Host.Outcome.next ?_
    rcases stays with due | ⟨noReply, quiet⟩
    · exact State.startNext_due (restart.trans due) p
    · exact State.startNext_quiet (by rw [port]; exact noReply) (by rw [port]; exact quiet)
  · rw [ends sending, State.startNext_reply (restart ▸ running) (by rw [port]; exact waiting), port, rest, ← atEnd,
      State.onPort_onPort]

/-! ### Port break (R12) -/

/-- Settles O9: the port's part of a break, and a Restart's reset where one is under way. -/
theorem breakEmptiesItsPort : Obligations.BreakEmptiesItsPort := by
  intro s on broken brokenHold
  have port (ps : PortState) : ps.broken = broken ps := by
    unfold PortState.broken
    dsimp only [broken]
    cases ps.tx <;> rfl
  have hold (h : Hold) : h.breakIf (fun _ => true) = brokenHold h := by cases h <;> rfl
  refine ⟨(live_next on).trans (congrArg Host.Outcome.next ?_), fun noRestart => ?_, fun restarting => ?_⟩
  · rw [← port, ← hold]
    rfl
  · refine (live_next on).trans (congrArg Host.Outcome.next ((if_pos noRestart).trans ?_))
    rw [← port, ← hold]
    rfl
  · have reset : exec .restartReset { s with link := { s.link with restart := .due } } = .next s.restartReset :=
      live_next (s := { s with link := { s.link with restart := .due } }) on
    exact (live_next on).trans ((congrArg Host.Outcome.next (if_neg restarting)).trans reset.symm)

end Sys2Proof.Machine
end

section
/-!
What shared operations leave of the Link Unit, the panel line and the rest of the state: raised events, the
comparison of brightness, the active notice leaving its place.
-/
namespace Sys2Proof.Machine

/-! ### Events raised only -/

theorem State.RaisesOnly.refl (codes : List Nat) (s : State) : s.RaisesOnly codes s := fun _ => rfl

theorem State.RaisesOnly.trans {codes : List Nat} {s t u : State} (h : s.RaisesOnly codes t)
    (k : t.RaisesOnly codes u) : s.RaisesOnly codes u := fun p => (k p).trans (h p)

/-- More kinds of event allowed. -/
theorem State.RaisesOnly.mono {codes more : List Nat} {s t : State} (h : s.RaisesOnly codes t)
    (sub : ∀ c ∈ codes, c ∈ more) : s.RaisesOnly more t := by
  intro p
  have finer (l : List Event) : l.filter (fun e => !more.contains e.code)
      = (l.filter fun e => !codes.contains e.code).filter fun e => !more.contains e.code := by
    rw [List.filter_filter]
    refine List.filter_congr fun e _ => ?_
    cases out : codes.contains e.code with
    | false => simp
    | true =>
      have inside := sub _ (List.contains_iff_mem.mp out)
      simp [inside]
  rw [finer, h p, ← finer]

/-- Events that leave the pending sets raise nothing. -/
theorem State.raisesOnly_of_link {codes : List Nat} {s t : State} (h : t.link = s.link) : s.RaisesOnly codes t :=
  fun p => congrArg (fun l : Link => (l.port p).events.filter fun e => !codes.contains e.code) h

/-- An event of a code below all others comes first (R10). -/
theorem insertEvent_first {e : Event} {l : List Event} (h : ∀ x ∈ l, e.code < x.code) : insertEvent e l = e :: l := by
  cases l with
  | nil => rfl
  | cons x xs =>
    have below := h x List.mem_cons_self
    rw [insertEvent, if_neg (Nat.ne_of_gt below), if_pos below]

/-! ### Stale flags -/

/-- The panel line but for its records' stale flags. -/
theorem PanelLine.unmarked_eq {l m : PanelLine} (h : l.unmarked = m.unmarked) :
    l = { m with panels := l.panels } ∧ l.unmarked.panels = m.unmarked.panels := by
  have same := congrArg (fun x : PanelLine => { x with panels := l.panels }) h
  exact ⟨same, congrArg PanelLine.panels h⟩

/-! ### The comparison of brightness (R218) -/

/-- A change of the heat state or of the ceiling raises HEAT, and nothing else (R218). -/
theorem State.settleBrightness_link (s before : State) : (s.settleBrightness before).link =
    if before.bright.heat ≠ s.bright.heat ∨ before.bright.ceiling ≠ s.bright.ceiling then
      (s.raise (.heat s.bright.heat s.bright.ceiling)).link
    else s.link := by
  unfold State.settleBrightness
  by_cases same : before.bright.heat = s.bright.heat ∧ before.bright.ceiling = s.bright.ceiling
  · simp only [if_pos same, if_neg (show ¬ (before.bright.heat ≠ s.bright.heat ∨ _) from
      not_or.mpr ⟨not_not_intro same.1, not_not_intro same.2⟩)]
    split <;> rfl
  · simp only [if_neg same, if_pos (show before.bright.heat ≠ s.bright.heat ∨ _ from not_and_or.mp same)]
    split <;> rfl

/-- Only a change of the ceiling or of a brightness marks panels stale (R218). -/
theorem State.settleBrightness_unmarked (s before : State) :
    (s.settleBrightness before).line.unmarked = s.line.unmarked := by
  have raised (e : Event) {c : Prop} [Decidable c] : (if c then s else s.raise e).line = s.line := by split <;> rfl
  unfold State.settleBrightness
  extract_lets s1
  split
  · exact congrArg PanelLine.unmarked (raised _)
  · exact (PanelLine.unmarked_staleWhere _ _).trans (congrArg PanelLine.unmarked (raised _))

/-- With no panel defined only HEAT is left of the comparison. -/
theorem State.settleBrightness_of_no_panels {s : State} (noPanels : s.line.panels = []) (before : State) :
    { s.settleBrightness before with link := s.link } = s := by
  have line : (s.settleBrightness before).line = s.line := by
    obtain ⟨same, panels⟩ := PanelLine.unmarked_eq (s.settleBrightness_unmarked before)
    have none_ : (s.settleBrightness before).line.panels = [] := by
      simpa [PanelLine.unmarked, noPanels] using panels
    rw [same, none_, ← noPanels]
  have frame := s.settleBrightness_frame before
  rw [← line] at frame
  exact frame

/-! ### A mode given and standstill judged (R51, R54) -/

theorem State.judge_setMode (m : Mode) (s : State) : { (s.setMode m).judgeStandstill with link := s.link } = { s with
    odo := { s.odo with mode := m }
    appr := { s.appr with standstill := standstillOf { s.odo with mode := m } } } := by
  unfold State.setMode
  split
  next same =>
    subst same
    rfl
  · rfl

/-- A mode given raises MODE alone, or nothing (R51). -/
theorem State.setMode_link (m : Mode) (s : State) :
    (s.setMode m).link = if s.odo.mode = m then s.link else (s.raise (.mode m)).link := by
  unfold State.setMode
  split <;> rfl

theorem State.setMode_rest (m : Mode) (s : State) : (s.setMode m).link.rest = s.link.rest := by
  rw [State.setMode_link]
  split <;> rfl

theorem State.raisesOnly_setMode (m : Mode) (s : State) : s.RaisesOnly [0x02] (s.setMode m) := by
  have link := s.setMode_link m
  split at link
  · exact State.raisesOnly_of_link link
  · exact fun p => (congrArg (fun l : Link => (l.port p).events.filter _) link).trans
      (State.raisesOnly_raise (e := .mode m) rfl s p)

/-! ### The active notice leaves its place (R158, R164, R166) -/

theorem State.dropActive_frame (s : State) : { s.dropActive with seq := s.seq, line := s.line } = s := by
  unfold State.dropActive
  split <;> rfl

theorem State.dropActive_seq (s : State) :
    s.dropActive.seq = { s.seq with active := none, dwellLeft := s.dropActive.seq.dwellLeft } := by
  unfold State.dropActive
  split
  · rfl
  next none_ =>
    obtain h : s.seq.active = none := by simpa using none_
    rw [← h]

theorem State.dropActive_unmarked (s : State) : s.dropActive.line.unmarked = s.line.unmarked := by
  unfold State.dropActive
  split
  · exact PanelLine.unmarked_staleWhere _ _
  · rfl

end Sys2Proof.Machine
end

section
/-!
Proofs of the statements about resets, power, rest and wake (R15 to R19, R186).
-/
namespace Sys2Proof.Machine

/-! ### Events of a reset (R185, R186, R217) -/

/-- STORE_DAMAGE where a kept count is above 0 (R185, R186). -/
def Store.damage (st : Store) : List Event :=
  if 0 < st.tornCount ∨ 0 < st.incompleteCount then [.storeDamage st.tornCount st.incompleteCount] else []

/-- The Link Unit after a reset's events: OVERHEAT, STORE_DAMAGE and MARKS in event code order (R9). -/
theorem State.resetEvents_link {s : State} (h : s.link = State.reset.link) :
    s.raiseDamage.raiseOverheat.link = { State.reset.link with
      operations := { PortState.reset with
        events := (if s.bright.overheat then [.overheat true] else []) ++ s.store.damage }
      content := { PortState.reset with events := s.store.damage ++ [.marks 0xFFFFFF] } } := by
  unfold State.raiseOverheat State.raiseDamage Store.damage
  by_cases damaged : 0 < s.store.tornCount ∨ 0 < s.store.incompleteCount
  · simp only [if_pos damaged, State.raise_bright]
    cases s.bright.overheat <;> simp only [Bool.false_eq_true, if_true, if_false, State.raise, h] <;> rfl
  · simp only [if_neg damaged]
    cases s.bright.overheat <;> simp only [Bool.false_eq_true, if_true, if_false, State.raise, h] <;> rfl

theorem State.resetEvents_frame (s : State) : { s.raiseDamage.raiseOverheat with link := s.link } = s := by
  unfold State.raiseOverheat State.raiseDamage
  split <;> split <;> rfl

/-- A power-up reset but for its events (R15). -/
theorem State.powerUp_frame (s : State) :
    { s.powerUp with link := State.reset.link } = s.resetBlocks s.store.lose.scan := State.resetEvents_frame _

theorem State.powerUp_link (s : State) : s.powerUp.link = { State.reset.link with
    operations := { PortState.reset with
      events := (if s.overheatLine then [.overheat true] else []) ++ s.store.lose.scan.damage }
    content := { PortState.reset with events := s.store.lose.scan.damage ++ [.marks 0xFFFFFF] } } :=
  State.resetEvents_link rfl

/-- Settles O10: the reset values of every block, and the events that a reset raises. -/
theorem powerUpValues : Obligations.PowerUpValues := by
  intro s
  have frame := s.powerUp_frame
  have link := s.powerUp_link
  have store : s.powerUp.store = s.store.lose.scan := (congrArg State.store frame :)
  refine ⟨_, rfl, (congrArg State.powered frame :), (congrArg State.unitId frame :),
    (congrArg State.doorLine frame :), (congrArg State.overheatLine frame :), by rw [link]; rfl, by rw [link]; rfl,
    fun p => ?_, (congrArg State.plan frame :), (congrArg State.clock frame :), (congrArg State.odo frame :),
    (congrArg State.appr frame :), (congrArg State.form frame :), (congrArg State.table frame :),
    (congrArg State.holds frame :), ?_⟩
  · rw [State.port, link]
    cases p <;> rfl
  have seq : s.powerUp.seq = Sequencer.reset := (congrArg State.seq frame :)
  rw [seq, store, link]
  exact ⟨rfl, rfl, rfl, rfl, (congrArg State.line frame :), (congrArg State.bright frame :), rfl, rfl, rfl⟩

/-- The values that the reset of Restart gives over those of a power-up reset (R16, R186, R216). -/
def State.restartBlocks (s : State) : State :=
  { s.resetBlocks s.store.abandon with
    clock := s.clock
    bright := { (s.resetBlocks s.store.abandon).bright with
      guard := s.bright.guard
      heat := if s.bright.guard.enabled then .hot else .off } }

theorem State.restartReset_eq (s : State) :
    s.restartReset = s.restartBlocks.raiseDamage.raiseOverheat.settleBrightness s := rfl

/-- A reset of Restart but for its events: no panel is defined that the comparison could mark. -/
theorem State.restartReset_frame (s : State) :
    { s.restartReset with link := State.reset.link } = s.restartBlocks := by
  have raised : { s.restartBlocks.raiseDamage.raiseOverheat with link := State.reset.link } = s.restartBlocks :=
    State.resetEvents_frame _
  have noPanels : s.restartBlocks.raiseDamage.raiseOverheat.line.panels = [] :=
    (congrArg (fun t : State => t.line.panels) raised :)
  have settled := State.settleBrightness_of_no_panels noPanels s
  rw [← settled] at raised
  exact raised

theorem State.restartReset_link (s : State) : s.restartReset.link = { State.reset.link with
    operations := { PortState.reset with
      events := (if s.bright.heat ≠ s.restartBlocks.bright.heat ∨ s.bright.ceiling ≠ s.restartBlocks.bright.ceiling then
          [.heat s.restartBlocks.bright.heat s.restartBlocks.bright.ceiling] else [])
        ++ (if s.overheatLine then [.overheat true] else []) ++ s.store.abandon.damage }
    content := { PortState.reset with events := s.store.abandon.damage ++ [.marks 0xFFFFFF] } } := by
  have raised : s.restartBlocks.raiseDamage.raiseOverheat.link = { State.reset.link with
      operations := { PortState.reset with
        events := (if s.overheatLine then [.overheat true] else []) ++ s.store.abandon.damage }
      content := { PortState.reset with events := s.store.abandon.damage ++ [.marks 0xFFFFFF] } } :=
    State.resetEvents_link rfl
  have bright : s.restartBlocks.raiseDamage.raiseOverheat.bright = s.restartBlocks.bright :=
    (congrArg State.bright s.restartBlocks.resetEvents_frame :)
  rw [State.restartReset_eq, State.settleBrightness_link, bright]
  split
  · have first : ∀ x ∈ (if s.overheatLine then [Event.overheat true] else []) ++ s.store.abandon.damage,
        (Event.heat s.restartBlocks.bright.heat s.restartBlocks.bright.ceiling).code < x.code := by
      intro x hx
      rcases List.mem_append.mp hx with hx | hx
      · rw [List.mem_ite_nil_right, List.mem_singleton] at hx
        exact hx.2 ▸ (by decide : 9 < 10)
      · rw [Store.damage, List.mem_ite_nil_right, List.mem_singleton] at hx
        exact hx.2 ▸ (by decide : 9 < 12)
    rw [List.append_assoc, List.singleton_append, ← insertEvent_first first, State.raise, raised]
    rfl
  · exact raised

/-- Settles O11: the reset of Restart is that of power-up over other values of the clock, the guard and the
store. -/
theorem restartIsAResetButForThree : Obligations.RestartIsAResetButForThree := by
  refine ⟨fun s takes => congrArg Host.Outcome.next (serve_reply takes.1 takes.2 rfl), fun s on due => ?_⟩
  have reset : exec .restartReset s = .next s.restartReset := by
    refine (live_next on).trans (congrArg Host.Outcome.next ?_)
    exact if_pos due
  have frame := s.restartReset_frame
  have upFrame := s.powerUp_frame
  have bright : s.restartReset.bright = s.restartBlocks.bright := (congrArg State.bright frame :)
  have store : s.restartReset.store = s.store.abandon := (congrArg State.store frame :)
  have upBright : s.powerUp.bright = (s.resetBlocks s.store.abandon).bright := (congrArg State.bright upFrame :)
  refine ⟨_, _, reset, rfl, (congrArg State.clock frame :), ?_, store, ?_, ?_, ?_⟩
  · rw [bright, upBright]
    rfl
  · rw [State.restartReset_link, State.powerUp_link]
    rfl
  · rw [store, bright, State.restartReset_link]
    exact ⟨rfl, rfl⟩
  · have clock : s.powerUp.clock = State.reset.clock := (congrArg State.clock upFrame :)
    have upStore : s.powerUp.store = s.store.lose.scan := (congrArg State.store upFrame :)
    have upLink : { s.resetBlocks s.store.lose.scan with link := s.powerUp.link } = s.powerUp :=
      (congrArg (fun t : State => { t with link := s.powerUp.link }) upFrame).symm
    refine Eq.trans ?_ upLink
    rw [clock, upBright, upStore]
    exact congrArg (fun t : State => { t with
      link := s.powerUp.link
      clock := State.reset.clock
      store := s.store.lose.scan
      bright := (s.resetBlocks s.store.abandon).bright }) frame

/-! ### Loss of power (R186) -/

/-- Settles O12: what is kept of the store is kept by both events, and without power no request is in service. -/
theorem powerLossKeepsTheStore : Obligations.PowerLossKeepsTheStore := by
  intro s
  have up := s.losePower.powerUp_frame
  refine ⟨_, _, rfl, rfl, rfl, rfl, rfl, fun c request => ?_, (congrArg State.powered up :),
    (congrArg State.unitId up :), ?_⟩
  · obtain ⟨⟨p, k, b⟩, request⟩ := Option.isSome_iff_exists.mp request
    rcases serves_request c s.losePower request with ⟨_, none_⟩ | ⟨always, block, eq, -, -⟩
    · exact none_
    · rw [eq, serve_absent rfl]
  · have store : s.losePower.powerUp.store = s.losePower.store.lose.scan := (congrArg State.store up :)
    rw [store]
    exact ⟨rfl, rfl, rfl, rfl⟩

/-! ### Rest entry (R17) -/

/-- The panel line at rest entry but for its stale flags (R207). -/
theorem PanelLine.enterRest_unmarked {l m : PanelLine} (h : l.unmarked = m.unmarked) :
    l.enterRest = { m with panels := l.enterRest.panels, rotationLeft := 0, blankFrom := some 1 }
    ∧ l.enterRest.unmarked.panels = m.panels.map fun x => { x with stale := false, probe := .stopped } := by
  obtain ⟨same, panels⟩ := PanelLine.unmarked_eq h
  refine ⟨?_, ?_⟩
  · exact congrArg PanelLine.enterRest same
  · have stopped := congrArg (List.map fun x : Panel => { x with probe := .stopped }) panels
    simpa only [PanelLine.unmarked, PanelLine.enterRest, List.map_map, Function.comp_def] using stopped

/-- Settles O14: the block's checks pass, and rest entry leaves each block as its rule says. -/
theorem restEntered : Obligations.RestEntered := by
  intro s takes idle level standing
  have block : emptyPayload [] restBlock (s.enter .operations 0x04 []) = done (s.enter .operations 0x04 []).enterRest [] :=
    (if_neg (not_not_intro idle)).trans ((if_neg (not_not_intro level)).trans
      (if_neg fun ⟨running, moving⟩ => moving (standing running)))
  refine ⟨_, congrArg Host.Outcome.next (serve_reply takes.1 takes.2 block), ?_⟩
  generalize atEntry : ({ s.enter .operations 0x04 [] with
    seq := { (s.enter .operations 0x04 []).seq with queue := [] } } : State) = u
  have result : (s.enter .operations 0x04 []).enterRest = { (u.dropActive.breakHolds fun _ => true) with
      link := { u.dropActive.link with rest := .resting }
      odo := { u.dropActive.odo with pulseInRest := false }
      store := { u.dropActive.store with latch := false }
      line := u.dropActive.line.enterRest } := atEntry ▸ rfl
  have frame := u.dropActive_frame
  have link : u.dropActive.link = u.link := (congrArg State.link frame :)
  have holds : u.dropActive.holds = u.holds := (congrArg State.holds frame :)
  have store : u.dropActive.store = u.store := (congrArg State.store frame :)
  have odo : u.dropActive.odo = u.odo := (congrArg State.odo frame :)
  have seq := u.dropActive_seq
  obtain ⟨line, panels⟩ := PanelLine.enterRest_unmarked u.dropActive_unmarked
  rw [result, link, store, odo]
  refine ⟨?_, fun p => ?_, ?_, ?_, ?_, ?_, ?_, ?_, ?_, ?_⟩
  · rw [← atEntry]
    rfl
  · have broken : (u.dropActive.breakHolds fun _ => true).holds.get p = (u.holds.get p).breakIf fun _ => true := by
      rw [← holds]
      cases p <;> rfl
    refine broken.trans ?_
    rw [← atEntry]
    show (s.holds.get p).breakIf _ = _
    cases s.holds.get p <;> rfl
  · exact (congrArg Holds.marks holds).trans (atEntry ▸ rfl)
  · exact (congrArg Holds.unreported holds).trans (atEntry ▸ rfl)
  · refine seq.trans ?_
    rw [← atEntry]
    rfl
  · rw [← atEntry]
    rfl
  · rw [← atEntry]
    rfl
  · rw [← atEntry] at line ⊢
    exact line
  · rw [← atEntry] at panels ⊢
    exact panels
  · rw [← atEntry] at frame ⊢
    exact congrArg (fun t : State => { t with
      link := s.link, holds := s.holds, seq := s.seq, store := s.store, odo := s.odo, line := s.line }) frame

/-! ### Wake (R19, R58, R208) -/

/-- The part AWAKE, its runs and speeds 0 and no trust in the reported speed, before its mode is given (R19,
R58). -/
def State.wakeStart (s : State) : State :=
  { s with
    link := { s.link with rest := .awake }
    odo := { s.odo with
      fresh := false, freshLeft := 0, zeroRun := 0, suspectRun := 0, failureRun := 0, disagreementRun := 0
      agreementRun := 0, exemption := false, speed := 0, prevSpeed := 0 }
    appr := { s.appr with doorTaken := s.doorLine } }

theorem State.wakeUp_eq (why : WakeReason) (s : State) : s.wakeUp why =
    State.raise (.woke why) { (s.wakeStart.setMode (wakeMode s.odo.pulseInRest s.odo.mode)).judgeStandstill with
      line := (s.wakeStart.setMode (wakeMode s.odo.pulseInRest s.odo.mode)).judgeStandstill.line.wake } := rfl

theorem wakeMode_eq (pulsed : Bool) (m : Mode) :
    wakeMode pulsed m = if pulsed = true ∨ m = .deadReckon then .hold else m := by
  cases pulsed <;> cases m <;> rfl

/-- With every run 0 and no fresh speed the train stands still in HOLD alone (R54, R58). -/
theorem standstillOf_wake {pulsed : Bool} {m : Mode} {o : Odometer} (mode : o.mode = wakeMode pulsed m)
    (zeroRun : o.zeroRun = 0) (stale : o.fresh = false) : standstillOf o = decide (o.mode = .hold) := by
  unfold standstillOf
  cases h : o.mode with
  | deadReckon =>
    rw [h, wakeMode_eq] at mode
    split at mode
    · exact nomatch mode
    next none_ => exact absurd (.inr mode.symm) none_
  | wheel => simp [zeroRun]
  | guarded => simp [zeroRun]
  | hold => simp [stale]

/-- What waking leaves, in every state (R19, R58, R208). -/
theorem State.woken_wakeUp (why : WakeReason) (s : State) : s.Woken why (s.wakeUp why) := by
  rw [State.wakeUp_eq]
  have mode := State.judge_setMode (wakeMode s.odo.pulseInRest s.odo.mode) s.wakeStart
  have rest := State.setMode_rest (wakeMode s.odo.pulseInRest s.odo.mode) s.wakeStart
  generalize (s.wakeStart.setMode (wakeMode s.odo.pulseInRest s.odo.mode)) = u at mode rest
  have line : u.judgeStandstill.line = s.line := (congrArg State.line mode :)
  have appr : u.judgeStandstill.appr = _ := (congrArg State.appr mode :)
  rw [standstillOf_wake rfl rfl rfl] at appr
  refine ⟨rest, State.raise_mem_operations _ _ rfl, ⟨_, (congrArg State.odo mode :), ?_, appr⟩, ?_, ?_, ?_, ?_⟩
  · rw [wakeMode_eq]
  · exact congrArg (fun l : PanelLine => l.wake.panels) line
  · exact congrArg (fun l : PanelLine => l.wake.rotationLeft) line
  · rfl
  · exact congrArg (fun t : State => { t with
      link := s.link
      odo := s.odo
      appr := s.appr
      line := { t.line.wake with
        panels := s.line.panels, rotationLeft := s.line.rotationLeft, blankFrom := s.line.blankFrom } }) mode

theorem State.raisesOnly_wakeUp (why : WakeReason) (s : State) : s.RaisesOnly [0x02, 0x0B] (s.wakeUp why) := by
  have started : s.RaisesOnly [0x02, 0x0B] s.wakeStart := fun p => by cases p <;> rfl
  have moded := (State.raisesOnly_setMode (wakeMode s.odo.pulseInRest s.odo.mode) s.wakeStart).mono
    (more := [0x02, 0x0B]) (by simp)
  rw [State.wakeUp_eq]
  exact (started.trans moded).trans (State.raisesOnly_raise (e := .woke why) rfl _)

/-- Settles O15: each of the three carries out the one wake, with its reason. -/
theorem threeWaysToWake : Obligations.ThreeWaysToWake := by
  refine ⟨fun s takes resting => ?_, fun s on resting inactive => ?_, fun s on resting => ⟨fun many => ?_, fun few => ?_⟩⟩
  · have block : emptyPayload [] wakeBlock (s.enter .operations 0x05 []) = done ((s.enter .operations 0x05 []).wakeUp .wakeMessage) [] :=
      if_pos resting
    obtain ⟨rest, woke, odo, panels, rotation, blank, frame⟩ := (s.enter .operations 0x05 []).woken_wakeUp .wakeMessage
    refine ⟨_, congrArg Host.Outcome.next (serve_reply takes.1 takes.2 block), ?_, ?_, ?_⟩
    · exact ⟨rest, woke, odo, panels, rotation, blank, congrArg (fun t : State => { t with link := s.link }) frame⟩
    · intro q
      rw [id, State.answer_events]
      exact ((s.enter .operations 0x05 []).raisesOnly_wakeUp .wakeMessage q).trans
        (congrArg (List.filter _) (s.enter_events _ _ _ _))
    · rw [id, port_answer]
      exact ⟨rfl, rfl⟩
  · refine ⟨_, congrArg Host.Outcome.next ?_, State.woken_wakeUp _ _⟩
    show State.doorRelease true s = _
    rw [State.doorRelease, if_neg (not_not_intro on), if_neg (by simp [inactive]), if_neg (by simp [resting]), if_pos rfl]
  · have window : exec .odometerWindowEnd s = .next s.restWindow := by
      refine (live_next on).trans (congrArg Host.Outcome.next ?_)
      exact if_neg (by simp [resting])
    exact ⟨_, window.trans (congrArg Host.Outcome.next (if_pos many)), State.woken_wakeUp _ _⟩
  · have window : exec .odometerWindowEnd s = .next s.restWindow := by
      refine (live_next on).trans (congrArg Host.Outcome.next ?_)
      exact if_neg (by simp [resting])
    exact window.trans (congrArg Host.Outcome.next (if_neg (Nat.not_le.mpr few)))

end Sys2Proof.Machine
end

section
/-!
Rules shared by the statements of chapters 2 to 10: stale flags through later events, what an event leaves of
the panel line and of the Link Unit, and numbers read back from payloads.
-/
namespace Sys2Proof.Machine

/-! ### Stale flags through later events (R193) -/

section Stale
variable {s t : State} {named : Panel → Bool}

/-- The panels named are still stale where the line is as it was. -/
theorem State.StaleAt.of_line (h : s.StaleAt named) (same : t.line = s.line) : t.StaleAt named :=
  fun x hx => h x (same ▸ hx)

theorem State.StaleAt.mono {fewer : Panel → Bool} (h : s.StaleAt named)
    (sub : ∀ x, fewer x = true → named x = true) : s.StaleAt fewer := fun x hx name => h x hx (sub x name)

/-- Marking more panels stale clears no stale flag. -/
theorem State.StaleAt.staleWhere (h : s.StaleAt named) (more : Panel → Bool) :
    (s.staleWhere more).StaleAt named := by
  intro y hy name
  obtain ⟨x, hx, rfl⟩ := List.mem_map.mp hy
  by_cases marked : more x = true
  · rw [if_pos marked]
  · rw [if_neg marked] at name ⊢
    exact h x hx name

theorem State.StaleAt.settleBrightness (h : s.StaleAt named) (before : State) :
    (s.settleBrightness before).StaleAt named := by
  have raised (e : Event) {c : Prop} [Decidable c] : (if c then s else s.raise e).StaleAt named := by
    split
    · exact h
    · exact h.of_line rfl
  unfold State.settleBrightness
  extract_lets s1
  split
  · exact raised _
  · exact (raised _).staleWhere _

theorem State.settleLevel_line (before : State) : (s.settleLevel before).line = s.line :=
  (congrArg State.line (s.settleLevel_frame before) :)

theorem State.StaleAt.settle (h : s.StaleAt named) (before : State) :
    (s.settle before).StaleAt named :=
  (h.settleBrightness before).of_line (State.settleLevel_line _)

/-- Door maps and banners are stale after both have been marked (R31, R33, R39). -/
theorem State.staleAt_both (s : State) :
    s.staleDoorMaps.staleBanners.StaleAt fun x => decide (x.kind = .doorMap) || decide (x.kind = .banner) := by
  intro y hy name
  rcases Bool.or_eq_true _ _ |>.mp name with doorMap | banner
  · exact (s.staleAt_staleWhere _).staleWhere _ y hy doorMap
  · exact State.staleAt_staleWhere _ _ y hy banner

end Stale

/-- The line of records marked stale. -/
theorem State.staleWhere_line (named : Panel → Bool) (s : State) : (s.staleWhere named).line = { s.line with
    panels := s.line.panels.map fun x => { x with stale := x.stale || named x } } := by
  refine congrArg (fun l => { s.line with panels := l }) (List.map_congr_left fun x _ => ?_)
  cases h : named x
  · simp
  · simp

/-- Two lines that agree but for stale flags differ in their records alone. -/
theorem PanelLine.only_panels {l m : PanelLine} (h : l.unmarked = m.unmarked) : { l with panels := m.panels } = m :=
  congrArg (fun x : PanelLine => { x with panels := m.panels }) h

/-! ### The minute of the clock (R37, R39) -/

theorem State.minuteChange_frame (s before : State) :
    { s.minuteChange before with line := s.line } = s := by
  unfold State.minuteChange
  split <;> rfl

theorem State.minuteChange_unmarked (s before : State) : (s.minuteChange before).line.unmarked = s.line.unmarked := by
  unfold State.minuteChange
  split
  · rfl
  · exact (PanelLine.unmarked_staleWhere _ _).trans (PanelLine.unmarked_staleWhere _ _)

theorem State.staleAt_minuteChange {s before : State} (differs : before.clock.minute ≠ s.clock.minute) :
    (s.minuteChange before).StaleAt fun x => decide (x.kind = .doorMap) || decide (x.kind = .banner) := by
  rw [State.minuteChange, if_neg differs]
  exact s.staleAt_both

/-- An event that leaves heat state and ceiling raises no HEAT (R218). -/
theorem State.settleBrightness_link_same {s before : State} (same : s.bright = before.bright) :
    (s.settleBrightness before).link = s.link := by
  rw [State.settleBrightness_link, same]
  exact if_neg (by simp)

/-! ### Numbers read back from payloads (1.10) -/

section Payload
variable {n : Nat} {as : List Byte} (h : as.length = n) (bs : List Byte) (i : Nat)
include h

theorem u8_skip : u8 (as ++ bs) (n + i) = u8 bs i := h ▸ u8_append_right as bs i

theorem u16_skip : u16 (as ++ bs) (n + i) = u16 bs i := by
  rw [u16, u16, Nat.add_assoc, u8_skip h, u8_skip h]

theorem u32_skip : u32 (as ++ bs) (n + i) = u32 bs i := h ▸ u32_append_right as bs i

end Payload

/-- A byte in front of the field read. -/
theorem u8_be_one_skip (v : Nat) (bs : List Byte) (i : Nat) : u8 (be 1 v ++ bs) (i + 1) = u8 bs i := by
  rw [Nat.add_comm]
  exact u8_skip (be_length 1 v) bs i

theorem u16_be_one_skip (v : Nat) (bs : List Byte) (i : Nat) : u16 (be 1 v ++ bs) (i + 1) = u16 bs i := by
  rw [Nat.add_comm]
  exact u16_skip (be_length 1 v) bs i

theorem u32_be_one_skip (v : Nat) (bs : List Byte) (i : Nat) : u32 (be 1 v ++ bs) (i + 1) = u32 bs i := by
  rw [Nat.add_comm]
  exact u32_skip (be_length 1 v) bs i

theorem u8_be_two_skip (v : Nat) (bs : List Byte) (i : Nat) : u8 (be 2 v ++ bs) (i + 2) = u8 bs i := by
  rw [Nat.add_comm]
  exact u8_skip (be_length 2 v) bs i

theorem u16_be_two_skip (v : Nat) (bs : List Byte) (i : Nat) : u16 (be 2 v ++ bs) (i + 2) = u16 bs i := by
  rw [Nat.add_comm]
  exact u16_skip (be_length 2 v) bs i

/-- The last number of a payload. -/
theorem u8_be_one_end {v : Nat} (h : v < 256) : u8 (be 1 v) 0 = v := by
  simpa using u8_be_one v [] h

theorem u16_be_two_end {v : Nat} (h : v < 65536) : u16 (be 2 v) 0 = v := by
  simpa using u16_be_two v [] h

theorem u32_be_four_end {v : Nat} (h : v < 4294967296) : u32 (be 4 v) 0 = v := by
  simpa using u32_be_four v [] h

end Sys2Proof.Machine
end

section
/-!
Proofs of the statements about the clock (R37 to R39), wheel, thresholds and counts (R42, R43, R60, R213), and
effective stops (R23).
-/
namespace Sys2Proof.Machine

/-! ### The clock (R37 to R39) -/

/-- The end of an event of the clock: door maps and banners at a change of its minute, then the brightness. -/
theorem State.clockEvent_spec (c : Clock) (s : State) :
    let t := (({ s with clock := c }.minuteChange s).settleBrightness s)
    t.clock = c ∧ t.link = s.link
    ∧ (s.clock.minute ≠ c.minute → t.StaleAt fun x => decide (x.kind = .doorMap) || decide (x.kind = .banner))
    ∧ { t with clock := s.clock, line := { t.line with panels := s.line.panels } } = s
    ∧ t.line.unmarked = s.line.unmarked := by
  intro t
  have minute := State.minuteChange_frame { s with clock := c } s
  have settled := State.settleBrightness_frame ({ s with clock := c }.minuteChange s) s
  have bright : ({ s with clock := c }.minuteChange s).bright = s.bright := (congrArg State.bright minute :)
  have link : t.link = s.link :=
    (State.settleBrightness_link_same bright).trans (congrArg State.link minute :)
  have unmarked : t.line.unmarked = s.line.unmarked :=
    (State.settleBrightness_unmarked _ _).trans (State.minuteChange_unmarked _ _)
  have frame : { t with link := s.link, line := s.line } = { s with clock := c } := by
    have whole := congrArg (fun u : State => { u with link := s.link, line := s.line }) settled
    exact whole.trans (congrArg (fun u : State => { u with link := s.link, line := s.line }) minute)
  refine ⟨(congrArg State.clock frame :), link, fun differs => ?_, ?_, unmarked⟩
  · exact (State.staleAt_minuteChange differs).settleBrightness _
  · rw [PanelLine.only_panels unmarked]
    refine (congrArg (fun u : State => { u with clock := s.clock, link := t.link }) frame).trans ?_
    exact congrArg (fun l : Link => { s with link := l }) link

/-- Settles O16: Set Clock and a tick are the same event of the clock. -/
theorem clockSetAndTicked : Obligations.ClockSetAndTicked := by
  refine ⟨fun s day sec hday hsec takes => ?_, fun s on set => ?_, fun s on unset => ?_⟩
  · have dayRead : u8 (be 1 day ++ be 4 sec) 0 = day := u8_be_one day _ (by omega)
    have secRead : u32 (be 1 day ++ be 4 sec) 1 = sec :=
      (u32_be_one_skip day (be 4 sec) 0).trans (u32_be_four_end (by omega))
    generalize hb : be 1 day ++ be 4 sec = b at takes dayRead secRead
    have form : b.length = 5 ∧ u8 b 0 ≤ 1 ∧ u32 b 1 < 86400 := by
      rw [dayRead, secRead, ← hb]
      exact ⟨rfl, hday, hsec⟩
    have block : setClockBlock b (s.enter .operations 0x06 b) = done
        (({ s.enter .operations 0x06 b with clock := ⟨true, day * 86400 + sec, 0⟩ }.minuteChange
          (s.enter .operations 0x06 b)).settleBrightness (s.enter .operations 0x06 b)) [] := by
      rw [setClockBlock, if_neg (not_not_intro form), dayRead, secRead]
    obtain ⟨clock, link, stale, frame, unmarked⟩ :=
      (s.enter .operations 0x06 b).clockEvent_spec ⟨true, day * 86400 + sec, 0⟩
    refine ⟨_, congrArg Host.Outcome.next (serve_reply takes.1 takes.2 block), clock, ?_, stale, ?_, unmarked⟩
    · exact congrArg (fun l : Link => l.setPort .operations
        { l.port .operations with service := .answered, reply := some ⟨_, .done, []⟩ }) link
    · exact congrArg (fun u : State => { u with link := s.link }) frame
  · have tick : s.clock.tick
        = ⟨true, if s.clock.second < 172799 then s.clock.second + 1 else s.clock.second, 0⟩ := by
      rw [Clock.tick, if_pos set, set]
    obtain ⟨clock, -, stale, frame, unmarked⟩ := s.clockEvent_spec s.clock.tick
    refine ⟨_, live_next on, clock.trans tick, fun differs => stale fun same => differs ?_, frame, unmarked⟩
    rw [clock]
    rw [Clock.minute, Clock.minute, set, tick] at same
    rw [tick]
    exact (Option.some.inj same).symm
  · have tick : s.clock.tick = s.clock := by rw [Clock.tick, unset]; rfl
    refine (live_next on).trans (congrArg Host.Outcome.next ?_)
    have kept : ({ s with clock := s.clock.tick } : State) = s := by rw [tick]
    have minute : ({ s with clock := s.clock.tick } : State).minuteChange s = s := by
      rw [kept, State.minuteChange, if_pos rfl]
    show (({ s with clock := s.clock.tick } : State).minuteChange s).settleBrightness s = s
    rw [minute, State.settleBrightness]
    simp

end Sys2Proof.Machine
end

section
/-!
Proofs of the statements about wheel, thresholds and counts (R42, R43, R60, R213), effective stops (R23) and the
amendment of a stop (R31).
-/
namespace Sys2Proof.Machine

/-! ### Wheel, thresholds and counts (R42, R43, R60, R213) -/

/-- Settles O25: each is one write of a block, after the range checks. -/
theorem wheelThresholdsAndCounts : Obligations.WheelThresholdsAndCounts := by
  refine ⟨⟨fun s d n d600 d1250 n20 n200 still takes => ?_,
    fun s annTime annDist appTime t60 t600 d1000 d20000 a20 a120 => ?_⟩, fun s on => ⟨fun below => ?_,
    fun full => ?_, fun below => ?_, fun full => ?_⟩⟩
  · have dRead : u16 (be 2 d ++ be 1 n) 0 = d := u16_be_two d _ (by omega)
    have nRead : u8 (be 2 d ++ be 1 n) 2 = n :=
      (u8_skip (be_length 2 d) (be 1 n) 0).trans (u8_be_one_end (by omega))
    generalize hb : be 2 d ++ be 1 n = b at takes dRead nRead
    have form : b.length = 3 ∧ 600 ≤ u16 b 0 ∧ u16 b 0 ≤ 1250 ∧ 20 ≤ u8 b 2 ∧ u8 b 2 ≤ 200 := by
      rw [dRead, nRead, ← hb]
      exact ⟨rfl, d600, d1250, n20, n200⟩
    have stands : ¬ (s.plan.state = .running ∧ ¬ s.appr.standstill = true) := fun h => h.2 (still h.1)
    have block : setWheelBlock b (s.enter .operations 0x20 b)
        = done { s.enter .operations 0x20 b with odo := { s.odo with
            diameter := d, pulsesPerRev := n, travelPerPulse := travelOf d n } } (be 4 (travelOf d n)) := by
      rw [setWheelBlock, if_neg (not_not_intro form), dRead, nRead]
      exact if_neg stands
    exact congrArg Host.Outcome.next (serve_reply takes.1 takes.2 block)
  · intro b takes
    have timeRead : u16 b 0 = annTime := by
      simp only [b, List.append_assoc, u16_be_two _ _ (by omega : annTime < 65536)]
    have distRead : u16 b 2 = annDist := by
      simp only [b, List.append_assoc, u16_be_two_skip, u16_be_two _ _ (by omega : annDist < 65536)]
    have appRead : u16 b 4 = appTime := by
      simp only [b, List.append_assoc, u16_be_two_skip, u16_be_two_end (by omega : appTime < 65536)]
    have form : b.length = 6 ∧ 60 ≤ u16 b 0 ∧ u16 b 0 ≤ 600 ∧ 1000 ≤ u16 b 2 ∧ u16 b 2 ≤ 20000
        ∧ 20 ≤ u16 b 4 ∧ u16 b 4 ≤ 120 := by
      rw [timeRead, distRead, appRead]
      exact ⟨by simp [b], t60, t600, d1000, d20000, a20, a120⟩
    have block : setApproachBlock b (s.enter .operations 0x21 b)
        = done { s.enter .operations 0x21 b with appr := { s.appr with
            annTime := annTime, annDist := annDist, appTime := appTime } } [] := by
      rw [setApproachBlock, if_neg (not_not_intro form), timeRead, distRead, appRead]
      rfl
    exact congrArg Host.Outcome.next (serve_reply takes.1 takes.2 block)
  · exact (live_next on).trans (congrArg Host.Outcome.next (if_pos below))
  · exact (live_next on).trans (congrArg Host.Outcome.next (if_neg (by omega)))
  · have edge : s.bright.edge = { s.bright with count := s.bright.count + 1 } :=
      congrArg (fun n => { s.bright with count := n }) (by omega)
    exact (live_next on).trans (congrArg (fun x => Host.Outcome.next { s with bright := x }) edge)
  · have edge : s.bright.edge = s.bright :=
      congrArg (fun n => { s.bright with count := n }) (show min 65535 (s.bright.count + 1) = s.bright.count by omega)
    exact (live_next on).trans (congrArg (fun x => Host.Outcome.next { s with bright := x }) edge)

/-! ### Effective stops (R23) -/

theorem Plan.mem_route {pl : Plan} {po : Portion} {n : Nat} : n ∈ pl.route po ↔ pl.callAt po n ≠ .noCall := by
  have outside : pl.stops.length ≤ n → pl.callAt po n = .noCall := fun h => by
    rw [Plan.callAt, List.getElem?_eq_none h]
  simp only [Plan.route, List.mem_filter, List.mem_range, decide_eq_true_eq]
  exact ⟨fun h => h.2, fun h => ⟨by by_contra beyond; exact h (outside (by omega)), h⟩⟩

theorem Plan.mem_calls {pl : Plan} {po : Portion} {n : Nat} : n ∈ pl.calls po ↔ pl.callAt po n = .call := by
  have outside : pl.stops.length ≤ n → pl.callAt po n = .noCall := fun h => by
    rw [Plan.callAt, List.getElem?_eq_none h]
  simp only [Plan.calls, List.mem_filter, List.mem_range, decide_eq_true_eq]
  refine ⟨fun h => h.2, fun h => ⟨?_, h⟩⟩
  by_contra beyond
  exact absurd ((outside (by omega)).symm.trans h) nofun

theorem Plan.calls_sorted (pl : Plan) (po : Portion) : (pl.calls po).Pairwise (· < ·) :=
  List.pairwise_lt_range.filter _

/-- In a rising list the first number at or above a bound is the least of those. -/
theorem find?_least {l : List Nat} (rising : l.Pairwise (· < ·)) {n c : Nat} :
    l.find? (fun x => decide (n ≤ x)) = some c ↔ c ∈ l ∧ n ≤ c ∧ ∀ m ∈ l, n ≤ m → c ≤ m := by
  induction l with
  | nil => simp
  | cons x xs ih =>
    obtain ⟨above, rest⟩ := List.pairwise_cons.mp rising
    by_cases here : n ≤ x
    · rw [List.find?_cons_of_pos (by simpa using here), Option.some.injEq]
      constructor
      · rintro rfl
        exact ⟨List.mem_cons_self, here, by simpa using fun m hm _ => (above m hm).le⟩
      · rintro ⟨mem, -, least⟩
        rcases List.mem_cons.mp mem with rfl | mem
        · rfl
        · exact absurd (least x List.mem_cons_self here) (by have := above c mem; omega)
    · rw [List.find?_cons_of_neg (by simpa using here), ih rest]
      constructor
      · rintro ⟨mem, bound, least⟩
        exact ⟨List.mem_cons_of_mem _ mem, bound, by simpa [here] using least⟩
      · rintro ⟨mem, bound, least⟩
        rcases List.mem_cons.mp mem with rfl | mem
        · exact absurd bound here
        · exact ⟨mem, bound, fun m hm => least m (List.mem_cons_of_mem _ hm)⟩

/-- The last number of a rising list is its greatest. -/
theorem getLast?_greatest {l : List Nat} (rising : l.Pairwise (· < ·)) {c : Nat} :
    l.getLast? = some c ↔ c ∈ l ∧ ∀ m ∈ l, m ≤ c := by
  rcases l.eq_nil_or_concat with rfl | ⟨front, last, rfl⟩
  · simp
  · rw [List.concat_eq_append] at *
    have below : ∀ m ∈ front, m < last := fun m hm =>
      (List.pairwise_append.mp rising).2.2 m hm last (by simp)
    rw [List.getLast?_concat, Option.some.injEq]
    constructor
    · rintro rfl
      exact ⟨by simp, fun m hm => by
        rcases List.mem_append.mp hm with hm | hm
        · exact (below m hm).le
        · exact (List.mem_singleton.mp hm).le⟩
    · rintro ⟨mem, greatest⟩
      rcases List.mem_append.mp mem with mem | mem
      · exact absurd (greatest last (by simp)) (by have := below c mem; omega)
      · exact (List.mem_singleton.mp mem).symm

/-- Settles O19: calling stops rise, so the first at or after a stop is the least and the last before it the
greatest. -/
theorem effectiveStop : Obligations.EffectiveStop := by
  intro pl po n
  have sorted := pl.calls_sorted po
  refine ⟨fun off => ?_, fun calls => ?_, fun on c => ?_⟩
  · rw [Plan.eff, if_pos (not_not.mp fun h => off (Plan.mem_route.mpr h))]
  · have own : (pl.calls po).find? (fun c => decide (n ≤ c)) = some n :=
      (find?_least sorted).mpr ⟨calls, le_rfl, fun m _ h => h⟩
    rw [Plan.eff, if_neg (by rw [Plan.mem_calls.mp calls]; nofun), own]
  · rw [Plan.eff, if_neg (Plan.mem_route.mp on)]
    cases first : (pl.calls po).find? fun c => decide (n ≤ c) with
    | some d =>
      obtain ⟨mem, bound, least⟩ := (find?_least sorted).mp first
      constructor
      · rintro ⟨⟩
        exact .inl ⟨mem, bound, least⟩
      · rintro (⟨memC, boundC, leastC⟩ | ⟨-, -, before⟩)
        · exact congrArg some (le_antisymm (least c memC boundC) (leastC d mem bound))
        · exact absurd (before d mem).1 (by omega)
    | none =>
      have before : ∀ m ∈ pl.calls po, m < n := by simpa using first
      have all : (pl.calls po).filter (fun c => decide (c < n)) = pl.calls po :=
        List.filter_eq_self.mpr (by simpa using before)
      refine (Eq.congr_left (congrArg List.getLast? all)).trans ((getLast?_greatest sorted).trans ?_)
      constructor
      · rintro ⟨mem, greatest⟩
        exact .inr ⟨mem, before c mem, fun m hm => ⟨before m hm, greatest m hm⟩⟩
      · rintro (⟨mem, bound, -⟩ | ⟨mem, -, rest⟩)
        · exact absurd (before c mem) (by omega)
        · exact ⟨mem, fun m hm => (rest m hm).2⟩

end Sys2Proof.Machine
end

section
/-!
Proofs of the statements about Amend Stop (R31) and Load Stop (R21).
-/
namespace Sys2Proof.Machine

/-! ### Reading signed numbers and long payloads -/

theorem i16_be_one_skip (v : Nat) (bs : List Byte) (i : Nat) : i16 (be 1 v ++ bs) (i + 1) = i16 bs i := by
  rw [i16, i16, u16_be_one_skip]

theorem i16_be_two_skip (v : Nat) (bs : List Byte) (i : Nat) : i16 (be 2 v ++ bs) (i + 2) = i16 bs i := by
  rw [i16, i16, u16_be_two_skip]

theorem u8_be_four_skip (v : Nat) (bs : List Byte) (i : Nat) : u8 (be 4 v ++ bs) (i + 4) = u8 bs i := by
  rw [Nat.add_comm]
  exact u8_skip (be_length 4 v) bs i

theorem u16_be_four_skip (v : Nat) (bs : List Byte) (i : Nat) : u16 (be 4 v ++ bs) (i + 4) = u16 bs i := by
  rw [Nat.add_comm]
  exact u16_skip (be_length 4 v) bs i

theorem i16_be_four_skip (v : Nat) (bs : List Byte) (i : Nat) : i16 (be 4 v ++ bs) (i + 4) = i16 bs i := by
  rw [i16, i16, u16_be_four_skip]

theorem u32_be_two_skip (v : Nat) (bs : List Byte) (i : Nat) : u32 (be 2 v ++ bs) (i + 2) = u32 bs i := by
  rw [Nat.add_comm]
  exact u32_skip (be_length 2 v) bs i

/-- A signed number is read back as it was written. -/
theorem i16_beInt (i : Int) (rest : List Byte) (low : -32768 ≤ i) (high : i < 32768) :
    i16 (beInt 2 i ++ rest) 0 = i := by
  rw [i16, beInt, u16_be_two _ _ (by omega)]
  split <;> omega

/-! ### Amend Stop (R31) -/

theorem selects_eq (mask i : Nat) : selects mask i = decide (mask / 2 ^ i % 2 = 1) :=
  Nat.testBit_eq_decide_div_mod_eq

theorem set_of_getElem? {α : Type} {l : List α} {n : Nat} {x : α} (h : l[n]? = some x) : l.set n x = l := by
  obtain ⟨hn, rfl⟩ := List.getElem?_eq_some_iff.mp h
  exact List.set_getElem_self hn

/-- Door maps and banners are the panels that are not seat strips. -/
theorem State.staleDoorMaps_staleBanners (s : State) :
    s.staleDoorMaps.staleBanners.line = { s.line with panels := s.line.panels.map fun x =>
      { x with stale := x.stale || decide (x.kind ≠ .seatStrip) } } := by
  rw [State.staleBanners, State.staleWhere_line, State.staleDoorMaps, State.staleWhere_line]
  refine congrArg (fun l => { s.line with panels := l }) ?_
  rw [List.map_map]
  refine List.map_congr_left fun x _ => congrArg (fun b => { x with stale := b }) ?_
  rw [Bool.or_assoc]
  cases x.kind <;> rfl

/-- Settles O22: the selected fields are read from the payload, a mask of 0 selects none. -/
theorem amendStopReplacesSelectedFields : Obligations.AmendStopReplacesSelectedFields := by
  intro s n mask platform side length delay r hn hmask low high hplatform hside hlength state found b r1 takes
  have nRead : u8 b 0 = n := by
    simp only [b, List.append_assoc, u8_be_one _ _ (by omega : n < 256)]
  have maskRead : u8 b 1 = mask := by
    simp only [b, List.append_assoc, u8_be_one_skip, u8_be_one _ _ (by omega : mask < 256)]
  have delayRead : i16 b 2 = delay := by
    simp only [b, List.append_assoc, i16_be_one_skip, i16_beInt _ _ low high]
  have platformRead : u16 b 4 = platform := by
    simp only [b, List.append_assoc, u16_be_one_skip, u16_be_two_skip, beInt,
      u16_be_two _ _ (by omega : platform < 65536)]
  have sideRead : u8 b 6 = side := by
    simp only [b, List.append_assoc, u8_be_one_skip, u8_be_two_skip, beInt, u8_be_one _ _ (by omega : side < 256)]
  have lengthRead : u8 b 7 = length := by
    simp only [b, List.append_assoc, u8_be_one_skip, u8_be_two_skip, beInt,
      u8_be_one_end (by omega : length < 256)]
  have form : amendOk b = true := by
    have size : b.length = 8 := by simp [b, beInt]
    have phrase : phraseOk platform = true := by simpa [phraseOk] using hplatform
    simp [amendOk, size, nRead, maskRead, platformRead, sideRead, lengthRead, phrase, hn, hmask, hside, hlength]
  have amended : r.amend b = r1 := by
    simp only [StopRecord.amend, maskRead, delayRead, platformRead, sideRead, lengthRead, selects_eq, r1, unlessEq,
      clampInt, decide_eq_true_eq, pow_zero, Nat.div_one, pow_one, Nat.reducePow]
  have accepted : ¬ (s.plan.state ≠ .ready ∧ s.plan.state ≠ .running) := fun h => state.elim h.1 h.2
  have block : amendStopBlock b (s.enter .operations 0x14 b)
      = done (if mask = 0 then s.enter .operations 0x14 b else
          ({ s.enter .operations 0x14 b with
            plan := { s.plan with stops := s.plan.stops.set n r1 } } : State).staleDoorMaps.staleBanners)
        (beInt 2 r1.delay) := by
    rw [amendStopBlock, if_neg (not_not_intro form), nRead, maskRead]
    refine (if_neg accepted).trans ?_
    rw [State.enter_plan, found]
    dsimp only
    rw [amended]
  refine ⟨_, congrArg Host.Outcome.next (serve_reply takes.1 takes.2 block), ?_⟩
  by_cases none : mask = 0
  · have same : r1 = r := by simp [r1, none]
    have stops : s.plan.stops.set n r1 = s.plan.stops := by rw [same, set_of_getElem? found]
    rw [if_pos none, stops]
    refine ⟨rfl, rfl, ?_, rfl⟩
    refine congrArg (fun l => { s.line with panels := l }) ?_
    simp [none]
  · rw [if_neg none]
    refine ⟨rfl, rfl, ?_, rfl⟩
    refine (State.staleDoorMaps_staleBanners _).trans ?_
    simp [none]

/-! ### Load Stop (R21) -/

/-- A change of the plan state re-forms the displays and changes nothing else. -/
theorem State.setPlanState_frame (st : PlanState) (s : State) :
    (s.setPlanState st).plan = { s.plan with state := st } ∧ (s.setPlanState st).link = s.link
      ∧ (s.setPlanState st).table.undisplayed = s.table.undisplayed
      ∧ (s.setPlanState st).line.unmarked = s.line.unmarked
      ∧ { s.setPlanState st with plan := s.plan, table := s.table, line := s.line } = s := by
  rw [State.setPlanState]
  split
  case isTrue same =>
    subst same
    exact ⟨rfl, rfl, rfl, rfl, rfl⟩
  case isFalse =>
    exact ⟨rfl, rfl, SeatTable.undisplayed_reform { s with plan := { s.plan with state := st } } _,
      PanelLine.unmarked_reform { s with plan := { s.plan with state := st } } _, rfl⟩

/-- A change of the plan state leaves stale what is stale. -/
theorem State.StaleAt.setPlanState {named : Panel → Bool} {s : State} (h : s.StaleAt named) (st : PlanState) :
    (s.setPlanState st).StaleAt named := by
  rw [State.setPlanState]
  split
  case isTrue => exact h
  case isFalse =>
    exact State.StaleAt.staleWhere (s := { s with plan := { s.plan with state := st }, table := _ }) h _

/-- Phrase numbers joined two bytes each are read back. -/
theorem u16_flatMap_be_two {l : List Nat} (small : ∀ c ∈ l, c < 65536) (i : Nat) (hi : i < l.length) :
    u16 (l.flatMap (be 2)) (2 * i) = l[i] := by
  induction l generalizing i with
  | nil => exact absurd hi (Nat.not_lt_zero i)
  | cons c cs ih =>
    cases i with
    | zero => exact u16_be_two c _ (small c List.mem_cons_self)
    | succ i =>
      exact (u16_be_two_skip c (cs.flatMap (be 2)) (2 * i)).trans
        (ih (fun d hd => small d (List.mem_cons_of_mem _ hd)) i (Nat.lt_of_succ_lt_succ hi))

/-- A record's payload before its connections (R21). -/
def StopRecord.fields (n : Nat) (r : StopRecord) : List Byte :=
  be 1 n ++ be 2 r.name ++ be 4 r.line ++ orFFFF r.arrival ++ orFFFF r.departure ++ beInt 2 r.delay
    ++ orFFFF r.platform ++ be 1 r.doorSide.code ++ be 1 (r.length.getD 0) ++ be 1 r.callA.code
    ++ be 1 r.callB.code ++ be 1 r.callC.code ++ be 1 r.event.code ++ be 1 r.connections.length

theorem StopRecord.encode_eq (n : Nat) (r : StopRecord) :
    r.encode n = r.fields n ++ r.connections.flatMap (be 2) := rfl

theorem StopRecord.fields_length (n : Nat) (r : StopRecord) : (r.fields n).length = 22 := by
  simp [StopRecord.fields, orFFFF, beInt]

/-- A value that is present and small is told from the one that stands for absent. -/
theorem unlessEq_getD {absent : Nat} {o : Option Nat} (h : ∀ m, o = some m → m ≠ absent) :
    unlessEq absent (o.getD absent) = o := by
  cases o with
  | none => exact if_pos rfl
  | some m => exact if_neg (h m rfl)

theorem getD_lt {absent bound : Nat} {o : Option Nat} (h : ∀ m, o = some m → m < bound) (ha : absent < bound) :
    o.getD absent < bound := by
  cases o with
  | none => exact ha
  | some m => exact h m rfl

theorem Call.code_le_three (c : Call) : c.code ≤ 3 := by cases c <;> decide

theorem Call.ofCode_code (c : Call) : Call.ofCode c.code = c := by cases c <;> rfl

theorem StopEvent.code_le_three (e : StopEvent) : e.code ≤ 3 := by cases e <;> decide

theorem StopEvent.ofCode_code (e : StopEvent) : StopEvent.ofCode e.code = e := by cases e <;> rfl

theorem DoorSide.code_le_two (d : DoorSide) : d.code ≤ 2 := by cases d <;> decide

theorem DoorSide.ofCode_code (d : DoorSide) : DoorSide.ofCode d.code = d := by cases d <;> rfl

/-- The fields of a record are in their codings, its delay within the clamp (R21). -/
structure StopRecord.Coded (r : StopRecord) : Prop where
  name : r.name < 1024
  line : r.line ≤ 4000000
  arrival : ∀ m, r.arrival = some m → m < 2880
  departure : ∀ m, r.departure = some m → m < 2880
  delayLow : -15 ≤ r.delay
  delayHigh : r.delay ≤ 720
  platform : ∀ m, r.platform = some m → m < 1024
  length : ∀ k, r.length = some k → 1 ≤ k ∧ k ≤ 16
  count : r.connections.length ≤ 4
  connections : ∀ c ∈ r.connections, c < 1024

/-- The bytes of a payload carry the number and the fields of a record (R21). -/
structure LoadStopReads (b : List Byte) (n : Nat) (r : StopRecord) : Prop where
  number : u8 b 0 = n
  name : u16 b 1 = r.name
  line : u32 b 3 = r.line
  arrival : u16 b 7 = r.arrival.getD 0xFFFF
  departure : u16 b 9 = r.departure.getD 0xFFFF
  delay : i16 b 11 = r.delay
  platform : u16 b 13 = r.platform.getD 0xFFFF
  side : u8 b 15 = r.doorSide.code
  length : u8 b 16 = r.length.getD 0
  callA : u8 b 17 = r.callA.code
  callB : u8 b 18 = r.callB.code
  callC : u8 b 19 = r.callC.code
  event : u8 b 20 = r.event.code
  count : u8 b 21 = r.connections.length
  connections : connectionsOf b = r.connections
  size : b.length = 22 + 2 * r.connections.length

section Encoded

variable {r : StopRecord} (coded : r.Coded) {n : Nat}
include coded

theorem u8_encode_count : u8 (r.encode n) 21 = r.connections.length := by
  have := coded.count
  simp only [StopRecord.encode, List.append_assoc, u8_be_one_skip, u8_be_two_skip, u8_be_four_skip, orFFFF, beInt,
    u8_be_one _ _ (by omega : r.connections.length < 256)]

theorem connectionsOf_encode : connectionsOf (r.encode n) = r.connections := by
  rw [connectionsOf, u8_encode_count coded]
  refine List.ext_getElem (by simp) fun i _ hi => ?_
  rw [List.getElem_map, List.getElem_range, StopRecord.encode_eq, u16_skip (r.fields_length n)]
  exact u16_flatMap_be_two (fun c hc => (coded.connections c hc).trans (by omega)) i hi

/-- A record that is in its codings is read back field by field (R21). -/
theorem loadStopReads (number : n < 256) : LoadStopReads (r.encode n) n r := by
  have hname := coded.name
  have hline := coded.line
  have harrival : r.arrival.getD 0xFFFF < 65536 :=
    getD_lt (fun m h => (coded.arrival m h).trans (by omega)) (by omega)
  have hdeparture : r.departure.getD 0xFFFF < 65536 :=
    getD_lt (fun m h => (coded.departure m h).trans (by omega)) (by omega)
  have hplatform : r.platform.getD 0xFFFF < 65536 :=
    getD_lt (fun m h => (coded.platform m h).trans (by omega)) (by omega)
  have hlength : r.length.getD 0 < 256 := getD_lt (fun k h => (coded.length k h).2.trans_lt (by omega)) (by omega)
  have hlow := coded.delayLow
  have hhigh := coded.delayHigh
  have hside := r.doorSide.code_le_two
  have hA := r.callA.code_le_three
  have hB := r.callB.code_le_three
  have hC := r.callC.code_le_three
  have hevent := r.event.code_le_three
  have hcount := u8_encode_count coded (n := n)
  have hconnections := connectionsOf_encode coded (n := n)
  have hsize : (r.encode n).length = 22 + 2 * r.connections.length := by
    have each : (r.connections.flatMap (be 2)).length = 2 * r.connections.length := by
      simp [List.length_flatMap, Nat.mul_comm]
    rw [StopRecord.encode_eq, List.length_append, r.fields_length, each]
  refine ⟨?_, ?_, ?_, ?_, ?_, ?_, ?_, ?_, ?_, ?_, ?_, ?_, ?_, hcount, hconnections, hsize⟩
  all_goals simp only [StopRecord.encode, List.append_assoc, u8_be_one_skip, u8_be_two_skip, u8_be_four_skip,
    u16_be_one_skip, u16_be_two_skip, u16_be_four_skip, i16_be_one_skip, i16_be_two_skip, i16_be_four_skip,
    u32_be_one_skip, u32_be_two_skip, orFFFF, beInt]
  · exact u8_be_one _ _ number
  · exact u16_be_two _ _ (by omega)
  · exact u32_be_four _ _ (by omega)
  · exact u16_be_two _ _ harrival
  · exact u16_be_two _ _ hdeparture
  · exact i16_beInt _ _ (by omega) (by omega)
  · exact u16_be_two _ _ hplatform
  · exact u8_be_one _ _ (by omega)
  · exact u8_be_one _ _ hlength
  · exact u8_be_one _ _ (by omega)
  · exact u8_be_one _ _ (by omega)
  · exact u8_be_one _ _ (by omega)
  · exact u8_be_one _ _ (by omega)

/-- The record read from a payload is the one that was written (R21). -/
theorem loadStopRecord_encode (number : n < 256) : loadStopRecord (r.encode n) = r := by
  have reads := loadStopReads coded number
  have arrival := unlessEq_getD (absent := 0xFFFF) fun m h => ((coded.arrival m h).trans (by omega)).ne
  have departure := unlessEq_getD (absent := 0xFFFF) fun m h => ((coded.departure m h).trans (by omega)).ne
  have platform := unlessEq_getD (absent := 0xFFFF) fun m h => ((coded.platform m h).trans (by omega)).ne
  have length := unlessEq_getD (absent := 0) fun k h => (Nat.pos_iff_ne_zero.mp (coded.length k h).1)
  have delay : clampInt (-15) 720 r.delay = r.delay := by
    rw [clampInt, min_eq_right coded.delayHigh, max_eq_right coded.delayLow]
  rw [loadStopRecord, reads.name, reads.line, reads.arrival, reads.departure, reads.delay, reads.platform,
    reads.side, reads.length, reads.callA, reads.callB, reads.callC, reads.event, reads.connections, arrival,
    departure, platform, length, delay, DoorSide.ofCode_code, Call.ofCode_code, Call.ofCode_code,
    Call.ofCode_code, StopEvent.ofCode_code]

/-- Its payload passes the checks of form (R21). -/
theorem loadStopOk_encode (number : n < 48 ∨ n = 0xFF) : loadStopOk (r.encode n) = true := by
  have reads := loadStopReads coded (n := n) (by omega)
  have minute {o : Option Nat} (h : ∀ m, o = some m → m < 2880) : minuteOk (o.getD 0xFFFF) = true := by
    cases o with
    | none => rfl
    | some m => simp [minuteOk, h m rfl]
  have phrase : phraseOk (r.platform.getD 0xFFFF) = true := by
    cases platform : r.platform with
    | none => rfl
    | some k => simp [phraseOk, coded.platform k platform]
  have length : r.length.getD 0 ≤ 16 := by
    have := getD_lt (absent := 0) (bound := 17) (fun k h => (coded.length k h).2.trans_lt (by omega)) (by omega)
    omega
  have count := coded.count
  simp [loadStopOk, reads.number, reads.name, reads.line, reads.arrival, reads.departure, reads.platform,
    reads.side, reads.length, reads.callA, reads.callB, reads.callC, reads.event, reads.count, reads.connections,
    reads.size, number, coded.name, coded.line, minute coded.arrival, minute coded.departure, phrase, length, count,
    r.doorSide.code_le_two, r.callA.code_le_three, r.callB.code_le_three, r.callC.code_le_three,
    r.event.code_le_three]
  exact coded.connections

end Encoded

/-- Settles O17: the payload is read back as the record, and the write is the plan's alone. -/
theorem loadStopWritesTheRecord : Obligations.LoadStopWritesTheRecord := by
  intro s n r name line arrival departure low high platform length count connections place state takes
  have coded : r.Coded := ⟨name, line, arrival, departure, low, high, platform, length, count, connections⟩
  have number : n < 48 ∨ n = 0xFF := by omega
  have reads := loadStopReads coded (n := n) (by omega)
  have form := loadStopOk_encode coded number
  have record := loadStopRecord_encode coded (n := n) (by omega)
  generalize r.encode n = b at takes reads form record
  let u := s.enter .operations 0x10 b
  let written : State := { u with plan := u.plan.write n r }
  let marked : State := if s.plan.state = .ready then written.staleAll else written
  have writes : u.plan.write n r = { s.plan with
      stops := if n < s.plan.stops.length then s.plan.stops.set n r else s.plan.stops ++ [r] } := by
    show s.plan.write n r = _
    rw [Plan.write]
    split <;> rfl
  have block : loadStopBlock b u = done (marked.setPlanState .loading)
      (be 1 (min n s.plan.stops.length) ++ be 1 (u.plan.write n r).stops.length) := by
    have open_ : ¬ (s.plan.state = .running ∨ s.plan.state = .ended) := by
      rcases state with h | h | ⟨h, -⟩ <;> rw [h] <;> nofun
    have unheld : ¬ (s.plan.state = .ready ∧ segmentsHeld s.table.seats ≠ 0) := by
      rintro ⟨ready, held⟩
      rcases state with h | h | ⟨-, empty⟩
      · exact absurd (h.symm.trans ready) nofun
      · exact absurd (h.symm.trans ready) nofun
      · refine held (List.sum_eq_zero fun k hk => ?_)
        obtain ⟨x, hx, rfl⟩ := List.mem_map.mp hk
        rw [empty x hx]
        rfl
    have there : ¬ (n ≠ 0xFF ∧ s.plan.stops.length < n) := by omega
    have room : ¬ (s.plan.stops.length ≤ n ∧ 48 ≤ s.plan.stops.length) := by omega
    rw [loadStopBlock, if_neg (not_not_intro form), reads.number, record]
    exact (if_neg open_).trans ((if_neg unheld).trans ((if_neg there).trans (if_neg room)))
  obtain ⟨plan, link, table, line, frame⟩ := marked.setPlanState_frame .loading
  have shape : { marked with line := s.line } = written := by
    show { (if _ then _ else _ : State) with line := s.line } = written
    split <;> rfl
  have unmarked : marked.line.unmarked = s.line.unmarked := by
    show (State.line (if _ then _ else _)).unmarked = _
    split
    · exact PanelLine.unmarked_staleWhere written _
    · rfl
  have markedPlan : marked.plan = u.plan.write n r := (congrArg State.plan shape :)
  have answered : be 1 (min n s.plan.stops.length) ++ be 1 (u.plan.write n r).stops.length
      = be 1 (if n = 0xFF then s.plan.stops.length else n) ++ be 1 (marked.setPlanState .loading).plan.stops.length := by
    have first : min n s.plan.stops.length = if n = 0xFF then s.plan.stops.length else n := by
      split <;> omega
    rw [first, plan, markedPlan]
  refine ⟨_, congrArg Host.Outcome.next (serve_reply takes.1 takes.2 block), ?_, ?_, ?_, ?_, fun ready => ?_, ?_⟩
  · exact plan.trans (by rw [markedPlan, writes])
  · refine (congrArg (fun l : Link => l.setPort .operations
      { l.port .operations with service := .answered, reply := some ⟨_, .done, _⟩ })
      (link.trans (congrArg State.link shape :))).trans ?_
    rw [answered]
    rfl
  · exact table.trans (congrArg (fun u : State => u.table.undisplayed) shape :)
  · exact line.trans unmarked
  · refine State.StaleAt.of_line (s := marked.setPlanState .loading) (State.StaleAt.setPlanState ?_ _) rfl
    show State.StaleAt _ (if _ then _ else _)
    rw [if_pos ready]
    exact State.staleAt_staleWhere written _
  · have kept := congrArg (fun v : State => { v with plan := s.plan, link := s.link, table := s.table, line := s.line })
      frame
    exact kept.trans (congrArg (fun v : State =>
      { v with plan := s.plan, link := s.link, table := s.table, line := s.line }) shape)

end Sys2Proof.Machine
end

section
/-!
Proofs of the statements about Close Plan (R24, R25).
-/
namespace Sys2Proof.Machine

/-! ### The walk over a route (R25) -/

/-- The stops given rise in line position and their times never go back (R25). -/
structure Plan.RunsOn (pl : Plan) (l : List Nat) : Prop where
  rises : l.Pairwise fun m n => pl.lineAt m < pl.lineAt n
  ordered : (l.flatMap pl.timesAt).Pairwise (· ≤ ·)

/-- Each number is paired with the record at it. -/
def Plan.Recorded (pl : Plan) (l : List (Nat × StopRecord)) : Prop := ∀ x ∈ l, pl.stops[x.1]? = some x.2

/-- A time keeps the order of a list when it is not before its last. -/
theorem ordered_concat_iff {times : List Nat} (ordered : times.Pairwise (· ≤ ·)) (t : Nat) :
    (times ++ [t]).Pairwise (· ≤ ·) ↔ notBefore times.getLast? (some t) = true := by
  rcases times.eq_nil_or_concat with rfl | ⟨front, last, rfl⟩
  · simp [notBefore]
  · rw [List.concat_eq_append] at *
    rw [List.pairwise_append, List.getLast?_concat]
    simp only [ordered, List.pairwise_singleton, List.mem_singleton, forall_eq, true_and, notBefore,
      decide_eq_true_eq]
    refine ⟨fun h => h last (by simp), fun h m hm => ?_⟩
    rcases List.mem_append.mp hm with hm | hm
    · exact ((List.pairwise_append.mp ordered).2.2 m hm last (by simp)).trans h
    · rw [List.mem_singleton.mp hm]
      exact h

/-- The times of a stop keep order after the latest time exactly when the whole list does. -/
theorem timesOk_iff {times : List Nat} (ordered : times.Pairwise (· ≤ ·)) (r : StopRecord) :
    timesOk times.getLast? r = true ↔ (times ++ (r.arrival.toList ++ r.departure.toList)).Pairwise (· ≤ ·) := by
  rw [timesOk, Bool.and_eq_true]
  have absent : notBefore times.getLast? none = true := by cases times.getLast? <;> rfl
  cases ha : r.arrival with
  | none =>
    cases hd : r.departure with
    | none => simpa [absent] using ordered
    | some d => simpa [absent] using (ordered_concat_iff ordered d).symm
  | some a =>
    have arrives := ordered_concat_iff ordered a
    cases hd : r.departure with
    | none => simpa [notBefore] using arrives.symm
    | some d =>
      rw [← arrives]
      show (times ++ [a]).Pairwise _ ∧ notBefore (some a) (some d) = true ↔ (times ++ [a, d]).Pairwise _
      have split : times ++ [a, d] = (times ++ [a]) ++ [d] := by simp
      have last : (times ++ [a]).getLast? = some a := List.getLast?_concat
      rw [split]
      constructor
      · rintro ⟨front, late⟩
        exact (ordered_concat_iff front d).mpr (last ▸ late)
      · intro whole
        have front := (List.pairwise_append.mp whole).1
        exact ⟨front, last ▸ (ordered_concat_iff front d).mp whole⟩

/-- The latest time after a stop is the last of the times so far. -/
theorem latestAfter_eq (times : List Nat) (r : StopRecord) :
    latestAfter times.getLast? r = (times ++ (r.arrival.toList ++ r.departure.toList)).getLast? := by
  cases ha : r.arrival <;> cases hd : r.departure <;> simp [latestAfter, ha, hd]

section Walk

variable {pl : Plan}

theorem Plan.timesAt_eq {n : Nat} {r : StopRecord} (h : pl.stops[n]? = some r) :
    pl.timesAt n = r.arrival.toList ++ r.departure.toList := by rw [Plan.timesAt, h]

theorem Plan.lineAt_eq {n : Nat} {r : StopRecord} (h : pl.stops[n]? = some r) : pl.lineAt n = r.line := by
  rw [Plan.lineAt, h]

theorem Plan.RunsOn.front {l m : List Nat} (h : pl.RunsOn (l ++ m)) : pl.RunsOn l := by
  obtain ⟨rises, ordered⟩ := h
  rw [List.flatMap_append] at ordered
  exact ⟨(List.pairwise_append.mp rises).1, (List.pairwise_append.mp ordered).1⟩

/-- One more stop runs on when it lies beyond the last and its times keep order. -/
theorem Plan.runsOn_concat {front : List Nat} {p n : Nat} (before : pl.RunsOn (front ++ [p])) :
    pl.RunsOn (front ++ [p] ++ [n])
      ↔ pl.lineAt p < pl.lineAt n ∧ ((front ++ [p] ++ [n]).flatMap pl.timesAt).Pairwise (· ≤ ·) := by
  constructor
  · rintro ⟨rises, ordered⟩
    exact ⟨(List.pairwise_append.mp rises).2.2 p (by simp) n (by simp), ordered⟩
  · rintro ⟨beyond, ordered⟩
    refine ⟨List.pairwise_append.mpr ⟨before.rises, by simp, fun m hm k hk => ?_⟩, ordered⟩
    obtain rfl := List.mem_singleton.mp hk
    rcases List.mem_append.mp hm with hm | hm
    · exact ((List.pairwise_append.mp before.rises).2.2 m hm p (by simp)).trans beyond
    · rw [List.mem_singleton.mp hm]
      exact beyond

/-- One stop of the walk, seen as the list walked so far. -/
theorem walkRoute_cons {front : List Nat} {p n : Nat} {r : StopRecord} {rest : List (Nat × StopRecord)}
    (before : pl.RunsOn (front ++ [p])) (found : pl.stops[n]? = some r) :
    walkRoute (pl.lineAt p) ((front ++ [p]).flatMap pl.timesAt).getLast? ((n, r) :: rest)
      = if pl.lineAt n ≤ pl.lineAt p then some (n, 3)
        else if ¬ ((front ++ [p] ++ [n]).flatMap pl.timesAt).Pairwise (· ≤ ·) then some (n, 4)
        else walkRoute (pl.lineAt n) ((front ++ [p] ++ [n]).flatMap pl.timesAt).getLast? rest := by
  have joined : (front ++ [p] ++ [n]).flatMap pl.timesAt
      = (front ++ [p]).flatMap pl.timesAt ++ (r.arrival.toList ++ r.departure.toList) := by
    rw [List.flatMap_append, List.flatMap_singleton, Plan.timesAt_eq found]
  rw [walkRoute, joined, latestAfter_eq, Plan.lineAt_eq found]
  simp only [timesOk_iff before.ordered]

/-- A walk finds no fault exactly when the stops run on to its end. -/
theorem walkRoute_none {rest : List (Nat × StopRecord)} (recorded : pl.Recorded rest) {front : List Nat} {p : Nat}
    (before : pl.RunsOn (front ++ [p])) :
    walkRoute (pl.lineAt p) ((front ++ [p]).flatMap pl.timesAt).getLast? rest = none
      ↔ pl.RunsOn (front ++ [p] ++ rest.map Prod.fst) := by
  induction rest generalizing front p with
  | nil => simpa [walkRoute] using before
  | cons x rest ih =>
    obtain ⟨n, r⟩ := x
    have whole : front ++ [p] ++ ((n, r) :: rest).map Prod.fst = front ++ [p] ++ [n] ++ rest.map Prod.fst := by simp
    have found : pl.stops[n]? = some r := recorded (n, r) List.mem_cons_self
    rw [walkRoute_cons before found, whole]
    split
    case isTrue low =>
      exact ⟨nofun, fun h => absurd ((Plan.runsOn_concat before).mp h.front).1 (by omega)⟩
    case isFalse beyond =>
      split
      case isTrue late => exact ⟨nofun, fun h => absurd h.front.ordered late⟩
      case isFalse inOrder =>
        exact ih (fun y hy => recorded y (List.mem_cons_of_mem _ hy))
          ((Plan.runsOn_concat before).mpr ⟨by omega, not_not.mp inOrder⟩)

/-- A walk passes over stops that run on. -/
theorem walkRoute_append {back : List (Nat × StopRecord)} {mid : List (Nat × StopRecord)}
    (recorded : pl.Recorded mid) {front : List Nat} {p q : Nat} {r : StopRecord} (found : pl.stops[q]? = some r)
    (before : pl.RunsOn (front ++ [p] ++ mid.map Prod.fst ++ [q])) :
    walkRoute (pl.lineAt p) ((front ++ [p]).flatMap pl.timesAt).getLast? (mid ++ (q, r) :: back)
      = walkRoute (pl.lineAt q) ((front ++ [p] ++ mid.map Prod.fst ++ [q]).flatMap pl.timesAt).getLast? back := by
  induction mid generalizing front p with
  | nil =>
    rw [List.map_nil, List.append_nil] at before ⊢
    have start := before.front
    obtain ⟨beyond, ordered⟩ := (Plan.runsOn_concat start).mp before
    rw [List.nil_append, walkRoute_cons start found, if_neg (by omega), if_neg (not_not_intro ordered)]
  | cons x mid ih =>
    obtain ⟨n, k⟩ := x
    have whole : front ++ [p] ++ ((n, k) :: mid).map Prod.fst ++ [q]
        = front ++ [p] ++ [n] ++ mid.map Prod.fst ++ [q] := by simp
    rw [whole] at before ⊢
    have next := before.front.front
    have start := next.front
    obtain ⟨beyond, ordered⟩ := (Plan.runsOn_concat start).mp next
    have there : pl.stops[n]? = some k := recorded (n, k) List.mem_cons_self
    rw [List.cons_append, walkRoute_cons start there, if_neg (by omega), if_neg (not_not_intro ordered)]
    exact ih (fun y hy => recorded y (List.mem_cons_of_mem _ hy)) before

/-! ### The tests of one portion and of the plan (R25) -/

theorem Plan.routeRecords_recorded (po : Portion) : pl.Recorded (pl.routeRecords po) := by
  intro x hx
  obtain ⟨n, -, hn⟩ := List.mem_filterMap.mp hx
  obtain ⟨r, found, rfl⟩ := Option.map_eq_some_iff.mp hn
  exact found

theorem Plan.routeRecords_stops (po : Portion) : (pl.routeRecords po).map Prod.fst = pl.route po := by
  have each : ∀ l : List Nat, (∀ n ∈ l, n < pl.stops.length) →
      (l.filterMap fun n => (pl.stops[n]?).map fun r => (n, r)).map Prod.fst = l := by
    intro l hl
    induction l with
    | nil => rfl
    | cons n l ih =>
      have found := List.getElem?_eq_getElem (hl n List.mem_cons_self)
      have one : ((pl.stops[n]?).map fun r => (n, r)) = some (n, pl.stops[n]'(hl n List.mem_cons_self)) := by
        rw [found, Option.map_some]
      rw [List.filterMap_cons_some (f := fun n => (pl.stops[n]?).map fun r => (n, r)) one, List.map_cons, ih fun m hm => hl m (List.mem_cons_of_mem _ hm)]
  exact each _ fun n hn => List.mem_range.mp (List.mem_filter.mp hn).1

/-- The calling stops are those of the route at which the portion calls (R22). -/
theorem Plan.calls_eq (po : Portion) : pl.calls po = (pl.route po).filter fun n => pl.callAt po n = .call := by
  rw [Plan.calls, Plan.route, List.filter_filter]
  refine List.filter_congr fun n _ => ?_
  cases pl.callAt po n <;> rfl

/-- A portion's route, if any, begins and ends at a calling stop, has two of them, rises in line position and never
goes back in time (R25). -/
def Plan.SoundRoute (pl : Plan) (po : Portion) : Prop :=
  pl.route po = []
  ∨ ((pl.route po).head? = (pl.calls po).head? ∧ (pl.route po).getLast? = (pl.calls po).getLast?
    ∧ 2 ≤ (pl.calls po).length ∧ pl.RunsOn (pl.route po))

/-- The tests of a portion that has a route, over the route's first stop, its last, and the walk. -/
theorem Plan.checkPortion_route {po : Portion} {x y : Nat} (first : (pl.route po).head? = some x)
    (last : (pl.route po).getLast? = some y) :
    ∃ rest, pl.Recorded rest ∧ pl.route po = x :: rest.map Prod.fst ∧
      pl.checkPortion po =
        if x ∉ pl.calls po then some (x, 1)
        else if y ∉ pl.calls po then some (y, 1)
        else if (pl.calls po).length < 2 then some (y, 2)
        else if ¬ (pl.timesAt x).Pairwise (· ≤ ·) then some (x, 4)
        else walkRoute (pl.lineAt x) (([] ++ [x]).flatMap pl.timesAt).getLast? rest := by
  have stops := pl.routeRecords_stops po
  have recorded := pl.routeRecords_recorded po
  cases records : pl.routeRecords po with
  | nil =>
    rw [records] at stops
    rw [← stops] at first
    exact absurd first nofun
  | cons z rest =>
    obtain ⟨n, r⟩ := z
    rw [records] at stops recorded
    rw [← stops] at first last
    obtain rfl : n = x := Option.some.inj first
    have found : pl.stops[n]? = some r := recorded (n, r) List.mem_cons_self
    have times := Plan.timesAt_eq found
    have ends : (rest.getLast?.map Prod.fst).getD n = y := by
      rw [List.map_cons, List.getLast?_cons] at last
      rw [← List.getLast?_map]
      exact Option.some.inj last
    have ordered : timesOk none r = true ↔ (pl.timesAt n).Pairwise (· ≤ ·) := by
      rw [times]
      exact timesOk_iff (times := []) .nil r
    have latest : latestAfter none r = (([] ++ [n]).flatMap pl.timesAt).getLast? := by
      have := latestAfter_eq [] r
      simpa [times] using this
    refine ⟨rest, fun v hv => recorded v (List.mem_cons_of_mem _ hv), stops.symm, ?_⟩
    rw [Plan.checkPortion, records]
    simp only [ends, Plan.mem_calls, ordered, latest, Plan.lineAt_eq found]

/-- A route begins at a calling stop when its first stop is one. -/
theorem Plan.calls_head? {po : Portion} {x : Nat} (first : (pl.route po).head? = some x) :
    (pl.route po).head? = (pl.calls po).head? ↔ x ∈ pl.calls po := by
  rw [first]
  refine ⟨fun h => List.mem_of_mem_head? h.symm, fun mem => ?_⟩
  obtain ⟨rest, route⟩ := List.head?_eq_some_iff.mp first
  have call : decide (pl.callAt po x = .call) = true := decide_eq_true (Plan.mem_calls.mp mem)
  rw [Plan.calls_eq, route, List.filter_cons_of_pos (p := fun n => decide (pl.callAt po n = .call)) call, List.head?_cons]

/-- A route ends at a calling stop when its last stop is one. -/
theorem Plan.calls_getLast? {po : Portion} {y : Nat} (last : (pl.route po).getLast? = some y) :
    (pl.route po).getLast? = (pl.calls po).getLast? ↔ y ∈ pl.calls po := by
  rw [last]
  refine ⟨fun h => List.mem_of_getLast? h.symm, fun mem => ?_⟩
  obtain ⟨front, route⟩ := List.getLast?_eq_some_iff.mp last
  have call : decide (pl.callAt po y = .call) = true := decide_eq_true (Plan.mem_calls.mp mem)
  rw [Plan.calls_eq, route, List.filter_append,
    List.filter_cons_of_pos (p := fun n => decide (pl.callAt po n = .call)) call, List.filter_nil,
    List.getLast?_concat]

theorem Plan.runsOn_single {x : Nat} : pl.RunsOn [x] ↔ (pl.timesAt x).Pairwise (· ≤ ·) := by
  refine ⟨fun h => by simpa using h.ordered, fun h => ⟨List.pairwise_singleton _ _, by simpa using h⟩⟩

/-- A portion's tests find no fault exactly when its route is sound. -/
theorem Plan.checkPortion_none {po : Portion} : pl.checkPortion po = none ↔ pl.SoundRoute po := by
  cases first : (pl.route po).head? with
  | none =>
    have empty := List.head?_eq_none_iff.mp first
    have records : pl.routeRecords po = [] := List.map_eq_nil_iff.mp ((pl.routeRecords_stops po).trans empty)
    refine ⟨fun _ => .inl empty, fun _ => ?_⟩
    rw [Plan.checkPortion, records]
  | some x =>
    have held : pl.route po ≠ [] := fun h => by rw [h] at first; exact absurd first nofun
    obtain ⟨y, last⟩ : ∃ y, (pl.route po).getLast? = some y := ⟨_, List.getLast?_eq_some_getLast held⟩
    obtain ⟨rest, recorded, route, check⟩ := Plan.checkPortion_route first last
    have sound : pl.SoundRoute po ↔ x ∈ pl.calls po ∧ y ∈ pl.calls po ∧ 2 ≤ (pl.calls po).length
        ∧ pl.RunsOn (pl.route po) := by
      rw [Plan.SoundRoute, Plan.calls_head? first, Plan.calls_getLast? last]
      exact or_iff_right held
    rw [check, sound]
    split
    case isTrue absent => exact ⟨nofun, fun h => absurd h.1 absent⟩
    case isFalse begins =>
      split
      case isTrue absent => exact ⟨nofun, fun h => absurd h.2.1 absent⟩
      case isFalse ends =>
        split
        case isTrue few => exact ⟨nofun, fun h => absurd h.2.2.1 (by omega)⟩
        case isFalse enough =>
          split
          case isTrue late =>
            refine ⟨nofun, fun h => absurd (Plan.runsOn_single.mp ?_) late⟩
            have runs := h.2.2.2
            rw [route] at runs
            exact Plan.RunsOn.front (l := [x]) runs
          case isFalse inOrder =>
            have walk := walkRoute_none (front := []) recorded (Plan.runsOn_single.mpr (not_not.mp inOrder))
            rw [route]
            exact walk.trans ⟨fun runs => ⟨not_not.mp begins, not_not.mp ends, by omega, runs⟩, fun h => h.2.2.2⟩

/-- A walk over a route reaches the stop after the stops that run on. -/
theorem walkRoute_reaches {rest : List (Nat × StopRecord)} (recorded : pl.Recorded rest) {x prev n : Nat}
    {front back : List Nat}
    (shape : x :: rest.map Prod.fst = front ++ prev :: n :: back) (before : pl.RunsOn (front ++ [prev])) :
    ∃ r others, pl.stops[n]? = some r
      ∧ walkRoute (pl.lineAt x) (([] ++ [x]).flatMap pl.timesAt).getLast? rest
        = walkRoute (pl.lineAt prev) ((front ++ [prev]).flatMap pl.timesAt).getLast? ((n, r) :: others) := by
  cases front with
  | nil =>
    rw [List.nil_append, List.cons.injEq] at shape
    obtain ⟨rfl, rest_⟩ := shape
    obtain ⟨⟨m, r⟩, others, rfl, rfl, -⟩ := List.map_eq_cons_iff.mp rest_
    exact ⟨r, others, recorded (m, r) List.mem_cons_self, rfl⟩
  | cons z front =>
    rw [List.cons_append, List.cons.injEq] at shape
    obtain ⟨rfl, rest_⟩ := shape
    obtain ⟨mid, after, rfl, rfl, afterStops⟩ := List.map_eq_append_iff.mp rest_
    obtain ⟨⟨q, k⟩, later, rfl, rfl, laterStops⟩ := List.map_eq_cons_iff.mp afterStops
    obtain ⟨⟨m, r⟩, others, rfl, rfl, -⟩ := List.map_eq_cons_iff.mp laterStops
    have whole : x :: mid.map Prod.fst ++ [q] = [] ++ [x] ++ mid.map Prod.fst ++ [q] := by simp
    refine ⟨r, others, recorded (m, r) (by simp), ?_⟩
    rw [whole] at before ⊢
    exact walkRoute_append (fun y hy => recorded y (List.mem_append_left _ hy))
      (recorded (q, k) (by simp)) before

/-- The first test that a route fails is the one the portion's tests name. -/
theorem Plan.checkPortion_first {po : Portion} {n reason : Nat} (h : pl.FirstFailure po n reason) :
    pl.checkPortion po = some (n, reason) := by
  obtain ⟨x, y, first, last, failure⟩ := h
  obtain ⟨rest, recorded, route, check⟩ := Plan.checkPortion_route first last
  rw [check]
  split at failure
  case isTrue absent =>
    rw [if_pos absent, failure.1, failure.2]
  case isFalse begins =>
    rw [if_neg begins]
    split at failure
    case isTrue absent =>
      rw [if_pos absent, failure.1, failure.2]
    case isFalse ends =>
      rw [if_neg ends]
      split at failure
      case isTrue few =>
        rw [if_pos few, failure.1, failure.2]
      case isFalse enough =>
        rw [if_neg enough]
        split at failure
        case isTrue late =>
          rw [if_pos late, failure.1, failure.2]
        case isFalse inOrder =>
          rw [if_neg inOrder]
          obtain ⟨front, prev, back, shape, rises, ordered, why⟩ := failure
          obtain ⟨r, others, found, walk⟩ := walkRoute_reaches recorded (route.symm.trans shape) ⟨rises, ordered⟩
          have joined : (front ++ [prev, n]).flatMap pl.timesAt = (front ++ [prev] ++ [n]).flatMap pl.timesAt := by
            simp
          rw [joined] at why
          rw [walk, walkRoute_cons ⟨rises, ordered⟩ found]
          split at why
          case isTrue low => rw [if_pos low, why]
          case isFalse beyond => rw [if_neg beyond, if_pos why.2, why.1]

end Walk

/-- The plan validates exactly when some portion has a route and every route is sound (R25). -/
theorem Plan.validate_none {pl : Plan} :
    pl.validate = none ↔ (∃ po, pl.route po ≠ []) ∧ ∀ po, pl.SoundRoute po := by
  have held : ¬ (pl.route .a = [] ∧ pl.route .b = [] ∧ pl.route .c = []) ↔ ∃ po, pl.route po ≠ [] := by
    constructor
    · intro h
      by_contra none
      have all (po : Portion) : pl.route po = [] := not_not.mp fun h => none ⟨po, h⟩
      exact h ⟨all .a, all .b, all .c⟩
    · rintro ⟨po, h⟩ ⟨a, b, c⟩
      cases po
      · exact h a
      · exact h b
      · exact h c
  have fault (po : Portion) : pl.portionFault po = none ↔ pl.SoundRoute po := by
    rw [Plan.portionFault, Option.map_eq_none_iff, Plan.checkPortion_none]
  rw [Plan.validate]
  split
  case isTrue empty => exact ⟨nofun, fun h => absurd empty (held.mpr h.1)⟩
  case isFalse some_ =>
    rw [Option.orElse_eq_orElse, Option.orElse_eq_or, Option.orElse_eq_or,
      Option.or_eq_none_iff, Option.or_eq_none_iff, fault, fault, fault]
    refine ⟨fun ⟨a, b, c⟩ => ⟨held.mp some_, fun po => ?_⟩, fun h => ⟨h.2 .a, h.2 .b, h.2 .c⟩⟩
    cases po
    · exact a
    · exact b
    · exact c

/-- The first failure of the first failing portion is the one named (R25). -/
theorem Plan.validate_first {pl : Plan} {po : Portion} {n reason : Nat}
    (before : ∀ q : Portion, q.code < po.code → pl.SoundRoute q) (h : pl.FirstFailure po n reason) :
    pl.validate = some ⟨n, po.code, reason⟩ := by
  have held : ¬ (pl.route .a = [] ∧ pl.route .b = [] ∧ pl.route .c = []) := by
    obtain ⟨x, -, first, -⟩ := h
    rintro ⟨a, b, c⟩
    cases po
    · rw [a] at first; exact absurd first nofun
    · rw [b] at first; exact absurd first nofun
    · rw [c] at first; exact absurd first nofun
  have fault : pl.portionFault po = some ⟨n, po.code, reason⟩ := by
    rw [Plan.portionFault, Plan.checkPortion_first h, Option.map_some]
  have sound {q : Portion} (less : q.code < po.code) : pl.portionFault q = none := by
    rw [Plan.portionFault, Option.map_eq_none_iff, Plan.checkPortion_none]
    exact before q less
  rw [Plan.validate, if_neg held]
  cases po with
  | a => rw [fault]; rfl
  | b => rw [sound (q := .a) (by decide), fault]; rfl
  | c => rw [sound (q := .a) (by decide), sound (q := .b) (by decide), fault]; rfl

/-- Close Plan in LOADING answers by the validation (R24). -/
theorem closePlanBlock_loading {s : State} (loading : s.plan.state = .loading) :
    closePlanBlock s = s.plan.validate.elim (done ((s.setPlanState .ready).staleAll) [])
      fun f => refuseWith s .conflict (be 1 f.stop ++ be 1 f.portion ++ be 1 f.reason) := by
  rw [closePlanBlock, if_neg (not_not_intro loading)]
  cases s.plan.validate <;> rfl

/-- Settles O18: the validation finds no fault exactly for sound plans, else names the first. -/
theorem closePlanValidates : Obligations.ClosePlanValidates := by
  intro s loading takes sound
  have soundRoute (po : Portion) : sound po ↔ s.plan.SoundRoute po := by
    refine or_congr_right ⟨fun ⟨head, last, calls, rises, ordered⟩ => ⟨head, last, calls, rises, ordered⟩,
      fun ⟨head, last, calls, runs⟩ => ⟨head, last, calls, runs.rises, runs.ordered⟩⟩
  have valid := (Plan.validate_none (pl := s.plan)).trans
    (and_congr_right' (forall_congr' fun po => (soundRoute po).symm))
  have block := closePlanBlock_loading (s := s.enter .operations 0x11 []) loading
  have refused {f : PlanFault} (h : s.plan.validate = some f) : exec (.closePlan .operations []) s
      = .next (s.replied .operations 0x11 [] .conflict (be 1 f.stop ++ be 1 f.portion ++ be 1 f.reason)) := by
    rw [State.enter_plan, h] at block
    exact congrArg Host.Outcome.next (serve_reply takes.1 takes.2 block)
  refine ⟨fun h => ?_, fun h => ?_, fun empty => ?_, fun po n reason before failure => ?_⟩
  · let u := s.enter .operations 0x11 []
    obtain ⟨plan, link, table, line, frame⟩ := u.setPlanState_frame .ready
    have fault : u.plan.validate = none := valid.mpr h
    rw [fault] at block
    refine ⟨_, congrArg Host.Outcome.next (serve_reply takes.1 takes.2 block), plan, ?_, ?_, table, ?_, ?_⟩
    · exact congrArg (fun l : Link => l.setPort .operations
        { l.port .operations with service := .answered, reply := some ⟨_, .done, []⟩ }) link
    · exact State.StaleAt.of_line (State.staleAt_staleWhere (u.setPlanState .ready) fun _ => true) rfl
    · exact (PanelLine.unmarked_staleWhere (u.setPlanState .ready) fun _ => true).trans line
    · exact congrArg (fun v : State =>
        { v with plan := s.plan, link := s.link, table := s.table, line := s.line }) frame
  · cases fault : s.plan.validate with
    | none => exact absurd (valid.mp fault) h
    | some f => exact ⟨_, _, _, refused fault⟩
  · exact refused (f := ⟨0xFF, 0xFF, 0⟩) (if_pos ⟨empty .a, empty .b, empty .c⟩)
  · exact refused (Plan.validate_first (fun q less => (soundRoute q).mp (before q less)) failure)

end Sys2Proof.Machine
end

section
/-!
Proofs of the statements about the reads: the plan, the position and the formation (R35, R36, R71, R91), the seats
(R119, R120, R123), the notices, the store, the panels and the brightness (R165, R187, R188, R209, R219).
-/
namespace Sys2Proof.Machine

/-! ### Reading the plan, the position and the formation (R35, R36, R71, R91) -/

theorem u8_singleton {n : Nat} (h : n < 256) : u8 [BitVec.ofNat 8 n] 0 = n := by
  rw [← be_one]
  exact u8_be_one_end h

/-- The minutes that Read Position answers, 0 where none are shown (R62). -/
theorem State.etaNow_getD (s : State) :
    s.etaNow.getD 0
      = if s.appr.current = none ∨ s.appr.stage = none ∨ (s.appr.current.map s.timeTo).getD 0 = 65535
          ∨ s.odo.mode = .hold ∨ s.appr.stage = some .atPlatform ∨ s.appr.stage = some .departed then 0
        else max 1 (min 99 (((s.appr.current.map s.timeTo).getD 0 + 59) / 60)) := by
  unfold State.etaNow
  cases current : s.appr.current with
  | none => simp
  | some c =>
    cases stage : s.appr.stage with
    | none => simp
    | some st =>
      have below : st.isBelow = true ↔ ¬ (st = .atPlatform ∨ st = .departed) := by cases st <;> decide
      simp only [Option.map_some, Option.getD_some, reduceCtorEq, false_or, Option.some.injEq, below, not_not]
      split <;> rfl

/-- What the reads form goes by the blocks alone, which a request's entry leaves (R3). -/
theorem State.positionReply_enter (s : State) (p : Port) (k : Byte) (b : List Byte) :
    (s.enter p k b).positionReply = s.positionReply := by
  have distance : (s.enter p k b).distance = s.distance := rfl
  have time : (s.enter p k b).timeTo = s.timeTo := funext fun _ => rfl
  have minutes : (s.enter p k b).etaNow = s.etaNow := rfl
  delta State.positionReply
  rw [distance, time, minutes]
  rfl

theorem emptyPayload_nil (f : State → Answer) (s : State) : emptyPayload [] f s = f s := rfl

/-- Settles O24: each read answers its items as they stand. -/
theorem journeyAndCoachReads : Obligations.JourneyAndCoachReads := by
  refine ⟨fun s p => ⟨fun n r small found takes => ?_, fun takes => ?_⟩,
    fun s p => ⟨fun takes => ?_, fun takes => ?_, fun bankB takes => ?_⟩⟩
  · have read := u8_singleton (by omega : n < 256)
    have block : readStopBlock [BitVec.ofNat 8 n] (s.enter p 0x16 [BitVec.ofNat 8 n])
        = done (s.enter p 0x16 [BitVec.ofNat 8 n]) (s.stopReply n r) := by
      have one : ¬ [BitVec.ofNat 8 n].length ≠ 1 := not_not_intro rfl
      rw [readStopBlock, if_neg one, read, if_neg (by omega),
        if_neg (by omega), State.enter_plan, found]
      rfl
    refine (congrArg Host.Outcome.next (serve_reads takes.1 takes.2 block)).trans ?_
    rw [State.stopReply]
    cases r.arrival <;> rfl
  · exact congrArg Host.Outcome.next (serve_reads takes.1 takes.2 rfl)
  · intro d t eta
    have time : (s.appr.current.map s.timeTo).getD 0 = t := by
      show _ = match s.appr.current with | none => 0 | some _ => _
      have distance : d = (s.appr.current.map fun c => s.plan.lineAt c - s.odo.position).getD 0 := rfl
      cases current : s.appr.current with
      | none => rfl
      | some c => rw [distance, current]; rfl
    have minutes : s.etaNow.getD 0 = eta := by rw [State.etaNow_getD, time]
    have block : emptyPayload [] (fun s => done s s.positionReply) (s.enter p 0x25 [])
        = done (s.enter p 0x25 []) s.positionReply := by
      rw [emptyPayload_nil, State.positionReply_enter]
    refine (congrArg Host.Outcome.next (serve_reads takes.1 takes.2 block)).trans ?_
    delta State.positionReply
    rw [time, minutes]
    rfl
  · exact congrArg Host.Outcome.next (serve_reads takes.1 takes.2 rfl)
  · cases bankB
    · exact congrArg Host.Outcome.next (serve_reads takes.1 takes.2 rfl)
    · exact congrArg Host.Outcome.next (serve_reads takes.1 takes.2 rfl)

/-! ### Reading seats (R100, R109, R110, R119, R120, R123) -/

/-- R, by the plan's state and the stage of C (R100). -/
theorem State.refStop_eq (s : State) :
    s.refStop = if s.coachRoute = [] then none else match s.plan.state, s.appr.stage, s.appr.last with
      | .empty, _, _ => none
      | .loading, _, _ => none
      | .ready, _, _ => s.coachCalls.head?
      | .running, some .atPlatform, _ => s.appr.current
      | .running, _, some l => some l
      | .running, _, none => s.coachCalls.head?
      | .ended, _, l => if s.appr.current ≠ none then s.appr.current else l := by
  have route : s.hasRoute = true ↔ s.coachRoute ≠ [] := by simp [State.hasRoute]
  rw [State.refStop]
  by_cases empty : s.coachRoute = []
  · rw [if_pos empty, if_neg (fun h => route.mp h empty)]
  rw [if_neg empty, if_pos (route.mpr empty)]
  cases s.plan.state with
  | empty => rfl
  | loading => rfl
  | ready => rfl
  | ended => cases s.appr.current <;> rfl
  | running =>
    cases s.appr.stage with
    | none => cases s.appr.last <;> rfl
    | some st => cases st <;> cases s.appr.last <;> rfl

/-- No display is given outside READY and RUNNING, and none while DETACHED (R109). -/
theorem State.noService_iff (s : State) :
    (s.plan.state = .empty ∨ s.plan.state = .loading ∨ s.plan.state = .ended ∨ ¬ s.attached = true)
      ↔ ((s.plan.state ≠ .ready ∧ s.plan.state ≠ .running) ∨ s.entry = none) := by
  have detached : ¬ s.attached = true ↔ s.entry = none := by simp [State.attached]
  rw [detached]
  cases s.plan.state <;> simp

theorem State.nearingC_iff (s : State) :
    s.nearingC = true ↔ s.appr.stage = some .announce ∨ s.appr.stage = some .approach
      ∨ s.appr.stage = some .berthing := by
  simp [State.nearingC, or_assoc]

/-- The display of a seat is that of R109 and R110. -/
theorem State.display_eq_shown (s : State) (x : Seat) : s.display x = s.shown x := by
  have stranded : x.segments.any Segment.stranded = true ↔ ∃ g ∈ x.segments, g.stranded = true := List.any_eq_true
  show (if _ then _ else if _ then _ else if _ then _ else _) = if _ then _ else if _ then _ else if _ then _ else _
  simp only [s.noService_iff, stranded]
  refine if_congr Iff.rfl rfl (if_congr Iff.rfl rfl (if_congr Iff.rfl rfl ?_))
  show _ = match x.segments.find? s.isCurrent, x.segments.find? s.isLater with
    | some g, _ => _
    | none, some g => _
    | none, none => _
  cases x.segments.find? s.isCurrent with
  | some g =>
    dsimp only
    by_cases releasing : s.eff g.toStop = s.appr.current ∧ s.nearingC = true
    · rw [if_pos releasing, if_pos ⟨releasing.1, s.nearingC_iff.mp releasing.2⟩]
      rfl
    · rw [if_neg releasing, if_neg fun h => releasing ⟨h.1, s.nearingC_iff.mpr h.2⟩]
      rfl
  | none => cases x.segments.find? s.isLater <;> rfl

theorem seatPayloadOk_be_two {num : Nat} (h1 : 1 ≤ num) (h999 : num ≤ 999) : seatPayloadOk (be 2 num) = true := by
  rw [seatPayloadOk, u16_be_two_end (by omega), seatNumberOk_of_range h1 h999, be_length]
  rfl

/-- Settles O40: the entries are formed from the tables as they stand. -/
theorem seatReads : Obligations.SeatReads := by
  intro s p segment direction entry tail first
  have directed (x : Seat) : s.direction x = direction x := by
    show _ = match s.entry with | none => _ | some i => _
    rw [State.direction, State.facingUnder]
    cases s.entry with
    | none => rfl
    | some i =>
      show (if (x.seatEnd == .a) == (i.facing s.form.lead == .aLeads) then 0 else 1) = match i.facing s.form.lead, x.seatEnd with
        | .aLeads, .a => 0
        | .aLeads, .b => 1
        | .bLeads, .a => 1
        | .bLeads, .b => 0
      cases i.facing s.form.lead <;> cases x.seatEnd <;> rfl
  have entries : s.seatEntry = entry := by
    funext x
    rw [State.seatEntry, directed]
    rfl
  refine ⟨s.refStop_eq, s.display_eq_shown, fun num x h1 h999 found => ⟨fun takes => ?_, fun takes => ?_⟩,
    fun bay hbay takes => ?_⟩
  · have block : readSeatBlock (be 2 num) (s.enter p 0x46 (be 2 num))
        = done (s.enter p 0x46 (be 2 num)) (entry x ++ tail) := by
      rw [readSeatBlock, if_neg (not_not_intro (seatPayloadOk_be_two h1 h999)), u16_be_two_end (by omega),
        State.enter_seat?, found, ← entries]
      rfl
    exact congrArg Host.Outcome.next (serve_reads takes.1 takes.2 block)
  · have block : heldReadBlock p (be 2 num) (s.enter p 0x48 (be 2 num))
        = done ((s.enter p 0x48 (be 2 num)).setHold p (.standing num)) (entry x ++ tail) := by
      rw [heldReadBlock, if_neg (not_not_intro (seatPayloadOk_be_two h1 h999)), u16_be_two_end (by omega),
        State.enter_seat?, found, ← entries]
      rfl
    refine (congrArg Host.Outcome.next (serve_reply takes.1 takes.2 block)).trans ?_
    cases p <;> rfl
  · have one : (be 1 bay).length = 1 := be_length 1 bay
    have read : u8 (be 1 bay) 0 = bay := u8_be_one_end (by omega)
    have block : readBayBlock (be 1 bay) (s.enter p 0x47 (be 1 bay))
        = done (s.enter p 0x47 (be 1 bay)) (s.bayReply bay) := by
      rw [readBayBlock, read, if_neg (not_not_intro ⟨one, hbay⟩)]
      rfl
    refine (congrArg Host.Outcome.next (serve_reads takes.1 takes.2 block)).trans ?_
    rw [State.bayReply, entries]
    rfl

end Sys2Proof.Machine
end

section
/-!
Proofs of the statements about the reads of the notices, the store, the panels and the brightness (R165, R187, R188,
R209, R219) and about the locks of sectors (R183, R184).
-/
namespace Sys2Proof.Machine

/-! ### Notice entries (7.9) -/

theorem Item.encode_eq_entry (i : Item) : i.encode = i.entry := by
  cases i <;> simp [Item.encode, Item.entry, be_one]

theorem Notice.encode_eq_entry (queued : Bool) (n : Notice) : n.encode queued = n.entry queued := by
  have items : n.items.flatMap Item.encode = n.items.flatMap Item.entry := by
    rw [funext Item.encode_eq_entry]
  have ends : (if queued then be 1 0 ++ be 1 0xFF else be 1 n.cycles ++ be 1 n.lang)
      = if queued then [0, 0xFF] else be 1 n.cycles ++ be 1 n.lang := by
    cases queued <;> rfl
  have validity : n.validity.encode = match n.validity with
      | .unlimited => 0 :: be 2 0
      | .limit ms => 1 :: be 2 ((ms + 999) / 1000)
      | .stage st => 2 :: be 2 st.code := by
    cases n.validity <;> simp [Validity.encode, be_one]
  rw [Notice.encode, items, ends, validity]
  rfl

/-! ### The store's entries (R187) -/

theorem Store.readPayload_eq_entryRead (st : Store) (phrase lang : Nat) :
    st.readPayload phrase lang = st.entryRead phrase lang := by
  let under := match st.op.erase? with
    | some er => decide (er.current ≤ phrase / 8) && decide (phrase / 8 ≤ er.last)
    | none => false
  have under_eq : st.underErase (sectorOf phrase) = under := by
    show _ = match st.op.erase? with | some er => _ | none => _
    rw [Store.underErase]
    cases st.op.erase? <;> rfl
  show be 1 (st.condition phrase lang) ++ flag (st.isProtected (sectorOf phrase))
      ++ be 1 ((st.usable phrase lang).getD []).length ++ (st.usable phrase lang).getD []
    = ([if under then 4 else if st.incomplete.getLsbD (phrase / 8) then 3 else match st.get phrase lang with
        | none => 0
        | some (.valid _) => 1
        | some .torn => 2] : List Byte) ++ flag (st.isProtected (sectorOf phrase))
      ++ be 1 (if under || st.incomplete.getLsbD (phrase / 8) then [] else match st.get phrase lang with
        | some (.valid text) => text
        | _ => []).length
      ++ if under || st.incomplete.getLsbD (phrase / 8) then [] else match st.get phrase lang with
        | some (.valid text) => text
        | _ => []
  have incomplete : st.isIncomplete (sectorOf phrase) = st.incomplete.getLsbD (phrase / 8) := rfl
  rw [Store.condition, Store.usable, under_eq, incomplete]
  cases st.get phrase lang with
  | none => cases under <;> cases st.incomplete.getLsbD (phrase / 8) <;> simp [be_one]
  | some e =>
    cases e <;> cases under <;> cases st.incomplete.getLsbD (phrase / 8) <;> simp [be_one]

/-! ### The reads (R165, R187, R188, R209, R219) -/

theorem State.brightReply_enter (s : State) (p : Port) (k : Byte) (b : List Byte) :
    (s.enter p k b).brightReply = s.brightReply := by
  have ambient : (s.enter p k b).ambient = s.ambient := rfl
  have source : (s.enter p k b).ambientSource = s.ambientSource := rfl
  have brightness : (s.enter p k b).brightness = s.brightness := rfl
  delta State.brightReply
  rw [ambient, source, brightness]
  rfl

/-- A Read Phrase that its block defers waits for the program (R187). -/
theorem serve_defer {s : State} {p : Port} {k : Byte} {b : List Byte} {block : State → Answer} {phrase lang : Nat}
    (takes : s.Takes p k b) (hb : block (s.enter p k b) = .defer (s.enter p k b) phrase lang) :
    serve p k b id block s
      = (s.enter p k b).onPort p fun ps => { ps with service := .deferred phrase lang } := by
  simp [serve, takes.1, takes.2, hb]

/-- Settles O58: each read answers its items as they stand. -/
theorem unitReads : Obligations.UnitReads := by
  intro s p
  refine ⟨fun takes => ?_, fun phrase lang hphrase hlang takes => ?_, fun takes => ?_, fun takes => ?_, fun takes => ?_⟩
  · intro place
    have places (o : Option Notice) : encodePlace o = place o := by
      cases o with
      | none => rfl
      | some n =>
        show flag true ++ n.encode false = 1 :: n.entry false
        rw [Notice.encode_eq_entry]
        rfl
    have queue : s.seq.queue.flatMap (Notice.encode true) = s.seq.queue.flatMap fun n => n.entry true := by
      rw [funext (Notice.encode_eq_entry true)]
    have block : emptyPayload [] (fun s => done s s.noticesReply) (s.enter p 0x53 [])
        = done (s.enter p 0x53 []) s.noticesReply := rfl
    refine (congrArg Host.Outcome.next (serve_reads takes.1 takes.2 block)).trans ?_
    rw [State.noticesReply, places, places, places, queue]
  · intro b payload
    have phraseRead : u16 b 0 = phrase := u16_be_two phrase _ (by omega)
    have langRead : u8 b 2 = lang := (u8_be_two_skip phrase (be 1 lang) 0).trans (u8_be_one_end (by omega))
    have form : ¬ ¬ (b.length = 3 ∧ u16 b 0 < 1024 ∧ u8 b 2 < 4) := by
      rw [phraseRead, langRead]
      exact not_not_intro ⟨rfl, hphrase, hlang⟩
    have read : readPhraseBlock b (s.enter p 0x65 b)
        = if s.store.op.program?.isSome then .defer (s.enter p 0x65 b) phrase lang
          else done (s.enter p 0x65 b).suspendErase payload := by
      rw [readPhraseBlock, if_neg form, phraseRead, langRead, Store.readPayload_eq_entryRead]
      rfl
    refine ⟨fun free still => ?_, fun er running => ?_, fun busy => ?_⟩
    · have kept : (s.enter p 0x65 b).suspendErase = s.enter p 0x65 b := State.suspendErase_of_not_running still
      rw [free, kept] at read
      exact congrArg Host.Outcome.next (serve_reads takes.1 takes.2 read)
    · have grown : (s.enter p 0x65 b).suspendErase = { s.enter p 0x65 b with
          store := { s.store with op := .erasing { er with left := er.left + Config.readTime s.freeCount } }
          freeCount := s.freeCount + 1 } := by
        rw [State.suspendErase, State.enter_store, running]
        rfl
      rw [running, grown] at read
      exact congrArg Host.Outcome.next (serve_reply takes.1 takes.2 read)
    · have waits : s.store.op.program?.isSome = true := Option.isSome_iff_ne_none.mpr busy
      rw [if_pos waits] at read
      refine ⟨_, congrArg Host.Outcome.next (serve_defer takes read), ?_⟩
      cases p <;> exact ⟨rfl, rfl, rfl⟩
  · have block : emptyPayload [] (fun s => done s s.store.reply) (s.enter p 0x66 [])
        = done (s.enter p 0x66 []) s.store.reply := rfl
    refine (congrArg Host.Outcome.next (serve_reads takes.1 takes.2 block)).trans ?_
    simp only [Store.reply, StoreOp.eraseReply, List.append_assoc]
    rfl
  · have block : emptyPayload [] (fun s => done s s.line.reply) (s.enter p 0x72 [])
        = done (s.enter p 0x72 []) s.line.reply := rfl
    refine (congrArg Host.Outcome.next (serve_reads takes.1 takes.2 block)).trans ?_
    rw [PanelLine.reply]
    cases s.line.flight with
    | none => simp only [List.append_assoc]; rfl
    | some fr => simp only [List.append_assoc]; rfl
  · have block : emptyPayload [] (fun s => done s s.brightReply) (s.enter p 0x77 [])
        = done (s.enter p 0x77 []) s.brightReply := by
      rw [emptyPayload_nil, State.brightReply_enter]
    refine (congrArg Host.Outcome.next (serve_reads takes.1 takes.2 block)).trans ?_
    delta State.brightReply
    simp only [perKind, Levels.encode, HeatGuard.encode, List.append_assoc, State.brightness]

/-! ### Locks (R183, R184) -/

theorem getLsbD_sectorBit {i j : Nat} (hj : j < 128) : (sectorBit i).getLsbD j = decide (j = i) := by
  simp only [sectorBit, BitVec.getLsbD_shiftLeft, BitVec.getLsbD_one, hj]
  grind

/-- The mask of a range holds the sectors of the range. -/
theorem getLsbD_rangeMask {first last j : Nat} (hj : j < 128) :
    (rangeMask first last).getLsbD j = (decide (first ≤ j) && decide (j ≤ last)) := by
  have fold (l : List Nat) (m : BitVec 128) :
      (l.foldl (fun m i => if first ≤ i ∧ i ≤ last then m ||| sectorBit i else m) m).getLsbD j
        = (m.getLsbD j || (l.contains j && decide (first ≤ j) && decide (j ≤ last))) := by
    induction l generalizing m with
    | nil => simp
    | cons i l ih =>
      rw [List.foldl_cons, ih]
      by_cases here : j = i
      · subst here
        by_cases inside : first ≤ j ∧ j ≤ last
        · simp [inside, getLsbD_sectorBit hj]
        · rw [if_neg inside]
          grind
      · split
        · simp [getLsbD_sectorBit hj, here]
        · simp [here]
  rw [rangeMask, fold]
  simp [hj]

/-- The lock bits of a range take the value, the others stay (R183). -/
theorem Store.getLsbD_lockBits (st : Store) (first last : Nat) (value : Bool) {i : Nat} (hi : i < 128) :
    (st.lockBits first last value).getLsbD i
      = if first ≤ i ∧ i ≤ last then value else st.locks.getLsbD i := by
  cases value with
  | true =>
    show (st.locks ||| rangeMask first last).getLsbD i = _
    rw [BitVec.getLsbD_or, getLsbD_rangeMask hi]
    by_cases inside : first ≤ i ∧ i ≤ last
    · simp [inside]
    · rw [if_neg inside, ← Bool.decide_and, decide_eq_false inside, Bool.or_false]
  | false =>
    show (st.locks &&& ~~~rangeMask first last).getLsbD i = _
    rw [BitVec.getLsbD_and, BitVec.getLsbD_not, getLsbD_rangeMask hi]
    by_cases inside : first ≤ i ∧ i ≤ last
    · simp [inside]
    · rw [if_neg inside, ← Bool.decide_and, decide_eq_false inside]
      simp [hi]

/-- The bits that a write of a range changes (R183). -/
theorem Store.bitsChanged_lockBits (st : Store) (first last : Nat) (value : Bool) :
    bitsChanged st.locks (st.lockBits first last value)
      = ((List.range 128).filter fun i =>
          decide (first ≤ i) && decide (i ≤ last) && (st.locks.getLsbD i != value)).length := by
  rw [bitsChanged, List.countP_eq_length_filter]
  refine congrArg List.length (List.filter_congr fun i hi => ?_)
  rw [st.getLsbD_lockBits first last value (List.mem_range.mp hi), ← Bool.decide_and]
  split
  case isTrue inside => rw [decide_eq_true inside, Bool.true_and]
  case isFalse outside => rw [decide_eq_false outside, Bool.false_and, bne_self_eq_false]

/-- Settles O51: the payload names the range and the value; the fixed area decides first, then the store. -/
theorem sectorsLocked : Obligations.SectorsLocked := by
  constructor
  · intro s first last value order small b takes
    have firstRead : u8 b 0 = first := by
      simp only [b, List.append_assoc, u8_be_one _ _ (by omega : first < 256)]
    have lastRead : u8 b 1 = last := by
      simp only [b, List.append_assoc, u8_be_one_skip, u8_be_one _ _ (by omega : last < 256)]
    have valueRead : u8 b 2 = value.toNat := by
      simp only [b, List.append_assoc, u8_be_one_skip]
      cases value <;> rfl
    have sent : decide (value.toNat = 1) = value := by cases value <;> rfl
    have form : ¬ ¬ (b.length = 3 ∧ rangeOk b = true ∧ u8 b 2 ≤ 1) := by
      refine not_not_intro ⟨rfl, ?_, ?_⟩
      · rw [rangeOk, firstRead, lastRead, decide_eq_true small, decide_eq_true order]
        rfl
      · rw [valueRead]
        cases value <;> decide
    have block : lockSectorsBlock b (s.enter .operations 0x67 b)
        = if s.store.fixedLock = true ∧ first < 8 then refuse (s.enter .operations 0x67 b) .locked
          else if s.store.op ≠ .idle then refuse (s.enter .operations 0x67 b) .busy
          else done { s.enter .operations 0x67 b with
              store := { s.store with locks := s.store.lockBits first last value } }
            (be 1 (bitsChanged s.store.locks (s.store.lockBits first last value))) := by
      rw [lockSectorsBlock, if_neg form, firstRead, lastRead, valueRead, sent]
      rfl
    refine ⟨fun locked low => ?_, fun free busy => ?_, fun free idle => ?_⟩
    · rw [if_pos ⟨locked, low⟩] at block
      exact congrArg Host.Outcome.next (serve_refuse takes block)
    · rw [if_neg fun h => by rcases free with f | f; exact absurd (h.1.symm.trans f) nofun; omega,
        if_pos busy] at block
      exact congrArg Host.Outcome.next (serve_refuse takes block)
    · rw [if_neg fun h => by rcases free with f | f; exact absurd (h.1.symm.trans f) nofun; omega,
        if_neg (not_not_intro idle), s.store.bitsChanged_lockBits] at block
      exact ⟨_, fun i hi => s.store.getLsbD_lockBits first last value hi,
        congrArg Host.Outcome.next (serve_reply takes.1 takes.2 block)⟩
  · intro s takes
    have block : emptyPayload [] lockFixedBlock (s.enter .operations 0x68 [])
        = if s.store.op ≠ .idle then refuse (s.enter .operations 0x68 []) .busy
          else done { s.enter .operations 0x68 [] with store := { s.store with fixedLock := true } }
            (flag s.store.fixedLock) := rfl
    refine ⟨fun busy => ?_, fun idle => ?_⟩
    · rw [if_pos busy] at block
      exact congrArg Host.Outcome.next (serve_refuse takes block)
    · rw [if_neg (not_not_intro idle)] at block
      exact congrArg Host.Outcome.next (serve_reply takes.1 takes.2 block)

end Sys2Proof.Machine
end

section
/-!
Proofs of the statements about Put Segment (R102 to R104, R97) and Commit Seat (R126 to R130).
-/
namespace Sys2Proof.Machine

/-! ### Segment lists (R97) -/

/-- A list by from stop. -/
def BySegment (l : List Segment) : Prop := l.Pairwise fun g h => g.fromStop ≤ h.fromStop

theorem insertSegment_perm (x : Segment) (l : List Segment) : (insertSegment x l).Perm (x :: l) := by
  induction l with
  | nil => exact .refl _
  | cons y ys ih =>
    rw [insertSegment]
    split
    · exact .refl _
    · exact (ih.cons y).trans (.swap x y ys)

theorem BySegment.insertSegment {l : List Segment} (h : BySegment l) (x : Segment) :
    BySegment (insertSegment x l) := by
  induction l with
  | nil => exact List.pairwise_singleton _ _
  | cons y ys ih =>
    obtain ⟨first, rest⟩ := List.pairwise_cons.mp h
    rw [Machine.insertSegment]
    split
    case isTrue before =>
      refine List.pairwise_cons.mpr ⟨fun z hz => ?_, h⟩
      rcases List.mem_cons.mp hz with rfl | hz
      · exact before.le
      · exact before.le.trans (first z hz)
    case isFalse after =>
      refine List.pairwise_cons.mpr ⟨fun z hz => ?_, ih rest⟩
      rcases List.mem_cons.mp ((insertSegment_perm x ys).mem_iff.mp hz) with rfl | hz
      · omega
      · exact first z hz

theorem joinSegments_perm (new l : List Segment) : (joinSegments new l).Perm (new ++ l) := by
  rw [joinSegments]
  induction new generalizing l with
  | nil => exact .refl _
  | cons x xs ih =>
    rw [List.foldl_cons]
    refine (ih (insertSegment x l)).trans (((insertSegment_perm x l).append_left xs).trans ?_)
    exact List.perm_middle

theorem BySegment.joinSegments {l : List Segment} (h : BySegment l) (new : List Segment) :
    BySegment (joinSegments new l) := by
  rw [Machine.joinSegments]
  induction new generalizing l with
  | nil => exact h
  | cons x xs ih => exact ih (h.insertSegment x)

/-! ### Put Segment (R102 to R104) -/

theorem State.clampFrom_eq_storedFrom (s : State) (f : Nat) : s.clampFrom f = s.storedFrom f := rfl

/-- A leg that fits passes checks 4 to 6 (R102, R103). -/
theorem State.legRefusal_none {s : State} {f e : Nat} (fits : s.LegFits f e) : s.legRefusal f e = none := by
  obtain ⟨hf, he, order, ef, et, from_, to_, above, beyond⟩ := fits
  have reached : ¬ (s.plan.state = .running ∧ ¬ (s.refStop.any fun r => decide (r < et)) = true) := by
    rintro ⟨running, short⟩
    obtain ⟨r, ref, below⟩ := beyond running
    exact short (by simp [ref, below])
  rw [State.legRefusal, if_neg (not_not_intro ⟨hf, he, order⟩), from_, to_]
  dsimp only
  rw [if_neg (by omega), if_neg reached]

theorem State.plannable_iff (s : State) : s.plannable = true ↔ s.plan.state = .ready ∨ s.plan.state = .running := by
  simp [State.plannable]

theorem SegmentKind.ofCode_code (k : SegmentKind) : SegmentKind.ofCode k.code = k := by cases k <;> rfl

theorem SegmentKind.code_le_two (k : SegmentKind) : k.code ≤ 2 := by cases k <;> decide

theorem labelOk_getD {label : Option Nat} (h : ∀ l, label = some l → l < 1024) :
    labelOk (label.getD 0xFFFF) = true := by
  cases label with
  | none => rfl
  | some l => simp [labelOk, h l rfl]

/-- A Put Segment payload in its coding is read back and well formed (R102). -/
theorem putPayload_reads {num f e tag : Nat} {k : SegmentKind} {label : Option Nat} (replace : Bool)
    (h1 : 1 ≤ num) (h999 : num ≤ 999) (hf : f < 48) (he : e < 48) (htag : tag < 65536)
    (hlabel : ∀ l, label = some l → l < 1024) :
    let b := be 2 num ++ be 1 f ++ be 1 e ++ be 1 k.code ++ be 2 tag ++ orFFFF label ++ flag replace
    u16 b 0 = num ∧ u8 b 2 = f ∧ u8 b 3 = e ∧ u8 b 4 = k.code ∧ u16 b 5 = tag ∧ u16 b 7 = label.getD 0xFFFF
    ∧ u8 b 9 = replace.toNat ∧ putOk b = true := by
  intro b
  have kindCode := k.code_le_two
  have numRead : u16 b 0 = num := by
    simp only [b, List.append_assoc, u16_be_two _ _ (by omega : num < 65536)]
  have fromRead : u8 b 2 = f := by
    simp only [b, List.append_assoc, u8_be_two_skip, u8_be_one _ _ (by omega : f < 256)]
  have toRead : u8 b 3 = e := by
    simp only [b, List.append_assoc, u8_be_two_skip, u8_be_one_skip, u8_be_one _ _ (by omega : e < 256)]
  have kindRead : u8 b 4 = k.code := by
    simp only [b, List.append_assoc, u8_be_two_skip, u8_be_one_skip, u8_be_one _ _ (by omega : k.code < 256)]
  have tagRead : u16 b 5 = tag := by
    simp only [b, List.append_assoc, u16_be_two_skip, u16_be_one_skip, u16_be_two _ _ htag]
  have labelRead : u16 b 7 = label.getD 0xFFFF := by
    have small : label.getD 0xFFFF < 65536 := getD_lt (fun l h => (hlabel l h).trans (by omega)) (by omega)
    simp only [b, List.append_assoc, u16_be_two_skip, u16_be_one_skip, orFFFF, u16_be_two _ _ small]
  have replaceRead : u8 b 9 = replace.toNat := by
    simp only [b, List.append_assoc, u8_be_two_skip, u8_be_one_skip, orFFFF]
    cases replace <;> rfl
  have form : putOk b = true := by
    have size : b.length = 10 := by simp [b, orFFFF, flag]
    have sent : replace.toNat ≤ 1 := by cases replace <;> decide
    simp [putOk, size, numRead, fromRead, toRead, kindRead, labelRead, replaceRead, seatNumberOk_of_range h1 h999,
      kindCode, labelOk_getD hlabel, hf, he, sent]
  exact ⟨numRead, fromRead, toRead, kindRead, tagRead, labelRead, replaceRead, form⟩

/-- Settles O37: the payload is read, the leg fits, and the overlap, the room and the put remain. -/
theorem putSegmentStoresTheLeg : Obligations.PutSegmentStoresTheLeg := by
  intro s p num f e tag k label replace x pool h1 h999 he htag hlabel plan found unblocked fits b leg hit kept takes
  obtain ⟨hf, -, order, -⟩ := id fits
  obtain ⟨numRead, fromRead, toRead, kindRead, tagRead, labelRead, replaceRead, form⟩ :=
    putPayload_reads (k := k) replace h1 h999 (by omega : f < 48) he htag hlabel
  have legRead (q : Port) : (s.enter q 0x42 b).putLeg b = leg := by
    have label_ := unlessEq_getD (absent := 0xFFFF) fun l h => ((hlabel l h).trans (by omega)).ne
    show (⟨s.clampFrom (u8 b 2), _, _, _, _, _⟩ : Segment) = _
    rw [fromRead, toRead, kindRead, tagRead, labelRead, label_, SegmentKind.ofCode_code, s.clampFrom_eq_storedFrom]
  let u := s.enter p 0x42 b
  have block : putSegmentBlock b u
      = if ¬ hit.isEmpty ∧ replace.toNat = 0 then refuse u .conflict
        else if 8 < (insertSegment leg kept).length ∨ s.table.free + hit.length = 0 then refuse u .noRoom
        else done (u.putSegment x leg) ((u.putSegment x leg).putReply x leg) := by
    have plannable : ¬ ¬ u.plannable = true := not_not_intro (s.plannable_iff.mpr plan)
    have fitting : u.legRefusal f e = none := s.legRefusal_none fits
    rw [putSegmentBlock, if_neg (not_not_intro form), if_neg plannable, numRead, State.enter_seat?, found]
    dsimp only
    rw [if_neg (by rw [unblocked]; nofun), fromRead, toRead, fitting]
    dsimp only
    rw [putBlock, legRead, replaceRead]
    rfl
  have length : (insertSegment leg kept).length = kept.length + 1 := insertSegment_length leg kept
  have partition : x.segments.length = hit.length + kept.length := List.length_eq_length_filter_add _
  have passes (h : hit = [] ∨ replace = true) : ¬ (¬ hit.isEmpty = true ∧ replace.toNat = 0) := by
    rintro ⟨some_, clear⟩
    rcases h with none | set
    · exact some_ (List.isEmpty_iff.mpr none)
    · rw [set] at clear
      exact absurd clear (by decide)
  refine ⟨fun clash clear => ?_, fun free full => ?_, fun free short records => ?_⟩
  · rw [if_pos ⟨fun none => clash (List.isEmpty_iff.mp none), by rw [clear]; rfl⟩] at block
    exact congrArg Host.Outcome.next (serve_refuse takes block)
  · rw [if_neg (passes free), if_pos (full.imp_left fun h => by omega)] at block
    exact congrArg Host.Outcome.next (serve_refuse takes block)
  · rw [if_neg (passes free), if_neg (by omega)] at block
    refine ⟨_, insertSegment leg kept, congrArg Host.Outcome.next (serve_setSegments takes pool.2 found block),
      insertSegment_perm leg kept, fun ordered => BySegment.insertSegment (ordered.filter _) leg, ?_,
      State.handed_seatChanged (SeatTable.edit_keeps_lastDisplay fun _ => rfl), State.seatEventOnly_seatChanged, ?_⟩
    · rw [State.seatChanged_table]
      have records_ : s.table.free + x.segments.length - (putList leg x.segments).length
          = s.table.free + hit.length - 1 := by
        show _ - (insertSegment leg kept).length = _
        omega
      rw [records_]
      rfl
    · have answers := State.answers_seatChanged (s := s) (p := p) (k := 0x42) (b := b)
        (tb := s.table.edit num (fun y => { y with segments := putList leg x.segments })
          (s.table.free + x.segments.length - (putList leg x.segments).length))
        (num := num) (bay := x.bay) (body := (u.putSegment x leg).putReply x leg)
      refine answers.trans (congrArg (fun body => (s.replied p 0x42 b .done body).link.quiet) ?_)
      have free_ : (u.putSegment x leg).table.free
          = s.table.free + x.segments.length - (putList leg x.segments).length := by
        rw [State.putSegment, State.changeSeat_free, State.seat?_number found,
          State.setSegments_table (s := u) pool.2 found]
        rfl
      rw [State.putReply, free_, State.seatChanged_free]
      rfl

end Sys2Proof.Machine
end

section
/-!
Proofs of the statements about Commit Seat (R126 to R130).
-/
namespace Sys2Proof.Machine

/-! ### Commit payloads (R126) -/

/-- A segment as a commit lays it out (R126). -/
def Segment.legBytes (g : Segment) : List Byte :=
  be 1 g.fromStop ++ be 1 g.toStop ++ be 1 g.kind.code ++ be 2 g.tag ++ orFFFF g.label

/-- The payload of a commit (R126). -/
def commitPayload (num : Nat) (legs : List Segment) : List Byte :=
  be 2 num ++ be 1 legs.length ++ legs.flatMap Segment.legBytes

/-- The fields of a segment are in their codings (R126). -/
def Segment.Coded (g : Segment) : Prop :=
  g.fromStop < 48 ∧ g.toStop < 48 ∧ g.tag < 65536 ∧ ∀ l, g.label = some l → l < 1024

theorem Segment.legBytes_length (g : Segment) : g.legBytes.length = 7 := by
  simp [Segment.legBytes, orFFFF]

theorem legBytes_flatMap_length (legs : List Segment) : (legs.flatMap Segment.legBytes).length = 7 * legs.length := by
  simp [List.length_flatMap, Segment.legBytes_length, Nat.mul_comm]

section Commit

variable {num : Nat} {legs : List Segment}

theorem commitPayload_length : (commitPayload num legs).length = 3 + 7 * legs.length := by
  rw [commitPayload, List.length_append, legBytes_flatMap_length, List.length_append, be_length, be_length]

theorem commitPayload_number (h999 : num ≤ 999) : u16 (commitPayload num legs) 0 = num := by
  rw [commitPayload, List.append_assoc, u16_be_two _ _ (by omega)]

theorem commitPayload_count (short : legs.length ≤ 8) : commitCount (commitPayload num legs) = legs.length := by
  rw [commitCount, commitPayload, List.append_assoc]
  exact (u8_be_two_skip num _ 0).trans (u8_be_one _ _ (by omega))

/-- The payload up to a segment, the segment, and the rest. -/
theorem commitPayload_split {i : Nat} (hi : i < legs.length) :
    ∃ front rest, front.length = legAt i ∧ commitPayload num legs = front ++ (legs[i].legBytes ++ rest) := by
  refine ⟨be 2 num ++ be 1 legs.length ++ (legs.take i).flatMap Segment.legBytes,
    (legs.drop (i + 1)).flatMap Segment.legBytes, ?_, ?_⟩
  · rw [List.length_append, legBytes_flatMap_length, List.length_append, be_length, be_length, legAt,
      List.length_take, Nat.min_eq_left hi.le]
  · have whole : legs = legs.take i ++ legs[i] :: legs.drop (i + 1) := by
      rw [← List.drop_eq_getElem_cons hi, List.take_append_drop]
    have bytes : legs.flatMap Segment.legBytes
        = (legs.take i).flatMap Segment.legBytes
          ++ (legs[i].legBytes ++ (legs.drop (i + 1)).flatMap Segment.legBytes) := by
      rw [← List.flatMap_cons, ← List.flatMap_append, ← whole]
    rw [commitPayload, bytes]
    simp only [List.append_assoc]

/-- The fields of a segment are read back (R126). -/
theorem commitPayload_reads {i : Nat} (hi : i < legs.length) (coded : legs[i].Coded) :
    u8 (commitPayload num legs) (legAt i) = legs[i].fromStop
    ∧ u8 (commitPayload num legs) (legAt i + 1) = legs[i].toStop
    ∧ u8 (commitPayload num legs) (legAt i + 2) = legs[i].kind.code
    ∧ u16 (commitPayload num legs) (legAt i + 3) = legs[i].tag
    ∧ u16 (commitPayload num legs) (legAt i + 5) = legs[i].label.getD 0xFFFF := by
  obtain ⟨front, rest, size, whole⟩ := commitPayload_split (num := num) hi
  obtain ⟨hf, ht, htag, hlabel⟩ := coded
  have kind := legs[i].kind.code_le_two
  have label : legs[i].label.getD 0xFFFF < 65536 := getD_lt (fun l h => (hlabel l h).trans (by omega)) (by omega)
  rw [whole]
  refine ⟨?_, ?_, ?_, ?_, ?_⟩
  · refine (u8_skip size _ 0).trans ?_
    simp only [Segment.legBytes, List.append_assoc, u8_be_one _ _ (by omega : legs[i].fromStop < 256)]
  · refine (u8_skip size _ _).trans ?_
    simp only [Segment.legBytes, List.append_assoc, u8_be_one_skip, u8_be_one _ _ (by omega : legs[i].toStop < 256)]
  · refine (u8_skip size _ _).trans ?_
    simp only [Segment.legBytes, List.append_assoc, u8_be_one_skip,
      u8_be_one _ _ (by omega : legs[i].kind.code < 256)]
  · refine (u16_skip size _ _).trans ?_
    simp only [Segment.legBytes, List.append_assoc, u16_be_one_skip, u16_be_two _ _ htag]
  · refine (u16_skip size _ _).trans ?_
    simp only [Segment.legBytes, List.append_assoc, u16_be_one_skip, u16_be_two_skip, orFFFF, u16_be_two _ _ label]

/-- A commit whose numbers and segments are in their codings is well formed (R126). -/
theorem commitOk_payload (h1 : 1 ≤ num) (h999 : num ≤ 999) (short : legs.length ≤ 8)
    (coded : ∀ g ∈ legs, g.Coded) : commitOk (commitPayload num legs) = true := by
  have each : ∀ i < legs.length, commitLegOk (commitPayload num legs) i = true := by
    intro i hi
    have here := coded _ (List.getElem_mem hi)
    obtain ⟨from_, to_, kind, -, label⟩ := commitPayload_reads (num := num) hi here
    obtain ⟨hf, ht, -, hlabel⟩ := here
    simp [commitLegOk, from_, to_, kind, label, hf, ht, legs[i].kind.code_le_two, labelOk_getD hlabel]
  simp only [commitOk, commitPayload_length, commitPayload_number h999, seatNumberOk_of_range h1 h999,
    commitPayload_count short, short, Bool.and_eq_true, decide_eq_true_eq, List.all_eq_true, List.mem_range, and_true]
  exact ⟨by omega, each⟩

/-- The segments that a commit stores, in the order given (R128). -/
theorem State.commitLegs_payload (s : State) (short : legs.length ≤ 8) (coded : ∀ g ∈ legs, g.Coded) :
    s.commitLegs (commitPayload num legs)
      = legs.map fun g => { g with fromStop := s.storedFrom g.fromStop, stranded := false } := by
  rw [State.commitLegs, commitPayload_count short]
  refine List.ext_getElem (by simp) fun i _ hi => ?_
  rw [List.length_map] at hi
  have here := coded _ (List.getElem_mem hi)
  obtain ⟨from_, to_, kind, tag, label⟩ := commitPayload_reads (num := num) hi here
  obtain ⟨-, -, -, hlabel⟩ := here
  have label_ := unlessEq_getD (absent := 0xFFFF) fun l h => ((hlabel l h).trans (by omega)).ne
  rw [List.getElem_map, List.getElem_map, List.getElem_range, State.commitLeg, from_, to_, kind, tag, label, label_,
    SegmentKind.ofCode_code, s.clampFrom_eq_storedFrom]

/-- No segment of a commit fails where all fit (R128). -/
theorem State.commitLegRefusal_none {s : State} (short : legs.length ≤ 8) (coded : ∀ g ∈ legs, g.Coded)
    (fits : ∀ g ∈ legs, s.LegFits g.fromStop g.toStop) : s.commitLegRefusal (commitPayload num legs) = none := by
  rw [State.commitLegRefusal, commitPayload_count short, List.findSome?_eq_none_iff]
  intro i mem
  have hi := List.mem_range.mp mem
  obtain ⟨from_, to_, -⟩ := commitPayload_reads (num := num) hi (coded _ (List.getElem_mem hi))
  rw [from_, to_, State.legRefusal_none (fits _ (List.getElem_mem hi))]
  rfl

end Commit

/-- Segments of which no two overlap have no clashing pair (R128). -/
theorem firstOverlap_none {segs : List Segment} (apart : segs.Pairwise fun g h => ¬ g.overlaps h = true) :
    firstOverlap segs = none := by
  rw [firstOverlap, List.findSome?_eq_none_iff]
  intro i hi
  rw [List.findSome?_eq_none_iff]
  intro j hj
  have hi := List.mem_range.mp hi
  have hj := List.mem_range.mp hj
  rw [List.getElem?_eq_getElem hi, List.getElem?_eq_getElem hj]
  dsimp only
  rw [if_neg]
  intro clash
  rw [Bool.and_eq_true, decide_eq_true_eq] at clash
  exact List.pairwise_iff_getElem.mp apart i j hi hj clash.1 clash.2

/-! ### Holds go through a seat change (R124, R130) -/

section SetHold

variable (s : State) (p : Port)

/-- The marks are set whatever the holds are. -/
theorem State.setHold_setMarks (h : Hold) (bays : BitVec 24) :
    (s.setMarks bays).setHold p h = (s.setHold p h).setMarks bays := by
  have marks : (s.setHold p h).holds.marks = s.holds.marks := by cases p <;> rfl
  unfold State.setMarks
  dsimp only
  rw [marks]
  split
  · cases p <;> rfl
  · cases p <;> rfl

/-- A hold that is ABSENT is not broken. -/
theorem State.setHold_breakHolds (f : Nat → Bool) :
    (s.breakHolds f).setHold p .absent = (s.setHold p .absent).breakHolds f := by
  cases p <;> rfl

theorem State.setHold_changeSeat (num : Nat) (bays : List Nat) :
    (s.changeSeat num bays).setHold p .absent = (s.setHold p .absent).changeSeat num bays := by
  have hands (l : List (Nat × Nat)) : (s.handSeats l).setHold p .absent = (s.setHold p .absent).handSeats l := by
    rw [State.handSeats, State.setHold_setMarks, State.setHold_breakHolds]
    rfl
  have reforms (u : State) (named : Seat → Bool) (h : Hold) :
      (u.reform named).setHold p h = (u.setHold p h).reform named := by
    cases p <;> rfl
  rw [State.changeSeat, reforms, hands]
  rfl

end SetHold

/-! ### Commit Seat (R126 to R130) -/

/-- A well-formed commit whose port's hold stands on the seat comes to the checks of R128. -/
theorem commitBlock_standing {s : State} {p : Port} {num : Nat} {legs : List Segment} {x : Seat}
    (h1 : 1 ≤ num) (h999 : num ≤ 999) (short : legs.length ≤ 8) (coded : ∀ g ∈ legs, g.Coded)
    (hold : s.holds.get p = .standing num) (found : s.seat? num = some x) :
    commitBlock p (commitPayload num legs) s = commitChecks (commitPayload num legs) x s := by
  rw [commitBlock, if_neg (not_not_intro (commitOk_payload h1 h999 short coded)), commitPayload_number h999, hold]
  show (match (if num = num then none else some 1 : Option Nat) with
    | some r => refuseWith s .stale (be 1 r)
    | none => match s.seat? num with
      | none => refuse s .notFound
      | some x => commitChecks (commitPayload num legs) x s) = _
  rw [if_pos rfl, found]

/-- Settles O42: no check refuses, so the list is replaced; the port's hold ends, and the seat is handed on. -/
theorem commitReplacesTheList : Obligations.CommitReplacesTheList := by
  intro s p num x legs pool h1 h999 hold found short plan fits b stored apart records takes
  have coded : ∀ g ∈ legs, g.Coded := fun g hg => by
    obtain ⟨⟨-, -, order, -⟩, ht, htag, hlabel⟩ := fits g hg
    exact ⟨by omega, ht, htag, hlabel⟩
  let u := s.enter p 0x49 b
  have size : commitCount b = legs.length := commitPayload_count short
  have list : u.commitLegs b = stored := u.commitLegs_payload short coded
  have block : commitBlock p b u = done (u.commitSeat x b) (u.commitReply (u.commitSeat x b) x b) := by
    have planned : ¬ (commitCount b ≠ 0 ∧ ¬ u.plannable = true) := by
      rw [size]
      rintro ⟨some_, other⟩
      exact other (s.plannable_iff.mpr (plan fun none => some_ (by rw [none]; rfl)).1)
    have open_ : ¬ (commitCount b ≠ 0 ∧ x.blocked = true) := by
      rw [size]
      rintro ⟨some_, blocked⟩
      exact absurd (blocked.symm.trans (plan fun none => some_ (by rw [none]; rfl)).2) nofun
    have fitting : u.commitLegRefusal b = none :=
      State.commitLegRefusal_none short coded fun g hg => (fits g hg).1
    have clear : firstOverlap (u.commitLegs b) = none := by
      rw [list]
      refine firstOverlap_none (apart.imp fun h clash => h ?_)
      simpa [Segment.overlaps] using clash
    refine (commitBlock_standing h1 h999 short coded (s := u) hold found).trans ?_
    show commitChecks b x u = _
    rw [commitChecks, if_neg planned, if_neg open_, fitting]
    dsimp only
    rw [clear]
    dsimp only
    rw [if_neg (by rw [size]; exact Nat.not_lt.mpr records)]
  have perm : (u.commitList b).Perm stored := by
    have joined := joinSegments_perm stored []
    rw [List.append_nil] at joined
    rwa [State.commitList, list]
  have ordered : BySegment (u.commitList b) := BySegment.joinSegments List.Pairwise.nil _
  have length : (u.commitList b).length = legs.length := perm.length_eq.trans (by simp [stored])
  have served := serve_reply (always := State.setHold p .absent) takes.1 takes.2 block
  by_cases same : x.segments = [] ∧ legs = []
  · obtain ⟨noSegments, noLegs⟩ := same
    have kept : u.commitSeat x b = u := if_pos ⟨List.isEmpty_iff.mpr noSegments, by rw [size, noLegs]; rfl⟩
    have none : u.commitList b = [] := List.eq_nil_of_length_eq_zero (length.trans (by rw [noLegs]; rfl))
    rw [kept] at served
    refine ⟨_, u.commitList b, congrArg Host.Outcome.next served, perm, ordered, ?_, ?_, fun _ _ => rfl, ⟨rfl, rfl⟩, ?_⟩
    · rw [none, noSegments, noLegs]
      refine congrArg (fun l => SeatTable.undisplayed ⟨l, s.table.free⟩) ?_
      refine (List.map_id _).symm.trans (List.map_congr_left fun y hy => ?_)
      by_cases named : y.number = num
      · have same : y = x := List.inj_on_of_nodup_map pool.2 hy (List.mem_of_find?_eq_some found)
          (named.trans (State.seat?_number found).symm)
        rw [if_pos named, same]
        show x = { x with segments := [] }
        rw [← noSegments]
      · rw [if_neg named]
        rfl
    · rintro (h | h)
      · exact absurd noSegments h
      · exact absurd noLegs h
    · rw [State.commitReply, size]
      cases p <;> rfl
  · have changed : u.commitSeat x b = (u.setSegments num (u.commitList b)).changeSeat num [x.bay] := by
      rw [State.commitSeat, State.seat?_number found]
      exact if_neg fun h => same ⟨List.isEmpty_iff.mp h.1, List.length_eq_zero_iff.mp (size.symm.trans h.2)⟩
    let tb := s.table.edit num (fun y => { y with segments := u.commitList b })
      (s.table.free + x.segments.length - (u.commitList b).length)
    have edited : (u.setSegments num (u.commitList b)).table = tb :=
      State.setSegments_table (s := u) pool.2 found _
    have after : (u.commitSeat x b).setHold p .absent
        = State.changeSeat num [x.bay] { (s.setHold p .absent).enter p 0x49 b with table := tb } := by
      rw [changed, State.setHold_changeSeat, ← edited]
      rfl
    have free_ : (u.commitSeat x b).table.free = tb.free := by
      rw [changed, State.changeSeat_free, edited]
    rw [after] at served
    have answers := State.answers_seatChanged (s := s.setHold p .absent) (p := p) (k := 0x49) (b := b)
      (tb := tb) (num := num) (bay := x.bay) (body := u.commitReply (u.commitSeat x b) x b)
    refine ⟨_, u.commitList b, congrArg Host.Outcome.next served, perm, ordered, ?_,
      fun _ => State.handed_seatChanged (s := s.setHold p .absent)
        (SeatTable.edit_keeps_lastDisplay fun _ => rfl), fun h1 h2 => absurd ⟨h1, h2⟩ same, ?_, ?_⟩
    · refine (State.seatChanged_table (s := s.setHold p .absent)).trans ?_
      rw [← length]
      rfl
    · obtain ⟨line, frame⟩ := State.seatEventOnly_seatChanged (s := s.setHold p .absent) (p := p) (k := 0x49) (b := b)
        (tb := tb) (num := num) (bay := x.bay) (body := u.commitReply (u.commitSeat x b) x b)
      exact ⟨line, congrArg (fun v : State => { v with holds := s.holds }) frame⟩
    · refine answers.trans (congrArg (fun body => (s.replied p 0x49 b .done body).link.quiet) ?_)
      have after_ := State.seatChanged_free (s := s.setHold p .absent) (p := p) (k := 0x49) (b := b) (tb := tb)
        (num := num) (bay := x.bay) (body := u.commitReply (u.commitSeat x b) x b)
      rw [State.commitReply, free_, size, ← after_]
      rfl

/-- Without a hold that stands on its seat a well-formed commit is STALE (R127). -/
theorem commitBlock_stale {s : State} {p : Port} {num reason : Nat} {legs : List Segment}
    (h1 : 1 ≤ num) (h999 : num ≤ 999) (short : legs.length ≤ 8) (coded : ∀ g ∈ legs, g.Coded)
    (stale : (s.holds.get p).staleReason num = some reason) :
    commitBlock p (commitPayload num legs) s = refuseWith s .stale (be 1 reason) := by
  rw [commitBlock, if_neg (not_not_intro (commitOk_payload h1 h999 short coded)), commitPayload_number h999, stale]

/-- Whatever a commit does to the tables, it does under a hold that stands on the seat it names (R127). -/
theorem commitBlock_cases (p : Port) (b : List Byte) (s : State) :
    (∃ st body, commitBlock p b s = refuseWith s st body)
    ∨ (s.holds.get p = .standing (u16 b 0) ∧ ∃ x body, commitBlock p b s = done (s.commitSeat x b) body) := by
  rw [commitBlock]
  split
  · exact .inl ⟨_, _, rfl⟩
  · cases stale : (s.holds.get p).staleReason (u16 b 0) with
    | some r => exact .inl ⟨_, _, rfl⟩
    | none =>
      have stands : s.holds.get p = .standing (u16 b 0) := by
        cases hold : s.holds.get p with
        | absent => rw [hold] at stale; exact absurd stale nofun
        | broken n =>
          rw [hold, Hold.staleReason] at stale
          split at stale <;> exact absurd stale nofun
        | standing n =>
          rw [hold, Hold.staleReason] at stale
          split at stale
          next same => rw [same]
          next => exact absurd stale nofun
      cases s.seat? (u16 b 0) with
      | none => exact .inl ⟨_, _, rfl⟩
      | some x =>
        dsimp only
        rw [commitChecks]
        split
        · exact .inl ⟨_, _, rfl⟩
        · split
          · exact .inl ⟨_, _, rfl⟩
          · split
            · exact .inl ⟨_, _, rfl⟩
            · split
              · exact .inl ⟨_, _, rfl⟩
              · split
                · exact .inl ⟨_, _, rfl⟩
                · exact .inr ⟨stands, x, _, rfl⟩

/-- Settles O43: the port's hold ends in every outcome, and only the last check lets a list change. -/
theorem commitNeedsStandingHold : Obligations.CommitNeedsStandingHold := by
  intro s t p b taken next
  obtain rfl := Host.Outcome.next.inj next
  let u := s.enter p 0x49 b
  have ended (v : State) (st : Status) (body : List Byte) :
      ((v.setHold p .absent).answer p 0x49 st body).holds.get p = .absent := Holds.get_put _ _ _
  have passes (awake : s.link.rest = .awake) : s.linkRefusal p 0x49 b = none := by
    obtain ⟨-, -, known⟩ := s.linkRefusal_known (k := 0x49) rfl p b
    refine known ?_ fun resting => absurd (awake.symm.trans resting) nofun
    rintro ⟨-, ops | ⟨post, -⟩⟩
    · exact absurd ops (by decide)
    · exact absurd post (by decide)
  cases refusal : s.linkRefusal p 0x49 b with
  | some st =>
    have served : serve p 0x49 b (State.setHold p .absent) (commitBlock p b) s = (u.setHold p .absent).answer p 0x49 st [] :=
      serve_refused taken refusal
    rw [served]
    exact ⟨ended u st [], fun differs => absurd rfl differs,
      fun _ _ awake => absurd ((passes awake).symm.trans refusal) nofun⟩
  | none =>
    have outcome : ((serve p 0x49 b (State.setHold p .absent) (commitBlock p b) s).holds.get p = .absent
        ∧ ((serve p 0x49 b (State.setHold p .absent) (commitBlock p b) s).table ≠ s.table →
          s.holds.get p = .standing (u16 b 0))) := by
      rcases commitBlock_cases p b u with ⟨st, body, block⟩ | ⟨stands, x, body, block⟩
      · rw [serve_reply taken refusal block]
        exact ⟨ended u st body, fun differs => absurd rfl differs⟩
      · rw [serve_reply taken refusal block]
        exact ⟨ended (u.commitSeat x b) .done body, fun _ => stands⟩
    refine ⟨outcome.1, outcome.2, fun num legs _ h1 h999 short coded payload reason why => ?_⟩
    have stale : (u.holds.get p).staleReason num = some reason := by
      show (s.holds.get p).staleReason num = some reason
      rcases why with ⟨hold, rfl⟩ | ⟨n, other, hold | hold, rfl⟩ | ⟨hold, rfl⟩
      · rw [hold]; rfl
      · rw [hold]; exact if_neg other
      · rw [hold]; exact if_neg other
      · rw [hold]; exact if_pos rfl
    have block : commitBlock p b u = refuseWith u .stale (be 1 reason) := by
      rw [payload]
      exact commitBlock_stale h1 h999 short coded stale
    exact serve_reply taken refusal block

end Sys2Proof.Machine
end

section
/-!
Proofs of the statements about Define Seat (R94, R95) and Move Seat (R107, R108).
-/
namespace Sys2Proof.Machine

/-! ### Seat changes one after another (R99, R111, R124, R132) -/

section Handed

variable {s t : State} {nums bays : List Nat} {num : Nat} {more : List Nat}

/-- What a seat shows goes by the journey, the Approach Monitor and the formation alone (R109). -/
theorem State.display_congr (plan : t.plan = s.plan) (appr : t.appr = s.appr) (form : t.form = s.form)
    (unit : t.unitId = s.unitId) : t.display = s.display := by
  have only : t.display = State.display { s with
      plan := t.plan, appr := t.appr, form := t.form, unitId := t.unitId } := rfl
  rw [only, plan, appr, form, unit]

/-- Re-forming displays, where each last display is still one that its seat had in s, or none. -/
theorem State.reformed_of_reform {m : State} {named : Seat → Bool}
    (kept : ∀ x ∈ m.table.seats, named x = true → x.lastDisplay = none
      ∨ ∃ z ∈ s.table.seats, z.number = x.number ∧ z.lastDisplay = x.lastDisplay) :
    s.Reformed named (m.reform named) := by
  intro y hy name
  obtain ⟨x, hx, rfl⟩ := List.mem_map.mp hy
  by_cases named_ : named x = true
  · rw [if_pos named_]
    refine ⟨rfl, fun differs => ?_⟩
    have changed : x.lastDisplay ≠ some (m.display x) := by
      rcases kept x hx named_ with none | ⟨z, hz, same, last⟩
      · rw [none]
        nofun
      · exact last ▸ differs z hz same
    have strip : x.bay ∈ (m.table.seats.filter fun x =>
        named x && decide (x.lastDisplay ≠ some (m.display x))).map Seat.bay :=
      List.mem_map_of_mem (List.mem_filter.mpr ⟨hx, by simp [named_, changed]⟩)
    intro panel hp shows
    obtain ⟨kind, param⟩ := Bool.and_eq_true_iff.mp shows
    refine State.staleAt_staleWhere _ _ panel hp (Bool.and_eq_true_iff.mpr ⟨kind, ?_⟩)
    rw [of_decide_eq_true param]
    exact List.contains_iff_mem.mpr strip
  · rw [if_neg named_] at name
    exact absurd name named_

/-- Displays once re-formed stay so when those of other seats are re-formed too. -/
theorem State.Reformed.reform {named inner : Seat → Bool} (h : s.Reformed named t)
    (number : ∀ x d, inner { x with lastDisplay := d } = inner x)
    (kept : ∀ x ∈ t.table.seats, inner x = true → x.lastDisplay = none
      ∨ ∃ z ∈ s.table.seats, z.number = x.number ∧ z.lastDisplay = x.lastDisplay) :
    s.Reformed (fun y => named y || inner y) (t.reform inner) := by
  intro y hy name
  by_cases now : inner y = true
  · exact State.reformed_of_reform kept y hy now
  · have first : named y = true := by simpa [now] using name
    obtain ⟨x, hx, rfl⟩ := List.mem_map.mp hy
    have other : ¬ inner x = true := by
      intro inside
      rw [if_pos inside, number] at now
      exact now inside
    rw [if_neg other] at first ⊢
    obtain ⟨shown, strips⟩ := h x hx first
    exact ⟨shown, fun differs => State.StaleAt.staleWhere (strips differs) _⟩

/-- MARKS stays pending with the whole unreported set when more marks are set (R135). -/
theorem State.setMarks_pending {bays : BitVec 24} (h : .marks s.holds.unreported ∈ s.link.content.events) :
    .marks (s.setMarks bays).holds.unreported ∈ (s.setMarks bays).link.content.events := by
  by_cases fresh : bays &&& ~~~s.holds.marks = 0
  · rw [State.setMarks_unreported, fresh]
    unfold State.setMarks
    dsimp only
    rw [if_pos fresh]
    simpa using h
  · exact State.setMarks_raises fresh

theorem State.handSeats_pending {l : List (Nat × Nat)} (h : .marks s.holds.unreported ∈ s.link.content.events) :
    .marks (s.handSeats l).holds.unreported ∈ (s.handSeats l).link.content.events :=
  State.setMarks_pending (s := s.breakHolds fun n => l.any (·.1 = n)) h

/-- Seats handed on one list after another. -/
theorem State.HandedOn.handSeats (h : s.HandedOn nums bays t) (l : List (Nat × Nat)) :
    s.HandedOn (nums ++ l.map Prod.fst) (bays ++ l.map Prod.snd) (t.handSeats l) := by
  obtain ⟨holds, marks, unreported, raised⟩ := h
  obtain ⟨holds2, marks2, unreported2, raised2⟩ := State.handedOn_handSeats l t
  refine ⟨fun p => ?_, fun b hb => ?_, fun b hb => ?_, fun ⟨b, hb, named, clear⟩ => ?_⟩
  · rw [holds2, holds]
    cases s.holds.get p with
    | absent => rfl
    | broken n => rfl
    | standing n =>
      dsimp only
      by_cases first : nums.contains n = true
      · rw [if_pos first, if_pos (by rw [List.contains_append, first, Bool.true_or])]
      · rw [if_neg first, List.contains_append, Bool.eq_false_iff.mpr first, Bool.false_or]
  · rw [marks2 b hb, marks b hb]
    dsimp only
    rw [List.contains_append, Bool.or_assoc]
  · rw [unreported2 b hb, unreported b hb, marks b hb]
    dsimp only
    rw [List.contains_append]
    cases s.holds.marks.getLsbD b <;> cases bays.contains b <;> simp
  · by_cases first : bays.contains b = true
    · exact State.handSeats_pending (raised ⟨b, hb, first, clear⟩)
    · have off : bays.contains b = false := Bool.eq_false_iff.mpr first
      refine raised2 ⟨b, hb, ?_, ?_⟩
      · dsimp only at named
        rwa [List.contains_append, off, Bool.false_or] at named
      · rw [marks b hb, clear]
        exact off

theorem State.Reformed.mono {named fewer : Seat → Bool} (h : s.Reformed named t)
    (sub : ∀ y, fewer y = true → named y = true) : s.Reformed fewer t := fun y hy name => h y hy (sub y name)

/-- What else happens to the holds and the link leaves displays re-formed. -/
theorem State.Reformed.of_frame {u : State} {named : Seat → Bool} (h : s.Reformed named t)
    (table : u.table = t.table) (line : u.line = t.line) (display : u.display = t.display) : s.Reformed named u := by
  intro y hy name
  obtain ⟨shown, strips⟩ := h y (table ▸ hy) name
  exact ⟨by rw [display]; exact shown, fun differs => (strips differs).of_line line⟩

theorem State.display_handSeats (l : List (Nat × Nat)) (s : State) : (s.handSeats l).display = s.display := by
  have frame := State.handSeats_frame l s
  exact State.display_congr (congrArg State.plan frame :) (congrArg State.appr frame :)
    (congrArg State.form frame :) (congrArg State.unitId frame :)

/-- Nothing is handed on while holds and events are as before. -/
theorem State.Handed.start (holds : t.holds = s.holds) (events : ∀ q, (t.port q).events = (s.port q).events) :
    s.Handed [] [] t := by
  refine ⟨⟨fun p => ?_, fun b _ => ?_, fun b _ => ?_, fun ⟨_, _, named, _⟩ => absurd named nofun⟩,
    fun q => congrArg _ (events q), fun _ _ name => absurd name nofun⟩
  · rw [holds]
    cases s.holds.get p <;> rfl
  · rw [holds]
    exact (Bool.or_false _).symm
  · rw [holds]
    exact (Bool.or_false _).symm

/-- One more seat is handed on and its display re-formed. -/
theorem State.Handed.changeSeat (h : s.Handed nums bays t) {num : Nat} (more : List Nat)
    (kept : ∀ x ∈ t.table.seats, x.number = num → x.lastDisplay = none
      ∨ ∃ z ∈ s.table.seats, z.number = x.number ∧ z.lastDisplay = x.lastDisplay) :
    s.Handed (nums ++ more.map fun _ => num) (bays ++ more) (t.changeSeat num more) := by
  obtain ⟨on, raises, reformed⟩ := h
  have first : (more.map fun bay => (num, bay)).map Prod.fst = more.map fun _ => num := by
    rw [List.map_map]
    rfl
  have second : (more.map fun bay => (num, bay)).map Prod.snd = more := by
    rw [List.map_map]
    exact List.map_id _
  have on2 := on.handSeats (more.map fun bay => (num, bay))
  rw [first, second] at on2
  refine ⟨on2, RaisesOnly.trans raises (State.raisesOnly_handSeats _ t), ?_⟩
  have handed : s.Reformed (fun y => nums.contains y.number) (t.handSeats (more.map fun bay => (num, bay))) :=
    reformed.of_frame (State.handSeats_table _ t) (State.handSeats_line _ t) (State.display_handSeats _ t)
  refine (handed.reform (inner := fun x => x.number = num) (fun _ _ => rfl) fun x hx name => ?_).mono fun y name => ?_
  · rw [State.handSeats_table] at hx
    exact kept x hx (of_decide_eq_true name)
  · rw [List.contains_append, Bool.or_eq_true] at name
    rcases name with name | name
    · rw [name, Bool.true_or]
    · obtain ⟨_, _, same⟩ := List.mem_map.mp (List.contains_iff_mem.mp name)
      rw [decide_eq_true same.symm, Bool.or_true]

/-- Which seats and bays are named counts, not how often. -/
theorem State.Handed.congr {nums2 bays2 : List Nat} (h : s.Handed nums bays t)
    (num_ : ∀ n, nums2.contains n = nums.contains n) (bay_ : ∀ b, bays2.contains b = bays.contains b) :
    s.Handed nums2 bays2 t := by
  simp only [State.Handed, State.HandedOn, num_, bay_]
  exact h

/-- The answer to the request hands nothing on. -/
theorem State.Handed.answer (h : s.Handed nums bays t) (p : Port) (k : Byte) (st : Status) (b : List Byte) :
    s.Handed nums bays (t.answer p k st b) := by
  obtain ⟨⟨holds, marks, unreported, raised⟩, raises, reformed⟩ := h
  refine ⟨⟨holds, marks, unreported, fun fresh => ?_⟩, fun q => ?_, reformed.of_frame rfl rfl rfl⟩
  · exact (State.answer_events t p .content k st b) ▸ raised fresh
  · rw [State.answer_events]
    exact raises q

/-- What a seat change leaves (R99, R111). -/
theorem State.changeSeat_frame (num : Nat) (more : List Nat) (s : State) :
    (s.changeSeat num more).line.unmarked = s.line.unmarked
    ∧ (s.changeSeat num more).link.quiet = s.link.quiet
    ∧ { s.changeSeat num more with table := s.table, holds := s.holds, link := s.link, line := s.line } = s := by
  refine ⟨?_, Link.quiet_handSeats (more.map fun bay => (num, bay)) s, ?_⟩
  · rw [State.changeSeat, PanelLine.unmarked_reform, State.handSeats_line]
  · exact congrArg (fun t : State => { t with table := s.table, holds := s.holds, link := s.link, line := s.line })
      (State.handSeats_frame (more.map fun bay => (num, bay)) s)

end Handed

/-! ### Define Seat (R94, R95) -/

theorem SeatCategory.ofCode_code (c : SeatCategory) : SeatCategory.ofCode c.code = c := by cases c <;> rfl

theorem SeatCategory.code_le_two (c : SeatCategory) : c.code ≤ 2 := by cases c <;> decide

theorem CoachEnd.ofCode_code (e : CoachEnd) : CoachEnd.ofCode e.code = e := by cases e <;> rfl

theorem CoachEnd.code_le_one (e : CoachEnd) : e.code ≤ 1 := by cases e <;> decide

/-- The payload of Define Seat (R94). -/
def defineSeatPayload (action num bay : Nat) (cat : SeatCategory) (e : CoachEnd) : List Byte :=
  be 1 action ++ be 2 num ++ be 1 bay ++ be 1 cat.code ++ be 1 e.code

section Define

variable {action num bay : Nat} {cat : SeatCategory} {e : CoachEnd}

/-- The fields of a Define Seat payload are read back (R94). -/
theorem defineSeatPayload_reads (haction : action ≤ 1) (h999 : num ≤ 999) (hbay : bay ≤ 23) :
    u8 (defineSeatPayload action num bay cat e) 0 = action
    ∧ u16 (defineSeatPayload action num bay cat e) 1 = num
    ∧ u8 (defineSeatPayload action num bay cat e) 3 = bay
    ∧ SeatCategory.ofCode (u8 (defineSeatPayload action num bay cat e) 4) = cat
    ∧ CoachEnd.ofCode (u8 (defineSeatPayload action num bay cat e) 5) = e
    ∧ (1 ≤ num → defineSeatOk (defineSeatPayload action num bay cat e) = true) := by
  have hcat := cat.code_le_two
  have hend := e.code_le_one
  have read0 : u8 (defineSeatPayload action num bay cat e) 0 = action := by
    simp only [defineSeatPayload, List.append_assoc, u8_be_one _ _ (by omega : action < 256)]
  have read1 : u16 (defineSeatPayload action num bay cat e) 1 = num := by
    simp only [defineSeatPayload, List.append_assoc, u16_be_one_skip, u16_be_two _ _ (by omega : num < 65536)]
  have read3 : u8 (defineSeatPayload action num bay cat e) 3 = bay := by
    simp only [defineSeatPayload, List.append_assoc, u8_be_one_skip, u8_be_two_skip,
      u8_be_one _ _ (by omega : bay < 256)]
  have read4 : u8 (defineSeatPayload action num bay cat e) 4 = cat.code := by
    simp only [defineSeatPayload, List.append_assoc, u8_be_one_skip, u8_be_two_skip,
      u8_be_one _ _ (by omega : cat.code < 256)]
  have read5 : u8 (defineSeatPayload action num bay cat e) 5 = e.code := by
    simp only [defineSeatPayload, List.append_assoc, u8_be_one_skip, u8_be_two_skip,
      u8_be_one_end (by omega : e.code < 256)]
  refine ⟨read0, read1, read3, ?_, ?_, fun h1 => ?_⟩
  · rw [read4, SeatCategory.ofCode_code]
  · rw [read5, CoachEnd.ofCode_code]
  · have size : (defineSeatPayload action num bay cat e).length = 6 := by simp [defineSeatPayload]
    simp [defineSeatOk, size, read0, read1, read3, read4, read5, seatNumberOk_of_range h1 h999, haction, hbay, hcat,
      hend]

end Define

/-- The seats of a bay are as many, whatever was last displayed. -/
theorem State.seatsOfBay_length {s : State} {tb : SeatTable} (h : s.table.undisplayed = tb.undisplayed) (bay : Nat) :
    (s.seatsOfBay bay).length = (tb.seats.filter fun x => x.bay = bay).length := by
  have count (l : List Seat) : (l.filter fun x => decide (x.bay = bay)).length
      = ((l.map Seat.undisplayed).filter fun x => decide (x.bay = bay)).length := by
    rw [List.filter_map, List.length_map]
    rfl
  have seats : s.table.seats.map Seat.undisplayed = tb.seats.map Seat.undisplayed := congrArg SeatTable.seats h
  rw [State.seatsOfBay, count, count tb.seats, seats]

theorem SeatTable.seats_length {t u : SeatTable} (h : t.undisplayed = u.undisplayed) :
    t.seats.length = u.seats.length := by
  have seats : t.seats.map Seat.undisplayed = u.seats.map Seat.undisplayed := congrArg SeatTable.seats h
  simpa using congrArg List.length seats

/-- What a request leaves that edits the Seat Table, hands a seat on in the bays given and is answered. -/
theorem State.changeSeat_answered {s : State} {p : Port} {k : Byte} {b body : List Byte} {tb : SeatTable} {num : Nat}
    {bays : List Nat} {t : State}
    (shape : t = (State.changeSeat num bays { s.enter p k b with table := tb }).answer p k .done body)
    (kept : ∀ x ∈ tb.seats, x.number = num → x.lastDisplay = none
      ∨ ∃ z ∈ s.table.seats, z.number = x.number ∧ z.lastDisplay = x.lastDisplay) :
    t.table.undisplayed = tb.undisplayed ∧ s.Handed (bays.map fun _ => num) bays t ∧ s.SeatEventOnly t
      ∧ s.Answers p k b .done body t := by
  subst shape
  let u : State := { s.enter p k b with table := tb }
  obtain ⟨line, quiet, frame⟩ := State.changeSeat_frame num bays u
  have start : s.Handed [] [] u := State.Handed.start rfl fun q => State.enter_events s p q k b
  refine ⟨SeatTable.undisplayed_changeSeat u num bays, (start.changeSeat bays kept).answer p k .done body,
    ⟨line, ?_⟩, State.quiet_answer_congr quiet p k .done body⟩
  exact congrArg (fun v : State => { v with table := s.table, holds := s.holds, link := s.link, line := s.line }) frame

/-- Settles O35: the action and the seat decide; each change is handed on. -/
theorem seatsDefinedAndRemoved : Obligations.SeatsDefinedAndRemoved := by
  intro s p num bay cat e h1 h999 hbay b others
  have reads (action : Nat) (h : action ≤ 1) := defineSeatPayload_reads (cat := cat) (e := e) h h999 hbay
  have create (u : State) : defineSeatBlock (b 0) u = createSeat (b 0) u := by
    obtain ⟨first, -, -, -, -, form⟩ := reads 0 (by omega)
    exact (if_neg (not_not_intro (form h1))).trans (if_pos first)
  have delete (u : State) : defineSeatBlock (b 1) u = deleteSeat (b 1) u := by
    obtain ⟨first, -, -, -, -, form⟩ := reads 1 (by omega)
    refine (if_neg (not_not_intro (form h1))).trans (if_neg ?_)
    rw [show u8 (b 1) 0 = 1 from first]
    decide
  have counted (u : State) (table : u.table = s.table) :
      ((u.seatsOfBay bay).filter fun x => decide (x.number ≠ num)) = others := by
    rw [State.seatsOfBay, table, List.filter_filter]
    exact List.filter_congr fun x _ => Bool.and_comm _ _
  refine ⟨fun takes absent room few => ?_, fun x takes found empty few => ?_, fun x takes found empty => ?_⟩
  · let u := s.enter p 0x40 (b 0)
    let new : Seat := ⟨num, bay, cat, e, false, [], none⟩
    let tb : SeatTable := ⟨s.table.seats ++ [new], s.table.free⟩
    obtain ⟨-, numRead, bayRead, catRead, endRead, -⟩ := reads 0 (by omega)
    have numRead : u16 (b 0) 1 = num := numRead
    have bayRead : u8 (b 0) 3 = bay := bayRead
    have seat : newSeat (b 0) = new := by
      show (⟨u16 (b 0) 1, u8 (b 0) 3, SeatCategory.ofCode (u8 (b 0) 4), CoachEnd.ofCode (u8 (b 0) 5), _, _, _⟩ : Seat) = _
      rw [numRead, bayRead, show SeatCategory.ofCode (u8 (b 0) 4) = cat from catRead,
        show CoachEnd.ofCode (u8 (b 0) 5) = e from endRead]
    let s1 := State.changeSeat num [bay] { u with table := tb }
    have block : defineSeatBlock (b 0) u = done s1 (s1.seatCounts bay) := by
      have added : u.addSeat (b 0) = s1 := by
        rw [State.addSeat, seat, numRead, bayRead]
        rfl
      rw [create, createSeat, numRead, bayRead, State.enter_seat?, absent, counted u rfl, added]
      exact if_neg (not_or.mpr ⟨Nat.not_le.mpr room, Nat.not_le.mpr few⟩)
    have missing : ∀ x ∈ s.table.seats, x.number ≠ num := by simpa [State.seat?] using absent
    obtain ⟨table, handed, only, answers⟩ := State.changeSeat_answered (s := s) (p := p) (k := 0x40) (b := b 0)
      (tb := tb) (num := num) (bays := [bay]) (body := s1.seatCounts bay) rfl fun x hx name => by
        rcases List.mem_append.mp hx with hx | hx
        · exact absurd name (missing x hx)
        · exact .inl (List.mem_singleton.mp hx ▸ rfl)
    refine ⟨_, congrArg Host.Outcome.next (serve_reply takes.1 takes.2 block), table, handed, only, ?_, ?_⟩
    · obtain ⟨y, hy, same⟩ : ∃ y ∈ (s1.answer p 0x40 .done (s1.seatCounts bay)).table.seats, y.undisplayed = new := by
        have seats : s1.table.seats.map Seat.undisplayed = tb.seats.map Seat.undisplayed := congrArg SeatTable.seats table
        have mem : new ∈ tb.seats.map Seat.undisplayed := List.mem_map_of_mem (f := Seat.undisplayed) (a := new) (by simp [tb])
        rw [← seats] at mem
        exact List.mem_map.mp mem
      have number : y.number = num := congrArg Seat.number same
      have inBay : y.bay = bay := congrArg Seat.bay same
      have strips := (handed.2.2 y hy (by simp [number])).2 fun x hx other =>
        absurd (other.trans number) (missing x hx)
      rwa [inBay] at strips
    · have size : (s1.seatsOfBay bay).length = others.length + 1 := by
        have without : s.table.seats.filter (fun x => decide (x.bay = bay)) = others :=
          List.filter_congr fun x hx => by rw [decide_eq_true (missing x hx), Bool.and_true]
        refine (State.seatsOfBay_length (s := s1) table bay).trans ?_
        rw [List.filter_append, List.length_append, without]
        simp [new]
      refine Eq.trans answers (congrArg (fun body => (s.replied p 0x40 (b 0) .done body).link.quiet) ?_)
      rw [State.seatCounts, size]
      rfl
  · let u := s.enter p 0x40 (b 0)
    let redefined (y : Seat) : Seat := { y with bay := bay, category := cat, seatEnd := e }
    let tb := s.table.edit num redefined s.table.free
    obtain ⟨-, numRead, bayRead, catRead, endRead, -⟩ := reads 0 (by omega)
    have numRead : u16 (b 0) 1 = num := numRead
    have bayRead : u8 (b 0) 3 = bay := bayRead
    have redefine : Seat.redefine (b 0) = redefined := by
      funext y
      show ({ y with bay := u8 (b 0) 3, category := SeatCategory.ofCode (u8 (b 0) 4),
                     seatEnd := CoachEnd.ofCode (u8 (b 0) 5) } : Seat) = _
      rw [bayRead, show SeatCategory.ofCode (u8 (b 0) 4) = cat from catRead,
        show CoachEnd.ofCode (u8 (b 0) 5) = e from endRead]
    let s1 := State.changeSeat num [x.bay, bay] { u with table := tb }
    have block : defineSeatBlock (b 0) u = done s1 (s1.seatCounts bay) := by
      have changed : u.redefineSeat (b 0) x = s1 := by
        rw [State.redefineSeat, redefine, numRead, bayRead]
        rfl
      rw [create, createSeat, numRead, bayRead, State.enter_seat?, found]
      dsimp only
      rw [counted u rfl, changed]
      refine (if_neg ?_).trans (if_neg (Nat.not_le.mpr few))
      rw [empty]
      decide
    obtain ⟨table, handed, only, answers⟩ := State.changeSeat_answered (s := s) (p := p) (k := 0x40) (b := b 0)
      (tb := tb) (num := num) (bays := [x.bay, bay]) (body := s1.seatCounts bay) rfl fun y hy name => by
        obtain ⟨z, hz, same, last⟩ := SeatTable.edit_keeps_lastDisplay (f := redefined) (fun _ => rfl) y hy name
        exact .inr ⟨z, hz, same.trans name.symm, last⟩
    refine ⟨_, congrArg Host.Outcome.next (serve_reply takes.1 takes.2 block), table,
      handed.congr (fun n => by simp) fun _ => rfl, only, ?_⟩
    have size : s1.table.seats.length = s.table.seats.length :=
      (SeatTable.seats_length table).trans (List.length_map _)
    refine Eq.trans answers (congrArg (fun body => (s.replied p 0x40 (b 0) .done body).link.quiet) ?_)
    rw [State.seatCounts, size]
    rfl
  · let u := s.enter p 0x40 (b 1)
    obtain ⟨-, numRead, -⟩ := reads 1 (by omega)
    have numRead : u16 (b 1) 1 = num := numRead
    let tb : SeatTable := ⟨s.table.seats.filter fun y => decide (y.number ≠ num), s.table.free⟩
    let v : State := { u with table := tb }
    let s1 := v.handSeats [(num, x.bay)]
    have table : s1.table = tb := State.handSeats_table _ v
    have block : defineSeatBlock (b 1) u = done s1 (s1.seatCounts x.bay) := by
      have dropped : u.dropSeat x = s1 := by
        rw [State.dropSeat, State.seat?_number found]
        rfl
      rw [delete, deleteSeat, numRead, State.enter_seat?, found]
      dsimp only
      rw [dropped]
      refine if_neg ?_
      rw [empty]
      decide
    have on : s.HandedOn [num] [x.bay] s1 :=
      (State.Handed.start (s := s) (t := v) rfl fun q => State.enter_events s p q 0x40 (b 1)).1.handSeats [(num, x.bay)]
    have handed : s.Handed [num] [x.bay] s1 := by
      refine ⟨on, fun q => (State.raisesOnly_handSeats _ v q).trans (congrArg _ (State.enter_events s p q 0x40 (b 1))),
        fun y hy name => ?_⟩
      rw [table] at hy
      have other := (List.mem_filter.mp hy).2
      have same : y.number = num := by simpa using name
      exact absurd other (by simp [same])
    have frame := State.handSeats_frame [(num, x.bay)] v
    have line : s1.line = s.line := State.handSeats_line _ v
    refine ⟨_, congrArg Host.Outcome.next (serve_reply takes.1 takes.2 block), table, handed.answer p 0x40 .done _,
      ⟨congrArg PanelLine.unmarked line, ?_⟩, line, ?_⟩
    · exact congrArg (fun w : State => { w with table := s.table, holds := s.holds, link := s.link, line := s.line })
        frame
    · exact State.quiet_answer_congr (Link.quiet_handSeats [(num, x.bay)] v) p 0x40 .done (s1.seatCounts x.bay)

end Sys2Proof.Machine
end

section
/-!
Proof of the statement about Move Seat (R107, R108).
-/
namespace Sys2Proof.Machine

/-! ### The lists after a move (R108) -/

/-- The lists of two seats replaced by lists that hold as many segments together: the pool stays (R98). -/
theorem segmentsHeld_exchange {seats : List Seat} (nodup : (seats.map Seat.number).Nodup) {x y : Seat}
    (hx : x ∈ seats) (hy : y ∈ seats) (apart : x.number ≠ y.number) {f : Seat → List Segment}
    (other : ∀ z ∈ seats, z.number ≠ x.number → z.number ≠ y.number → f z = z.segments)
    (same : (f x).length + (f y).length = x.segments.length + y.segments.length) :
    segmentsHeld (seats.map fun z => { z with segments := f z }) = segmentsHeld seats := by
  have first := segmentsHeld_replace nodup hx (f x)
  let seats1 := seats.map fun z => { z with segments := if z.number = x.number then f x else z.segments }
  have nodup1 : (seats1.map Seat.number).Nodup := by
    rw [List.map_map]
    exact nodup
  have hy1 : y ∈ seats1 := by
    refine List.mem_map.mpr ⟨y, hy, ?_⟩
    rw [if_neg fun h => apart h.symm]
  have second := segmentsHeld_replace nodup1 hy1 (f y)
  have whole : (seats1.map fun z => { z with segments := if z.number = y.number then f y else z.segments })
      = seats.map fun z => { z with segments := f z } := by
    rw [List.map_map]
    refine List.map_congr_left fun z hz => ?_
    have injective := fun w hw => List.inj_on_of_nodup_map nodup (x := z) hz (y := w) hw
    by_cases isX : z.number = x.number
    · obtain rfl := injective x hx isX
      simp [apart]
    · by_cases isY : z.number = y.number
      · obtain rfl := injective y hy isY
        simp
      · simp [isX, isY, other z hz isX isY]
  rw [whole] at second
  simp only [seats1] at second
  omega

/-- The segments that move are those whose effective to stop is above R (R107). -/
theorem State.moves_eq (s : State) : s.moves = fun g => match s.eff g.toStop, s.refStop with
    | some e, some r => !g.stranded && decide (r < e)
    | _, _ => false := by
  funext g
  rw [State.moves]
  cases s.eff g.toStop <;> cases s.refStop <;> simp

/-- A seat change leaves the records of the other seats (R111). -/
theorem State.mem_of_mem_changeSeat {s : State} {num : Nat} {bays : List Nat} {z : Seat}
    (hz : z ∈ (s.changeSeat num bays).table.seats) (other : z.number ≠ num) : z ∈ s.table.seats := by
  obtain ⟨w, hw, rfl⟩ := List.mem_map.mp hz
  rw [State.handSeats_table] at hw
  by_cases here : w.number = num
  · rw [if_pos (decide_eq_true here)] at other
    exact absurd here other
  · rwa [if_neg (by simpa using here)]

/-- Settles O39: the checks pass, the segments change seats, and both seats are handed on. -/
theorem moveSeatCarriesTheRest : Obligations.MoveSeatCarriesTheRest := by
  intro s p m n x y pool hm1 hm999 hn1 hn999 apart plan route foundX foundY unblocked goes moving staying short clear
    takes
  have numberX := State.seat?_number foundX
  have numberY := State.seat?_number foundY
  have goes_ : s.moves = goes := s.moves_eq
  have moving_ : s.moving x = moving := by
    rw [State.moving, goes_]
    exact List.map_congr_left fun g _ => by rw [s.clampFrom_eq_storedFrom]
  have staying_ : s.staying x = staying := by rw [State.staying, goes_]
  have readM : u16 (be 2 m ++ be 2 n) 0 = m := u16_be_two m _ (by omega)
  have readN : u16 (be 2 m ++ be 2 n) 2 = n := (u16_be_two_skip m (be 2 n) 0).trans (u16_be_two_end (by omega))
  generalize hb : be 2 m ++ be 2 n = b at takes readM readN
  let u := s.enter p 0x45 b
  let body := be 1 moving.length ++ be 1 staying.length ++ be 1 (y.segments.length + moving.length)
  have block : moveSeatBlock b u = done (u.moveSeat x y) body := by
    have form : b.length = 4 ∧ seatNumberOk m = true ∧ seatNumberOk n = true ∧ m ≠ n :=
      ⟨by rw [← hb]; rfl, seatNumberOk_of_range hm1 hm999, seatNumberOk_of_range hn1 hn999, apart⟩
    have ready : ¬ (¬ u.plannable = true ∨ ¬ u.hasRoute = true) :=
      not_or.mpr ⟨not_not_intro (s.plannable_iff.mpr plan), not_not_intro route⟩
    have noClash : u.moveClash x y = none := by
      refine List.find?_eq_none.mpr fun h hh clash => ?_
      obtain ⟨g, hg, overlap⟩ := List.any_eq_true.mp clash
      rw [show u.moving x = moving from moving_] at hg
      exact clear g hg h hh (by simpa [Segment.overlaps] using overlap)
    rw [moveSeatBlock, readM, readN, if_neg (not_not_intro form), if_neg ready, State.enter_seat?, State.enter_seat?,
      foundX, foundY]
    dsimp only
    rw [show u.moving x = moving from moving_, show u.staying x = staying from staying_, noClash,
      if_neg (by rw [unblocked]; nofun), if_neg (by omega)]
  have served := serve_reply (always := id) takes.1 takes.2 block
  by_cases none : moving = []
  · have kept : u.moveSeat x y = u := if_pos (List.isEmpty_iff.mpr (moving_.trans none))
    rw [kept] at served
    refine ⟨_, [], congrArg Host.Outcome.next served, ?_, ⟨rfl, rfl⟩, fun _ => ⟨rfl, rfl, rfl⟩, fun h => absurd none h⟩
    cases p <;> rfl
  · let new := joinSegments moving y.segments
    have perm : new.Perm (moving ++ y.segments) := joinSegments_perm moving y.segments
    have unique : ∀ z ∈ s.table.seats, ∀ w ∈ s.table.seats, z.number = w.number → z = w := fun z hz w hw same =>
      List.inj_on_of_nodup_map pool.2 hz hw same
    have memX := List.mem_of_find?_eq_some foundX
    have memY := List.mem_of_find?_eq_some foundY
    let tb : SeatTable := ⟨s.table.seats.map fun z =>
        if z.number = m then { z with segments := staying }
        else if z.number = n then { z with segments := new } else z, s.table.free⟩
    let lists := u.movedList x y
    have lists_ (z : Seat) (hz : z ∈ s.table.seats) : ({ z with segments := lists z } : Seat)
        = if z.number = m then { z with segments := staying }
          else if z.number = n then { z with segments := new } else z := by
      show ({ z with segments := if z.number = x.number then s.staying z
        else if z.number = y.number then joinSegments (s.moving x) z.segments else z.segments } : Seat) = _
      rw [numberX, numberY, moving_]
      split
      case isTrue isX =>
        obtain rfl := unique z hz x memX (isX.trans numberX.symm)
        rw [staying_]
      case isFalse =>
        split
        case isTrue isY =>
          obtain rfl := unique z hz y memY (isY.trans numberY.symm)
          rfl
        case isFalse => rfl
    have listX : lists x = staying := by
      have this := congrArg Seat.segments (lists_ x memX)
      rwa [if_pos numberX] at this
    have listY : lists y = new := by
      have this := congrArg Seat.segments (lists_ y memY)
      rwa [if_neg (by rw [numberY]; exact apart.symm), if_pos numberY] at this
    have held : segmentsHeld (s.table.seats.map fun z => { z with segments := lists z }) = segmentsHeld s.table.seats := by
      refine segmentsHeld_exchange pool.2 memX memY (by rw [numberX, numberY]; exact apart) (fun z hz notX notY => ?_) ?_
      · have this := congrArg Seat.segments (lists_ z hz)
        rwa [if_neg (by rwa [← numberX]), if_neg (by rwa [← numberY])] at this
      · have split_ : x.segments.length = (x.segments.filter goes).length + staying.length :=
          List.length_eq_length_filter_add _
        have count : moving.length = (x.segments.filter goes).length := List.length_map _
        rw [listX, listY, perm.length_eq, List.length_append]
        omega
    have table : (u.relist lists).table = tb := by
      show (⟨_, s.table.free + segmentsHeld s.table.seats - segmentsHeld (s.table.seats.map _)⟩ : SeatTable) = tb
      rw [held, Nat.add_sub_cancel]
      exact congrArg (fun l => (⟨l, s.table.free⟩ : SeatTable)) (List.map_congr_left lists_)
    let v : State := { u with table := tb }
    have shape : u.moveSeat x y = (v.changeSeat m [x.bay]).changeSeat n [y.bay] := by
      have relisted : u.relist lists = v := congrArg (fun tb : SeatTable => { u with table := tb }) table
      refine (if_neg fun h => none (moving_.symm.trans (List.isEmpty_iff.mp h))).trans ?_
      rw [numberX, numberY]
      exact congrArg (fun w : State => (w.changeSeat m [x.bay]).changeSeat n [y.bay]) relisted
    rw [shape] at served
    have lastKept : ∀ z ∈ v.table.seats, ∃ w ∈ s.table.seats, w.number = z.number ∧ w.lastDisplay = z.lastDisplay := by
      intro z hz
      obtain ⟨w, hw, rfl⟩ := List.mem_map.mp hz
      refine ⟨w, hw, ?_⟩
      split
      · exact ⟨rfl, rfl⟩
      · split <;> exact ⟨rfl, rfl⟩
    have start : s.Handed [] [] v := State.Handed.start rfl fun q => State.enter_events s p q 0x45 b
    have first := start.changeSeat (num := m) [x.bay] fun z hz _ => .inr (lastKept z hz)
    have both := first.changeSeat (num := n) [y.bay] fun z hz name =>
      .inr (lastKept z (State.mem_of_mem_changeSeat hz (by rw [name]; exact apart.symm)))
    obtain ⟨line1, quiet1, frame1⟩ := State.changeSeat_frame m [x.bay] v
    obtain ⟨line2, quiet2, frame2⟩ := State.changeSeat_frame n [y.bay] (v.changeSeat m [x.bay])
    refine ⟨_, new, congrArg Host.Outcome.next served, State.quiet_answer_congr (quiet2.trans quiet1) p 0x45 .done body,
      ⟨line2.trans line1, ?_⟩, fun h => absurd h none, fun _ => ⟨perm, fun ordered => BySegment.joinSegments ordered _, ?_,
        both.answer p 0x45 .done body⟩⟩
    · have whole := congrArg (fun w : State =>
        { w with table := s.table, holds := s.holds, link := s.link, line := s.line }) frame2
      exact whole.trans (congrArg (fun w : State =>
        { w with table := s.table, holds := s.holds, link := s.link, line := s.line }) frame1)
    · exact (SeatTable.undisplayed_changeSeat _ n [y.bay]).trans (SeatTable.undisplayed_changeSeat v m [x.bay])

end Sys2Proof.Machine
end

section
/-!
What raising events does to the Link Unit, and what the operations of the Notice Sequencer do, once each.
-/
namespace Sys2Proof.Machine

/-! ### Events raised (R9) -/

/-- The Link Unit differs in pending entries of the codes given alone. -/
structure State.Raises (codes : List Nat) (s t : State) : Prop where
  quiet : t.link.quiet = s.link.quiet
  only : s.RaisesOnly codes t

section Raises

variable {codes more : List Nat} {s t u : State}

theorem State.Raises.of_link (h : t.link = s.link) : s.Raises codes t :=
  ⟨congrArg Link.quiet h, State.raisesOnly_of_link h⟩

theorem State.Raises.trans (h : s.Raises codes t) (k : t.Raises codes u) : s.Raises codes u :=
  ⟨k.quiet.trans h.quiet, h.only.trans k.only⟩

theorem State.Raises.mono (h : s.Raises codes t) (sub : ∀ c ∈ codes, c ∈ more) : s.Raises more t :=
  ⟨h.quiet, h.only.mono sub⟩

theorem State.raises_raise {e : Event} (h : codes.contains e.code = true) (s : State) : s.Raises codes (s.raise e) :=
  ⟨Link.quiet_raise s e, State.raisesOnly_raise h s⟩

theorem State.raises_handSeats (l : List (Nat × Nat)) (s : State) : s.Raises [0x10] (s.handSeats l) :=
  ⟨Link.quiet_handSeats l s, State.raisesOnly_handSeats l s⟩

theorem State.raises_setMarks (bays : BitVec 24) (s : State) : s.Raises [0x10] (s.setMarks bays) := by
  rcases s.setMarks_link bays with same | ⟨m, raised⟩
  · exact .of_link same
  · have one := s.raises_raise (codes := [0x10]) (e := .marks m) rfl
    exact ⟨(congrArg Link.quiet raised).trans one.quiet,
      fun p => (congrArg (fun l : Link => (l.port p).events.filter _) raised).trans (one.only p)⟩

/-- Which port has what else pending stays (R9). -/
theorem State.Raises.rest (h : s.Raises codes t) : t.link.rest = s.link.rest :=
  (congrArg Link.rest h.quiet :)

/-- Entries of other codes stay pending. -/
theorem State.Raises.mem (h : s.Raises codes t) {e : Event} (other : codes.contains e.code = false) (p : Port)
    (mem : e ∈ (s.port p).events) : e ∈ (t.port p).events := by
  have kept : e ∈ (s.port p).events.filter fun x => !codes.contains x.code :=
    List.mem_filter.mpr ⟨mem, by rw [other]; rfl⟩
  rw [← h.only p] at kept
  exact (List.mem_filter.mp kept).1

theorem State.Raises.operations (h : s.Raises codes t) {e : Event} (other : codes.contains e.code = false)
    (mem : e ∈ s.link.operations.events) : e ∈ t.link.operations.events := h.mem other .operations mem

theorem State.Raises.content (h : s.Raises codes t) {e : Event} (other : codes.contains e.code = false)
    (mem : e ∈ s.link.content.events) : e ∈ t.link.content.events := h.mem other .content mem

/-- The level's end of an event raises NOTICE_LEVEL alone (R155). -/
theorem State.raises_settleLevel (s before : State) : s.Raises [0x06] (s.settleLevel before) := by
  unfold State.settleLevel
  split
  · exact .of_link rfl
  · exact State.raises_raise rfl s

/-- The brightness' end of an event raises HEAT alone (R218). -/
theorem State.raises_settleBrightness (s before : State) : s.Raises [0x09] (s.settleBrightness before) := by
  have link := s.settleBrightness_link before
  split at link
  · have one := s.raises_raise (codes := [0x09]) (e := .heat s.bright.heat s.bright.ceiling) rfl
    exact ⟨(congrArg Link.quiet link).trans one.quiet,
      fun p => (congrArg (fun l : Link => (l.port p).events.filter _) link).trans (one.only p)⟩
  · exact .of_link link

theorem State.raises_settle (s before : State) : s.Raises [0x06, 0x09] (s.settle before) :=
  ((s.raises_settleBrightness before).mono (by simp)).trans
    (((s.settleBrightness before).raises_settleLevel before).mono (by simp))

theorem State.raises_setMode (m : Mode) (s : State) : s.Raises [0x02] (s.setMode m) := by
  refine ⟨?_, s.raisesOnly_setMode m⟩
  rw [State.setMode_link]
  split
  · rfl
  · exact Link.quiet_raise s (.mode m)

/-- The Link Unit once the request in service has been answered, whatever events were raised (R8). -/
theorem State.Raises.answers {p : Port} {k : Byte} {b body : List Byte} {st : Status}
    (h : (s.enter p k b).Raises codes t) : s.Answers p k b st body (t.answer p k st body) :=
  State.quiet_answer_congr h.quiet p k st body

/-- The pending entries of other codes, through a request's entry and its answer. -/
theorem State.Raises.answered {p : Port} {k : Byte} {b body : List Byte} {st : Status}
    (h : (s.enter p k b).Raises codes t) : s.RaisesOnly codes (t.answer p k st body) := by
  intro q
  rw [State.answer_events, h.only q, State.enter_events]

end Raises

/-- Where the brightness' inputs are as before the event, nothing is compared anew (R218). -/
theorem State.settleBrightness_same {s before : State} (bright : s.bright = before.bright) (odo : s.odo = before.odo)
    (clock : s.clock = before.clock) : s.settleBrightness before = s := by
  have only : s.brightness = State.brightness { before with bright := s.bright, odo := s.odo, clock := s.clock } := rfl
  have brightness : before.brightness = s.brightness := by rw [only, bright, odo, clock]
  unfold State.settleBrightness
  simp only [bright, brightness, and_self, if_true]

/-! ### Operations of the Notice Sequencer -/

/-- An operation of the Notice Sequencer: nothing else differs but NOTICE_DROPPED and stale flags, and what is
stale stays so. -/
structure State.NoticeStep (s t : State) : Prop where
  frame : { t with seq := s.seq, link := s.link, line := s.line } = s
  raises : s.Raises [0x07] t
  unmarked : t.line.unmarked = s.line.unmarked
  stale : ∀ named, s.StaleAt named → t.StaleAt named

/-- Banners are stale where the notice shown changed (R138). -/
def State.BannersShown (s t : State) : Prop :=
  s.seq.active ≠ t.seq.active → t.StaleAt fun x => decide (x.kind = .banner)

section NoticeOps

variable {s t u : State}

theorem State.NoticeStep.refl (s : State) : s.NoticeStep s := ⟨rfl, .of_link rfl, rfl, fun _ h => h⟩

theorem State.NoticeStep.trans (h : s.NoticeStep t) (k : t.NoticeStep u) : s.NoticeStep u := by
  refine ⟨?_, h.raises.trans k.raises, k.unmarked.trans h.unmarked, fun named stale => k.stale named (h.stale named stale)⟩
  exact (congrArg (fun v : State => { v with seq := s.seq, link := s.link, line := s.line }) k.frame).trans h.frame

theorem State.BannersShown.trans (h : s.BannersShown t) (k : t.BannersShown u) (step : t.NoticeStep u) :
    s.BannersShown u := by
  intro differs
  by_cases first : s.seq.active = t.seq.active
  · exact k (first ▸ differs)
  · exact step.stale _ (h first)

/-- The Notice Sequencer alone is given. -/
theorem State.noticeStep_seq (s : State) (q : Sequencer) : s.NoticeStep { s with seq := q } :=
  ⟨rfl, .of_link rfl, rfl, fun _ h => h⟩

theorem State.noticeStep_stale (s : State) (q : Sequencer) : s.NoticeStep { s with seq := q }.staleBanners :=
  ⟨rfl, .of_link rfl, PanelLine.unmarked_staleWhere { s with seq := q } _,
    fun _ h => State.StaleAt.staleWhere (s := { s with seq := q }) h _⟩

/-- Whatever the change of the Notice Sequencer, marked banners show it. -/
theorem State.bannersShown_stale (s t : State) : s.BannersShown t.staleBanners :=
  fun _ => State.staleAt_staleWhere t _

theorem State.startNotice_step (n : Notice) (s : State) : s.NoticeStep (s.startNotice n) :=
  s.noticeStep_stale _

theorem State.raiseDropped_notice (why : DropReason) (n : Notice) (s : State) : s.NoticeStep (s.raiseDropped why n) :=
  ⟨rfl, State.raises_raise rfl s, rfl, fun _ h => h⟩

theorem lowestLang_eq (m : BitVec 4) : lowestLang m = firstLanguage m := by
  revert m
  decide

theorem State.startNotice_seq_started (n : Notice) (s : State) : (s.startNotice n).seq = s.seq.started n := by
  rw [State.startNotice_seq, lowestLang_eq]
  rfl

/-! ### Returns (R159, R160) -/

theorem State.startHead_step (s : State) : s.NoticeStep s.startHead := by
  unfold State.startHead
  split
  · exact .refl s
  · exact s.noticeStep_stale _

theorem State.returnLower_notice (s : State) : s.NoticeStep s.returnLower := by
  unfold State.returnLower
  split
  · exact s.noticeStep_stale _
  · exact s.startHead_step

theorem State.returnFromAlarm_notice (s : State) : s.NoticeStep s.returnFromAlarm := by
  unfold State.returnFromAlarm
  split
  · exact s.returnLower_notice
  · split
    · exact (s.noticeStep_seq _).trans (State.startHead_step _)
    · exact s.noticeStep_stale _

theorem State.dropActive_notice (s : State) : s.NoticeStep s.dropActive := by
  unfold State.dropActive
  split
  · exact s.noticeStep_stale _
  · exact .refl s

theorem State.endActive_notice (s : State) : s.NoticeStep s.endActive := by
  unfold State.endActive
  split
  · exact .refl s
  · split
    · exact s.dropActive_notice.trans (State.returnFromAlarm_notice _)
    · exact s.dropActive_notice.trans (State.returnLower_notice _)

/-- The return to the lower places (R160), the active place empty. -/
theorem State.returnLower_seq {t : State} {queue : List Notice} {slot1 slot2 : Option Notice}
    (seq : t.seq = ⟨queue, none, slot1, slot2, 0⟩) (a : Option Notice) (d : Nat) :
    t.returnLower.seq = Sequencer.returned ⟨queue, a, slot1, slot2, d⟩ := by
  unfold State.returnLower State.startHead
  rw [seq]
  cases slot1 with
  | some n => rfl
  | none =>
    cases queue with
    | nil => exact seq
    | cons n rest => exact State.startNotice_seq_started n _

/-- The return from an ALARM (R159), the active place empty. -/
theorem State.returnFromAlarm_seq {t : State} {queue : List Notice} {slot1 slot2 : Option Notice}
    (seq : t.seq = ⟨queue, none, slot1, slot2, 0⟩) (a : Option Notice) (d : Nat) :
    t.returnFromAlarm.seq = Sequencer.returnedFromAlarm ⟨queue, a, slot1, slot2, d⟩ := by
  unfold State.returnFromAlarm
  rw [seq]
  cases slot2 with
  | none => exact State.returnLower_seq seq a d
  | some n =>
    cases queue with
    | nil =>
      dsimp only [Sequencer.headIsService]
      simp only [Bool.false_eq_true, and_false, if_false]
      rfl
    | cons h rest =>
      dsimp only [Sequencer.headIsService, Sequencer.returnedFromAlarm]
      simp only [decide_eq_true_eq]
      split
      · exact State.startNotice_seq_started h _
      · rfl

theorem State.dropActive_seq_of_some {n : Notice} (active : s.seq.active = some n) :
    s.dropActive.seq = { s.seq with active := none, dwellLeft := 0 } := by
  rw [State.dropActive, if_pos (by rw [active]; rfl)]
  rfl

/-- The end of the active notice makes the return at once (R158). -/
theorem State.endActive_seq {n : Notice} (active : s.seq.active = some n) :
    s.endActive.seq = if n.cls = .alarm then s.seq.returnedFromAlarm else s.seq.returned := by
  have dropped := s.dropActive_seq_of_some active
  rw [State.endActive, active]
  dsimp only
  split
  · exact State.returnFromAlarm_seq dropped s.seq.active s.seq.dwellLeft
  · exact State.returnLower_seq dropped s.seq.active s.seq.dwellLeft

/-- A notice that ends is one less shown: banners are stale (R138, R158). -/
theorem State.endActive_banners (s : State) : s.BannersShown s.endActive := by
  unfold State.endActive
  split
  case h_1 none => exact fun h => absurd rfl h
  case h_2 n active =>
    have dropped : s.BannersShown s.dropActive := by
      rw [State.dropActive, if_pos (by rw [active]; rfl)]
      exact s.bannersShown_stale _
    have stale : s.dropActive.StaleAt fun x => decide (x.kind = .banner) :=
      dropped (by rw [s.dropActive_seq_of_some active, active]; nofun)
    split
    · exact fun _ => (State.returnFromAlarm_notice _).stale _ stale
    · exact fun _ => (State.returnLower_notice _).stale _ stale

/-! ### Endings (R150, R162) -/

/-- The Notice Sequencer without the saved and queued notices that end. -/
def Sequencer.without (ends : Notice → Bool) (q : Sequencer) : Sequencer :=
  { q with
    slot1 := q.slot1.filter fun n => !ends n
    slot2 := q.slot2.filter fun n => !ends n
    queue := q.queue.filter fun n => !ends n }

theorem State.foldl_raiseDropped_notice (why : DropReason) (l : List Notice) (s : State) :
    s.NoticeStep (l.foldl (fun t n => t.raiseDropped why n) s)
    ∧ (l.foldl (fun t n => t.raiseDropped why n) s).seq = s.seq := by
  induction l generalizing s with
  | nil => exact ⟨.refl s, rfl⟩
  | cons n l ih =>
    obtain ⟨step, seq⟩ := ih (s.raiseDropped why n)
    exact ⟨(s.raiseDropped_notice why n).trans step, seq⟩

theorem State.dropSaved_seq (ends : Notice → Bool) (s : State) : (s.dropSaved ends).seq = s.seq.without ends :=
  (State.foldl_raiseDropped_notice .expired (s.seq.saved ends) _).2

theorem State.dropSaved_notice (ends : Notice → Bool) (s : State) : s.NoticeStep (s.dropSaved ends) :=
  (s.noticeStep_seq _).trans (State.foldl_raiseDropped_notice .expired (s.seq.saved ends) _).1

/-- The active notice, if any, that ends. -/
theorem State.endNotices_eq (ends : Notice → Bool) (s : State) :
    s.endNotices ends = if s.seq.active.any ends = true then (s.dropSaved ends).endActive else s.dropSaved ends := by
  have active : (s.dropSaved ends).seq.active = s.seq.active := by
    rw [State.dropSaved_seq]
    rfl
  rw [State.endNotices, active]
  cases s.seq.active with
  | none => rfl
  | some n => rfl

theorem State.endNotices_notice (ends : Notice → Bool) (s : State) : s.NoticeStep (s.endNotices ends) := by
  rw [State.endNotices_eq]
  split
  · exact (s.dropSaved_notice ends).trans (State.endActive_notice _)
  · exact s.dropSaved_notice ends

theorem State.dropSaved_banners (ends : Notice → Bool) (s : State) : s.BannersShown (s.dropSaved ends) := by
  intro differs
  rw [State.dropSaved_seq] at differs
  exact absurd rfl differs

theorem State.endNotices_banners (ends : Notice → Bool) (s : State) : s.BannersShown (s.endNotices ends) := by
  rw [State.endNotices_eq]
  split
  · exact (s.dropSaved_banners ends).trans (State.endActive_banners _) (State.endActive_notice _)
  · exact s.dropSaved_banners ends

/-- What is left once the notices named have come to their end. -/
theorem State.endNotices_seq (ends : Notice → Bool) (s : State) :
    (s.endNotices ends).seq = match s.seq.active with
      | some n => if ends n = true then
          (if n.cls = .alarm then (s.seq.without ends).returnedFromAlarm else (s.seq.without ends).returned)
        else s.seq.without ends
      | none => s.seq.without ends := by
  have seq := s.dropSaved_seq ends
  rw [State.endNotices_eq]
  cases active : s.seq.active with
  | none => exact seq
  | some n =>
    dsimp only [Option.any]
    split
    · have still : (s.dropSaved ends).seq.active = some n := by
        rw [seq]
        exact active
      rw [State.endActive_seq still, seq]
    · exact seq

/-- Where no notice held comes to its end, nothing happens. -/
theorem Sequencer.without_none {q : Sequencer} {ends : Notice → Bool} (none : ∀ n ∈ q.all, ends n = false) :
    q.without ends = q := by
  have kept (o : Option Notice) (h : ∀ n ∈ o, ends n = false) : o.filter (fun n => !ends n) = o := by
    cases o with
    | none => rfl
    | some n => simp [Option.filter, h n rfl]
  have inAll {n : Notice} (h : n ∈ q.active ∨ n ∈ q.slot1 ∨ n ∈ q.slot2 ∨ n ∈ q.queue) : ends n = false := by
    refine none n ?_
    simpa [Sequencer.all, or_assoc] using h
  rw [Sequencer.without, kept q.slot1 fun n h => inAll (.inr (.inl h)),
    kept q.slot2 fun n h => inAll (.inr (.inr (.inl h))), List.filter_eq_self.mpr fun n h => by
      rw [inAll (.inr (.inr (.inr h)))]
      rfl]

end NoticeOps

end Sys2Proof.Machine
end

section
/-!
Proofs of the statements about notices that leave their place and about the dwell (R138, R139, R144, R145, R158 to
R162).
-/
namespace Sys2Proof.Machine

/-! ### The end of an event of the Notice Sequencer (R155) -/

section NoticeEvent

variable {s t : State}

/-- After an operation of the Notice Sequencer only the level is compared (R155, R218). -/
theorem State.NoticeStep.settle (h : s.NoticeStep t) : t.settle s = t.settleLevel s := by
  have bright : t.settleBrightness s = t := State.settleBrightness_same (congrArg State.bright h.frame :)
    (congrArg State.odo h.frame :) (congrArg State.clock h.frame :)
  rw [State.settle, bright]

theorem State.settleLevel_seq (s before : State) : (s.settleLevel before).seq = s.seq :=
  (congrArg State.seq (s.settleLevel_frame before) :)

/-- A change of the level leaves NOTICE_LEVEL pending (R155). -/
theorem State.settleLevel_raised (differs : s.level ≠ t.level) :
    .noticeLevel s.level t.level ∈ (t.settleLevel s).link.operations.events := by
  rw [State.settleLevel, if_neg differs]
  exact State.raise_mem_operations _ _ rfl

/-- An operation of the Notice Sequencer as an event of its own (R155). -/
theorem State.NoticeStep.event (h : s.NoticeStep t) (shown : s.BannersShown t) :
    s.NoticeEventOnly (t.settle s) := by
  rw [h.settle]
  have seq := t.settleLevel_seq s
  have line : (t.settleLevel s).line = t.line := State.settleLevel_line s
  have level : (t.settleLevel s).level = t.level := congrArg (fun q : Sequencer => levelOf q.active) seq
  refine ⟨(congrArg PanelLine.unmarked line).trans h.unmarked, ?_, fun differs => ?_, fun differs => ?_, ?_⟩
  · exact ((h.raises.mono (by simp)).trans ((t.raises_settleLevel s).mono (by simp))).only
  · rw [level] at differs ⊢
    exact State.settleLevel_raised differs
  · rw [seq] at differs
    exact (shown differs).of_line line
  · exact (congrArg (fun v : State => { v with seq := s.seq, link := s.link, line := s.line })
      (t.settleLevel_frame s)).trans h.frame

/-- The same for a request (R8). -/
theorem State.NoticeStep.request {p : Port} {k : Byte} {b body : List Byte} (h : (s.enter p k b).NoticeStep t)
    (shown : (s.enter p k b).BannersShown t) :
    s.NoticeEventOnly ((t.settle (s.enter p k b)).answer p k .done body)
    ∧ s.Answers p k b .done body ((t.settle (s.enter p k b)).answer p k .done body) := by
  obtain ⟨unmarked, only, level, banners, frame⟩ := h.event shown
  refine ⟨⟨unmarked, fun q => ?_, fun differs => ?_, banners, ?_⟩, ?_⟩
  · rw [State.answer_events, only q, State.enter_events]
  · have raised := level differs
    exact (State.answer_events _ p .operations k .done body).symm ▸ raised
  · exact congrArg (fun v : State => { v with link := s.link }) frame
  · rw [h.settle]
    exact ((h.raises.mono (by simp)).trans ((t.raises_settleLevel _).mono (by simp)) :
      (s.enter p k b).Raises [0x06, 0x07] _).answers

end NoticeEvent

/-! ### The dwell (R138, R139) -/

/-- The next language of a mask, from the highest back to the lowest (R139). -/
theorem nextLang_eq (m : BitVec 4) (cur : Nat) :
    nextLang m cur = ((List.range 4).find? fun i => m.getLsbD i && decide (cur < i)).getD (firstLanguage m) := by
  have found : (maskLangs m).find? (fun i => decide (cur < i))
      = (List.range 4).find? fun i => m.getLsbD i && decide (cur < i) := by
    rw [maskLangs, List.find?_filter]
    exact congrArg (fun p => (List.range 4).find? p) (funext fun i => by simp)
  rw [nextLang, found, lowestLang_eq]
  cases (List.range 4).find? fun i => m.getLsbD i && decide (cur < i) <;> rfl

/-- Settles O47: the cycle completes, and the notice ends or shows its next language. -/
theorem dwellRunsOut : Obligations.DwellRunsOut := by
  intro s n on active below count next
  have cycles : min 255 (n.cycles + 1) = n.cycles + 1 := by omega
  have step : n.step = { n with cycles := n.cycles + 1, lang := next } := by
    rw [Notice.step, cycles, nextLang_eq]
  have completed : n.step.completed = true ↔ n.cls ≠ .alarm ∧ n.cycles + 1 = count * n.repeats := by
    rw [step]
    simp only [Notice.completed, Bool.and_eq_true, decide_eq_true_eq]
    exact Iff.rfl
  have expiry : s.dwellExpiry = if n.step.completed = true then s.endActive.settle s
      else { s with seq := { s.seq with active := some n.step, dwellLeft := 1000 * n.dwell } }.staleBanners := by
    rw [State.dwellExpiry, active]
  refine ⟨s.dwellExpiry, live_next on, ?_⟩
  rw [expiry]
  by_cases done_ : n.step.completed = true
  · obtain ⟨notAlarm, full⟩ := completed.mp done_
    rw [if_pos done_]
    refine ⟨s.endActive_notice.event s.endActive_banners, fun _ _ => ?_, fun h => absurd h ?_⟩
    · rw [s.endActive_notice.settle, State.settleLevel_seq, State.endActive_seq active, if_neg notAlarm]
    · rintro (alarm | short)
      · exact notAlarm alarm
      · exact short full
  · rw [if_neg done_]
    let q : Sequencer := { s.seq with active := some n.step, dwellLeft := 1000 * n.dwell }
    have same : s.level = levelOf q.active := by
      show _ = levelOf (some n.step)
      rw [State.level, active, step]
      rfl
    have event := (s.noticeStep_stale q).event (s.bannersShown_stale { s with seq := q })
    have settled : ({ s with seq := q } : State).staleBanners.settle s = ({ s with seq := q } : State).staleBanners := by
      rw [(s.noticeStep_stale q).settle, State.settleLevel]
      exact if_pos same
    rw [settled] at event
    refine ⟨event, fun notAlarm full => absurd (completed.mpr ⟨notAlarm, full⟩) done_, fun _ => ?_⟩
    rw [step]
    rfl

/-! ### Withdraw Notice and Clear Alarm (R144, R145) -/

/-- A change of the Notice Sequencer that leaves the level needs no more at the end of the event (R155). -/
theorem State.settle_same_level {s : State} {q : Sequencer} (level : levelOf q.active = s.level) :
    ({ s with seq := q } : State).settle s = { s with seq := q } := by
  rw [(s.noticeStep_seq q).settle, State.settleLevel]
  exact if_pos level.symm

/-- Withdraw Notice of a tag, by the place of the notice that has it (R144). -/
theorem withdrawBlock_tag {p : Port} {tag : Nat} (h1 : 1 ≤ tag) (small : tag < 65536) (s : State) :
    withdrawBlock p (be 2 tag) s = match s.seq.placeOf tag with
      | none => refuse s .notFound
      | some (k, n) =>
        if p = .content ∧ n.cls ≠ .information then refuse s .privilege
        else done ((s.withdraw tag k).settle s) (be 1 k ++ be 1 ((s.withdraw tag k).settle s).level) := by
  have read := u16_be_two_end small
  have form : ¬ ¬ ((be 2 tag).length = 2 ∧ 1 ≤ u16 (be 2 tag) 0) := by
    rw [read]
    exact not_not_intro ⟨be_length 2 tag, h1⟩
  rw [withdrawBlock, if_neg form, read] <;> cases s.seq.placeOf tag <;> rfl

theorem Option.filter_toList_none {o : Option Notice} {f : Notice → Bool} (h : ∀ m ∈ o.toList, f m = false) :
    o.filter f = none := by
  cases o with
  | none => rfl
  | some n => simp [Option.filter, h n (by simp)]

theorem Option.filter_some_pos {n : Notice} {f : Notice → Bool} (h : f n = true) : (some n).filter f = some n := by
  simp [Option.filter, h]

/-- The place of a tag is the first place, in the order of R144, that holds a notice that has it. -/
theorem Sequencer.placeOf_eq (q : Sequencer) (tag : Nat) :
    q.placeOf tag = match q.active.filter (Notice.hasTag tag), q.slot1.filter (Notice.hasTag tag),
        q.slot2.filter (Notice.hasTag tag), q.queue.find? (Notice.hasTag tag) with
      | some n, _, _, _ => some (0, n)
      | none, some n, _, _ => some (1, n)
      | none, none, some n, _ => some (2, n)
      | none, none, none, some n => some (3, n)
      | none, none, none, none => none := by
  rw [Sequencer.placeOf]
  cases q.active.filter (Notice.hasTag tag) <;> cases q.slot1.filter (Notice.hasTag tag)
    <;> cases q.slot2.filter (Notice.hasTag tag) <;> cases q.queue.find? (Notice.hasTag tag) <;> rfl

theorem Option.mem_of_filter_some {o : Option Notice} {f : Notice → Bool} {n : Notice} (h : o.filter f = some n) :
    n ∈ o.toList ∧ f n = true := by
  obtain ⟨rfl, holds⟩ := Option.filter_eq_some_iff.mp h
  exact ⟨List.mem_singleton_self n, holds⟩

/-- The place of a tag holds a notice that has it (R144). -/
theorem Sequencer.placeOf_mem {q : Sequencer} {tag : Nat} {x : Nat × Notice} (h : q.placeOf tag = some x) :
    x.2 ∈ q.all ∧ x.2.hasTag tag = true := by
  rw [Sequencer.placeOf_eq] at h
  simp only [Sequencer.all, List.mem_append]
  split at h
  case h_1 n found =>
    cases h
    obtain ⟨mem, has⟩ := Option.mem_of_filter_some found
    exact ⟨.inl (.inl (.inl mem)), has⟩
  case h_2 n _ found =>
    cases h
    obtain ⟨mem, has⟩ := Option.mem_of_filter_some found
    exact ⟨.inl (.inl (.inr mem)), has⟩
  case h_3 n _ _ found =>
    cases h
    obtain ⟨mem, has⟩ := Option.mem_of_filter_some found
    exact ⟨.inl (.inr mem), has⟩
  case h_4 n _ _ _ found =>
    cases h
    exact ⟨.inr (List.mem_of_find?_eq_some found), List.find?_some found⟩
  case h_5 => exact absurd h nofun

/-- A notice that has a tag gives the tag a place (R144). -/
theorem Sequencer.placeOf_of_mem {q : Sequencer} {tag : Nat} {n : Notice} (held : n ∈ q.all)
    (has : n.hasTag tag = true) : ∃ x, q.placeOf tag = some x := by
  rw [Sequencer.placeOf_eq]
  split
  case h_5 active slot1 slot2 queue =>
    simp only [Option.filter_eq_none_iff, List.find?_eq_none] at active slot1 slot2 queue
    simp only [Sequencer.all, List.mem_append, Option.mem_toList] at held
    rcases held with ((held | held) | held) | held
    · exact absurd has (active n held)
    · exact absurd has (slot1 n held)
    · exact absurd has (slot2 n held)
    · exact absurd has (queue n held)
  all_goals exact ⟨_, rfl⟩

theorem eraseP_eq_erase_of_find?_notice {f : Notice → Bool} {l : List Notice} {n : Notice} (h : l.find? f = some n) :
    l.eraseP f = l.erase n := by
  induction l with
  | nil => exact absurd h nofun
  | cons m l ih =>
    rw [List.find?_cons] at h
    cases holds : f m with
    | true =>
      rw [holds] at h
      cases h
      rw [List.eraseP_cons_of_pos holds, List.erase_cons_head]
    | false =>
      rw [holds] at h
      have apart : m ≠ n := fun same => by
        have has := List.find?_some h
        rw [← same, holds] at has
        exact absurd has nofun
      rw [List.eraseP_cons_of_neg (by simp [holds]), List.erase_cons_tail (by simpa using apart), ih h]

/-! ### The end of a time limit (R162) -/

/-- Whether a notice is the one that a command names (7.1). -/
def Notice.isNamed (m : Notice) : NoticeRef → Bool
  | .posted tag => decide (m.kind = none) && decide (m.tag = tag)
  | .journey k stop => decide (m.kind = some k) && decide (m.stop = some stop)

theorem Notice.hasTag_eq (tag : Nat) (m : Notice) : m.hasTag tag = (decide (m.kind = none) && decide (m.tag = tag)) := by
  rw [Notice.hasTag]
  cases m.kind <;> rfl

theorem Notice.limitOf_limit {m : Notice} {ms : Nat} (limit : m.validity = .limit ms) (ref : NoticeRef) :
    m.limitOf ref = m.isNamed ref := by
  cases ref with
  | posted tag =>
    simp only [Notice.limitOf, limit, Bool.true_and, Notice.hasTag_eq]
    rfl
  | journey k stop =>
    simp only [Notice.limitOf, limit, Bool.true_and]
    rfl

theorem Notice.limitOf_false {m : Notice} {ref : NoticeRef} (other : m.isNamed ref = false) : m.limitOf ref = false := by
  cases limit : m.validity with
  | limit ms => rw [Notice.limitOf_limit limit, other]
  | unlimited => simp only [Notice.limitOf, limit, Bool.false_and]
  | stage st => simp only [Notice.limitOf, limit, Bool.false_and]

/-- One saved or queued notice, and no other, comes to its end (R162). -/
theorem State.endNotices_single {s : State} {ends : Notice → Bool} {n : Notice} (saved : s.seq.saved ends = [n])
    (active : ∀ m ∈ s.seq.active.toList, ends m = false) :
    ((s.endNotices ends).settle s).seq = s.seq.without ends
    ∧ .noticeDropped n.cls n.tag n.kind n.stop .expired
        ∈ ((s.endNotices ends).settle s).link.operations.events := by
  have stays : ¬ s.seq.active.any ends = true := by
    cases held : s.seq.active with
    | none => exact nofun
    | some m =>
      rw [held] at active
      have off : ends m = false := active m (List.mem_singleton_self m)
      exact fun h => by rw [show (some m).any ends = ends m from rfl, off] at h; exact absurd h nofun
  have left : s.endNotices ends = s.dropSaved ends := by rw [State.endNotices_eq, if_neg stays]
  have dropped : s.dropSaved ends = State.raiseDropped .expired n { s with seq := s.seq.without ends } := by
    rw [State.dropSaved, saved]
    rfl
  refine ⟨?_, ?_⟩
  · rw [(s.endNotices_notice ends).settle, State.settleLevel_seq, left, State.dropSaved_seq]
  · rw [(s.endNotices_notice ends).settle, left, dropped]
    exact (State.raises_settleLevel _ s).operations rfl (State.raise_mem_operations _ _ rfl)

/-- Settles O46: by the place that holds the notice, in the order of R144. -/
theorem noticesLeaveTheirPlace : Obligations.NoticesLeaveTheirPlace := by
  refine ⟨fun s p tag h1 small takes => ?_, fun s alarm takes => ?_, fun s ref n ms on => ?_⟩
  · intro tagged withdrawn
    have tagged_ : Notice.hasTag tag = tagged := funext (Notice.hasTag_eq tag)
    let u := s.enter p 0x51 (be 2 tag)
    have block := withdrawBlock_tag (p := p) h1 small u
    have place : u.seq.placeOf tag = s.seq.placeOf tag := rfl
    rw [place] at block
    have off {o : Option Notice} (h : ∀ m ∈ o.toList, tagged m = false) : o.filter (Notice.hasTag tag) = none :=
      Option.filter_toList_none fun m hm => tagged_ ▸ h m hm
    have outside {k : Nat} {n : Notice} {q : Sequencer} (allowed : p = .content → n.cls = .information)
        (found : s.seq.placeOf tag = some (k, n)) (level : levelOf q.active = u.level)
        (moved : u.withdraw tag k = { u with seq := q }) :
        exec (.withdrawNotice p (be 2 tag)) s = .next (withdrawn q k) := by
      rw [found] at block
      dsimp only at block
      rw [if_neg fun h => h.2 (allowed h.1), moved, State.settle_same_level level] at block
      have same : State.level { u with seq := q } = s.level := level
      rw [same] at block
      exact congrArg Host.Outcome.next (serve_reply takes.1 takes.2 block)
    refine ⟨fun absent => ?_, fun n isTagged => ⟨fun content other only held => ?_, fun allowed => ⟨fun active => ?_,
      fun before slot1 => ?_, fun before slot2 => ?_, fun before queued => ?_⟩⟩⟩
    · have none : s.seq.placeOf tag = none := by
        cases found : s.seq.placeOf tag with
        | none => rfl
        | some x =>
          obtain ⟨mem, has⟩ := Sequencer.placeOf_mem found
          rw [tagged_, absent _ mem] at has
          exact absurd has nofun
      rw [none] at block
      exact congrArg Host.Outcome.next (serve_refuse takes block)
    · obtain ⟨x, found⟩ := Sequencer.placeOf_of_mem held (tagged_ ▸ isTagged)
      obtain ⟨mem, has⟩ := Sequencer.placeOf_mem found
      have same : x.2 = n := only x.2 mem (tagged_ ▸ has)
      rw [found] at block
      dsimp only at block
      rw [same, if_pos ⟨content, other⟩] at block
      exact congrArg Host.Outcome.next (serve_refuse takes block)
    · have found : s.seq.placeOf tag = some (0, n) := by
        rw [Sequencer.placeOf, active, tagged_, Option.filter_some_pos isTagged]
        rfl
      rw [found] at block
      dsimp only at block
      rw [if_neg fun h => h.2 (allowed h.1)] at block
      have step := u.endActive_notice
      obtain ⟨event, answers⟩ := step.request u.endActive_banners (s := s) (p := p) (k := 0x51) (b := be 2 tag)
        (body := be 1 0 ++ be 1 (u.endActive.settle u).level)
      refine ⟨_, congrArg Host.Outcome.next (serve_reply takes.1 takes.2 block), ?_, event, answers⟩
      show (u.endActive.settle u).seq = _
      rw [step.settle, State.settleLevel_seq, State.endActive_seq (s := u) active]
      rfl
    · have here : s.seq.slot1.filter (Notice.hasTag tag) = some n := by
        rw [slot1, tagged_, Option.filter_some_pos isTagged]
      exact outside allowed (by rw [Sequencer.placeOf_eq, off fun m h => before m (Option.mem_toList.mp h), here]) rfl rfl
    · have here : s.seq.slot2.filter (Notice.hasTag tag) = some n := by
        rw [slot2, tagged_, Option.filter_some_pos isTagged]
      exact outside allowed (by
        rw [Sequencer.placeOf_eq, off fun m h => before m (List.mem_append_left _ h),
          off fun m h => before m (List.mem_append_right _ h), here]) rfl rfl
    · have here : s.seq.queue.find? (Notice.hasTag tag) = some n := tagged_ ▸ queued
      refine outside allowed ?_ rfl ?_
      · rw [Sequencer.placeOf_eq, off fun m h => before m (List.mem_append_left _ (List.mem_append_left _ h)),
          off fun m h => before m (List.mem_append_left _ (List.mem_append_right _ h)),
          off fun m h => before m (List.mem_append_right _ h), here]
      · exact congrArg (fun l => { u with seq := { u.seq with queue := l } }) (eraseP_eq_erase_of_find?_notice here)
  · have block : emptyPayload [] clearAlarmBlock (s.enter .operations 0x52 [])
        = done ((s.enter .operations 0x52 []).endActive.settle (s.enter .operations 0x52 []))
          ((s.enter .operations 0x52 []).endActive.settle (s.enter .operations 0x52 [])).clearAlarmReply :=
      if_neg (not_not_intro alarm)
    obtain ⟨a, active, cls⟩ : ∃ a, s.seq.active = some a ∧ a.cls = .alarm := by
      rw [State.level] at alarm
      cases active : s.seq.active with
      | none =>
        rw [active] at alarm
        exact absurd alarm nofun
      | some a =>
        rw [active, levelOf_some] at alarm
        refine ⟨a, rfl, ?_⟩
        by_contra other
        rw [if_neg other] at alarm
        split at alarm <;> exact absurd alarm nofun
    have step := State.endActive_notice (s.enter .operations 0x52 [])
    obtain ⟨event, answers⟩ := step.request (State.endActive_banners _) (s := s) (p := .operations) (k := 0x52)
      (b := []) (body := ((s.enter .operations 0x52 []).endActive.settle (s.enter .operations 0x52 [])).clearAlarmReply)
    refine ⟨_, congrArg Host.Outcome.next (serve_reply takes.1 takes.2 block), ?_, event, answers⟩
    show (State.settle _ _).seq = _
    rw [step.settle, State.settleLevel_seq, State.endActive_seq (s := s.enter .operations 0x52 []) active, if_pos cls]
    rfl
  · intro named alone isNamed limit q dropped
    have same : (fun m : Notice => m.isNamed ref) = named := by
      funext m
      cases ref <;> rfl
    have ends : n.limitOf ref = true := by rw [Notice.limitOf_limit limit, ← isNamed, ← same]
    have stays {others : List Notice} (h : alone others) {m : Notice} (held : m ∈ others) : m.limitOf ref = false :=
      Notice.limitOf_false ((congrFun same m).trans (h m held))
    have event := (s.endNotices_notice (Notice.limitOf ref)).event (s.endNotices_banners (Notice.limitOf ref))
    have unlisted {l : List Notice} (h : ∀ m ∈ l, m.limitOf ref = false) : l.filter (Notice.limitOf ref) = [] :=
      List.filter_eq_nil_iff.mpr fun m hm => by rw [h m hm]; exact Bool.false_ne_true
    have kept {l : List Notice} (h : ∀ m ∈ l, m.limitOf ref = false) : l.filter (fun m => !m.limitOf ref) = l :=
      List.filter_eq_self.mpr fun m hm => by rw [h m hm]; rfl
    have keptOpt {o : Option Notice} (h : ∀ m ∈ o.toList, m.limitOf ref = false) :
        o.filter (fun m => !m.limitOf ref) = o := by
      cases o with
      | none => rfl
      | some m => simp [Option.filter, h m (List.mem_singleton_self m)]
    have single (saved : s.seq.saved (Notice.limitOf ref) = [n])
        (active : ∀ m ∈ s.seq.active.toList, m.limitOf ref = false) (left : Sequencer)
        (without : s.seq.without (Notice.limitOf ref) = left) :
        ∃ t, exec (.noticeValidityExpiry ref) s = .next t ∧ dropped t left := by
      obtain ⟨seq, raised⟩ := State.endNotices_single saved active
      exact ⟨_, live_next on, seq.trans without, event, raised⟩
    refine ⟨fun front back queue others => ?_, fun slot1 others => ?_, fun slot2 others => ?_,
      fun active others => ?_⟩
    all_goals have stay {m : Notice} := stays (m := m) others
    all_goals simp only [List.mem_append] at stay
    · have queue_ : s.seq.queue = front ++ n :: back := queue
      refine single ?_ (fun m h => stay (.inl (.inl (.inl (.inl h))))) _ ?_
      · rw [Sequencer.saved, queue_, List.filter_append, List.filter_append, List.filter_append,
          List.filter_cons_of_pos ends, unlisted fun m h => stay (.inl (.inl (.inl (.inr h)))),
          unlisted fun m h => stay (.inl (.inl (.inr h))), unlisted fun m h => stay (.inl (.inr h)),
          unlisted fun m h => stay (.inr h)]
        rfl
      · rw [Sequencer.without, queue_, List.filter_append, List.filter_cons_of_neg (by simp [ends]),
          kept fun m h => stay (.inl (.inr h)), kept fun m h => stay (.inr h),
          keptOpt fun m h => stay (.inl (.inl (.inl (.inr h)))), keptOpt fun m h => stay (.inl (.inl (.inr h)))]
    · have slot1_ : s.seq.slot1 = some n := slot1
      refine single ?_ (fun m h => stay (.inl (.inl h))) _ ?_
      · rw [Sequencer.saved, slot1_, List.filter_append, List.filter_append, Option.toList_some,
          List.filter_cons_of_pos ends, unlisted fun m h => stay (.inl (.inr h)), unlisted fun m h => stay (.inr h)]
        rfl
      · rw [Sequencer.without, slot1_, show (some n).filter (fun m => !m.limitOf ref) = none by simp [Option.filter, ends],
          keptOpt fun m h => stay (.inl (.inr h)), kept fun m h => stay (.inr h)]
    · have slot2_ : s.seq.slot2 = some n := slot2
      refine single ?_ (fun m h => stay (.inl (.inl h))) _ ?_
      · rw [Sequencer.saved, slot2_, List.filter_append, List.filter_append, Option.toList_some,
          List.filter_cons_of_pos ends, unlisted fun m h => stay (.inl (.inr h)), unlisted fun m h => stay (.inr h)]
        rfl
      · rw [Sequencer.without, slot2_, show (some n).filter (fun m => !m.limitOf ref) = none by simp [Option.filter, ends],
          keptOpt fun m h => stay (.inl (.inr h)), kept fun m h => stay (.inr h)]
    · have active_ : s.seq.active = some n := active
      refine ⟨_, live_next on, ?_, event⟩
      have unmoved : s.seq.without (Notice.limitOf ref) = s.seq := by
        rw [Sequencer.without, keptOpt fun m h => stay (.inl (.inl h)), keptOpt fun m h => stay (.inl (.inr h)),
          kept fun m h => stay (.inr h)]
      rw [State.validityExpiry, (s.endNotices_notice _).settle, State.settleLevel_seq, State.endNotices_seq, active_]
      dsimp only
      rw [if_pos ends, unmoved]

end Sys2Proof.Machine
end

section
/-!
Proofs of the statement about Post Notice (R142, R143, R152 to R154, R156).
-/
namespace Sys2Proof.Machine

/-! ### The queue (R152 to R154) -/

/-- A notice joins after those of its rank and above (R152). -/
theorem joinQueue_eq (n : Notice) (l : List Notice) :
    joinQueue n l = l.takeWhile (fun m => decide (m.cls.rank ≤ n.cls.rank))
      ++ n :: l.dropWhile fun m => decide (m.cls.rank ≤ n.cls.rank) := by
  induction l with
  | nil => rfl
  | cons x xs ih =>
    rw [joinQueue]
    by_cases below : n.cls.rank < x.cls.rank
    · have above : decide (x.cls.rank ≤ n.cls.rank) = false := decide_eq_false (Nat.not_le.mpr below)
      rw [if_pos below, List.takeWhile_cons, List.dropWhile_cons, above]
      rfl
    · have above : decide (x.cls.rank ≤ n.cls.rank) = true := decide_eq_true (Nat.not_lt.mp below)
      rw [if_neg below, List.takeWhile_cons, List.dropWhile_cons, above, ih]
      rfl

/-- Whether a class is of the first rank (R152). -/
def Notice.isUpper (m : Notice) : Bool := decide (m.cls = .service) || decide (m.cls = .alarm)

theorem joinQueue_service {n : Notice} (service : n.cls = .service) (l : List Notice) :
    joinQueue n l = l.takeWhile Notice.isUpper ++ n :: l.dropWhile Notice.isUpper := by
  have same : (fun m : Notice => decide (m.cls.rank ≤ n.cls.rank)) = Notice.isUpper := by
    funext m
    rw [service, Notice.isUpper]
    cases m.cls <;> rfl
  rw [joinQueue_eq, same]

theorem joinQueue_journey {n : Notice} (journey : n.cls = .journey) (l : List Notice) :
    joinQueue n l = l.takeWhile (fun m => decide (m.cls ≠ .information))
      ++ n :: l.dropWhile fun m => decide (m.cls ≠ .information) := by
  have same : (fun m : Notice => decide (m.cls.rank ≤ n.cls.rank)) = fun m => decide (m.cls ≠ .information) := by
    funext m
    rw [journey]
    cases m.cls <;> rfl
  rw [joinQueue_eq, same]

theorem joinQueue_information {n : Notice} (information : n.cls = .information) (l : List Notice) :
    joinQueue n l = l ++ [n] := by
  have all : ∀ m ∈ l, decide (m.cls.rank ≤ n.cls.rank) = true := fun m _ => by
    rw [information]
    cases m.cls <;> rfl
  rw [joinQueue_eq, List.takeWhile_eq_self_iff.mpr all, List.dropWhile_eq_nil_iff.mpr all]

theorem lowerCount_eq (l : List Notice) :
    lowerCount l = (l.filter fun m => decide (m.cls ≠ .service)).length := List.countP_eq_length_filter

theorem Sequencer.full_eq (q : Sequencer) : q.full = queueFull q.queue := by
  rw [Sequencer.full, queueFull, lowerCount_eq]

/-- The victim gives way, with NOTICE_DROPPED (R153, R154). -/
theorem State.displace_eq (s : State) :
    s.displace = s.seq.victim.map fun v =>
      State.raiseDropped .displaced v { s with seq := { s.seq with queue := s.seq.queue.erase v } } := by
  have information : (fun m : Notice => decide (m.cls = .information)) = fun m => m.isClass .information := rfl
  have journey : (fun m : Notice => decide (m.cls = .journey)) = fun m => m.isClass .journey := rfl
  rw [State.displace, Sequencer.victim, information, journey]
  cases one : s.seq.queue.find? fun m => m.isClass .information with
  | some v =>
    dsimp only [Option.map]
    rw [eraseP_eq_erase_of_find?_notice one]
  | none =>
    dsimp only
    cases two : s.seq.queue.find? fun m => m.isClass .journey with
    | some v =>
      dsimp only [Option.map]
      rw [eraseP_eq_erase_of_find?_notice two]
    | none => rfl

theorem Sequencer.victim_mem {q : Sequencer} {v : Notice} (h : q.victim = some v) : v ∈ q.queue ∧ v.cls ≠ .service := by
  rw [Sequencer.victim] at h
  split at h
  case h_1 m found =>
    cases h
    have cls : v.cls = .information := by simpa using List.find?_some found
    exact ⟨List.mem_of_find?_eq_some found, by rw [cls]; nofun⟩
  case h_2 =>
    have cls : v.cls = .journey := by simpa using List.find?_some h
    exact ⟨List.mem_of_find?_eq_some h, by rw [cls]; nofun⟩

/-- The Notice Sequencer once a notice has gone to the queue (R152 to R154). -/
def Sequencer.enqueued (n : Notice) (q : Sequencer) : Sequencer :=
  if mustDisplace n.cls q.queue then
    match q.victim with
    | some v => { q with queue := joinQueue n (q.queue.erase v) }
    | none => q
  else { q with queue := joinQueue n q.queue }

section Enqueue

variable {s : State} {n v : Notice}

theorem State.enqueue_free (free : mustDisplace n.cls s.seq.queue = false) :
    s.enqueue n = { s with seq := { s.seq with queue := joinQueue n s.seq.queue } } := by
  rw [State.enqueue, free]
  exact if_neg Bool.false_ne_true

theorem State.enqueue_victim (must : mustDisplace n.cls s.seq.queue = true) (victim : s.seq.victim = some v) :
    s.enqueue n = { State.raiseDropped .displaced v { s with seq := { s.seq with queue := s.seq.queue.erase v } } with
      seq := { s.seq with queue := joinQueue n (s.seq.queue.erase v) } } := by
  rw [State.enqueue, if_pos must, State.displace_eq, victim]
  rfl

theorem State.enqueue_dropped (must : mustDisplace n.cls s.seq.queue = true) (victim : s.seq.victim = none) :
    s.enqueue n = s.raiseDropped .displaced n := by
  rw [State.enqueue, if_pos must, State.displace_eq, victim]
  rfl

theorem State.enqueue_seq (n : Notice) (s : State) : (s.enqueue n).seq = s.seq.enqueued n := by
  rw [Sequencer.enqueued]
  cases must : mustDisplace n.cls s.seq.queue with
  | false => rw [State.enqueue_free must]; rfl
  | true =>
    cases victim : s.seq.victim with
    | some v => rw [State.enqueue_victim must victim]; rfl
    | none => rw [State.enqueue_dropped must victim]; rfl

theorem State.enqueue_notice (n : Notice) (s : State) : s.NoticeStep (s.enqueue n) := by
  cases must : mustDisplace n.cls s.seq.queue with
  | false =>
    rw [State.enqueue_free must]
    exact s.noticeStep_seq _
  | true =>
    cases victim : s.seq.victim with
    | some v =>
      rw [State.enqueue_victim must victim]
      exact ((s.noticeStep_seq _).trans (State.raiseDropped_notice _ _ _)).trans (State.noticeStep_seq _ _)
    | none =>
      rw [State.enqueue_dropped must victim]
      exact s.raiseDropped_notice _ _

theorem Sequencer.enqueued_active (n : Notice) (q : Sequencer) : (q.enqueued n).active = q.active := by
  unfold Sequencer.enqueued
  split
  · split <;> rfl
  · rfl

theorem State.enqueue_banners (n : Notice) (s : State) : s.BannersShown (s.enqueue n) := by
  intro differs
  rw [s.enqueue_seq n, Sequencer.enqueued_active] at differs
  exact absurd rfl differs

end Enqueue

/-! ### Placing a notice that arrives (R156) -/

section Place

variable {s : State} {n a : Notice}

theorem State.place_idle (idle : s.seq.active = none) : s.place n = s.startNotice n := by
  rw [State.place, idle]

theorem State.place_alarm (active : s.seq.active = some a) (alarm : n.cls = .alarm) :
    s.place n = if a.cls = .alarm then (s.raiseDropped .replaced a).startNotice n
      else State.startNotice n { s with seq := { s.seq with slot2 := some a } } := by
  rw [State.place, active]
  dsimp only
  rw [alarm]

theorem State.place_service (active : s.seq.active = some a) (service : n.cls = .service) :
    s.place n = if s.level = 0 then State.startNotice n { s with seq := { s.seq with slot1 := some a } }
      else s.enqueue n := by
  rw [State.place, active]
  dsimp only
  rw [service]

theorem State.place_lower (active : s.seq.active = some a) (notAlarm : n.cls ≠ .alarm) (notService : n.cls ≠ .service) :
    s.place n = s.enqueue n := by
  rw [State.place, active]
  dsimp only
  cases cls : n.cls with
  | alarm => exact absurd cls notAlarm
  | service => exact absurd cls notService
  | journey => rfl
  | information => rfl

theorem State.startNotice_banners (n : Notice) (s t : State) : t.BannersShown (s.startNotice n) :=
  t.bannersShown_stale _

/-- Placing a notice is an operation of the Notice Sequencer that shows its banners. -/
theorem State.place_notice (n : Notice) (s : State) : s.NoticeStep (s.place n) ∧ s.BannersShown (s.place n) := by
  cases active : s.seq.active with
  | none =>
    rw [State.place_idle active]
    exact ⟨s.startNotice_step n, s.startNotice_banners n s⟩
  | some a =>
    cases cls : n.cls with
    | alarm =>
      rw [State.place_alarm active cls]
      split
      · exact ⟨(s.raiseDropped_notice _ _).trans (State.startNotice_step n _), State.startNotice_banners n _ s⟩
      · exact ⟨(s.noticeStep_seq _).trans (State.startNotice_step n _), State.startNotice_banners n _ s⟩
    | service =>
      rw [State.place_service active cls]
      split
      · exact ⟨(s.noticeStep_seq _).trans (State.startNotice_step n _), State.startNotice_banners n _ s⟩
      · exact ⟨s.enqueue_notice n, s.enqueue_banners n⟩
    | journey =>
      rw [State.place_lower active (by rw [cls]; nofun) (by rw [cls]; nofun)]
      exact ⟨s.enqueue_notice n, s.enqueue_banners n⟩
    | information =>
      rw [State.place_lower active (by rw [cls]; nofun) (by rw [cls]; nofun)]
      exact ⟨s.enqueue_notice n, s.enqueue_banners n⟩

/-- A JOURNEY notice that arrives (R153, R156). -/
theorem State.place_journey (journey : n.cls = .journey) (s : State) : (s.place n).seq = s.seq.arrive n := by
  rw [Sequencer.arrive]
  cases active : s.seq.active with
  | none =>
    rw [State.place_idle active, State.startNotice_seq_started]
    exact (if_pos rfl).symm
  | some a =>
    rw [State.place_lower active (by rw [journey]; nofun) (by rw [journey]; nofun), State.enqueue_seq,
      Sequencer.enqueued, journey, mustDisplace, ← Sequencer.full_eq]
    simp only [reduceCtorEq, if_false, joinQueue_journey journey]
    cases s.seq.full with
    | false => simp only [Bool.false_eq_true, if_false, if_true, active]
    | true =>
      cases s.seq.victim <;> simp only [Bool.true_eq_false, if_false, if_true, active]

end Place

/-! ### Post Notice (R142, R143) -/

section Post

theorem Item.encode_length (i : Item) : i.encode.length = 3 := by cases i <;> rfl

theorem flatMap_encode_length (items : List Item) : (items.flatMap Item.encode).length = 3 * items.length := by
  induction items with
  | nil => rfl
  | cons i items ih => rw [List.flatMap_cons, List.length_append, ih, i.encode_length, List.length_cons]; omega

/-- An item's code and value are read back (R140). -/
theorem Item.decode_encode {i : Item} (range : i.InRange) (rest : List Byte) :
    Item.decode (u8 (i.encode ++ rest) 0) (u16 (i.encode ++ rest) 1) = some i := by
  have read {c v : Nat} (hc : c < 256) (hv : v < 65536) :
      Item.decode (u8 (be 1 c ++ be 2 v ++ rest) 0) (u16 (be 1 c ++ be 2 v ++ rest) 1) = Item.decode c v := by
    rw [List.append_assoc, u8_be_one _ _ hc, show (1 : Nat) = 1 + 0 from rfl, u16_be_one_skip, u16_be_two _ _ hv]
  cases i with
  | phrase n =>
    have h : n < 1024 := range
    rw [Item.encode, read (by decide) (by omega)]
    simp [Item.decode, h]
  | stopName n =>
    have h : n < 48 := range
    rw [Item.encode, read (by decide) (by omega)]
    simp [Item.decode, h]
  | minutes n =>
    have h : n < 1000 := range
    rw [Item.encode, read (by decide) (by omega)]
    simp [Item.decode, h]
  | coach n =>
    have h : 1 ≤ n ∧ n ≤ 99 := range
    rw [Item.encode, read (by decide) (by omega)]
    simp [Item.decode, h]
  | platform n =>
    have h : n < 48 := range
    rw [Item.encode, read (by decide) (by omega)]
    simp [Item.decode, h]
  | doorSide d =>
    have h : d.code < 3 := Nat.lt_succ_of_le d.code_le_two
    rw [Item.encode, read (by decide) (by omega)]
    simp [Item.decode, h, DoorSide.ofCode_code]
  | doorSideOf n =>
    have h : n < 48 := range
    rw [Item.encode, read (by decide) (by omega)]
    have high : ¬ 0x100 + n < 3 := by omega
    simp [Item.decode, high]
    omega
  | destination po =>
    have h : po.code < 3 := Nat.lt_succ_of_le po.code_le_two
    rw [Item.encode, read (by decide) (by omega)]
    simp [Item.decode, h]

/-- A Post Notice payload (R142). -/
def postPayload (cls : NoticeClass) (tag reps dwell mask expiry : Nat) (items : List Item) : List Byte :=
  be 1 cls.code ++ be 2 tag ++ be 1 reps ++ be 1 dwell ++ be 1 mask ++ be 2 expiry
    ++ be 1 items.length ++ items.flatMap Item.encode

variable {cls : NoticeClass} {tag reps dwell mask expiry : Nat} {items : List Item}

theorem postPayload_item {i : Nat} (hi : i < items.length) (range : items[i].InRange) :
    postedItem (postPayload cls tag reps dwell mask expiry items) i = some items[i] := by
  have whole : items = items.take i ++ items[i] :: items.drop (i + 1) := by
    rw [← List.drop_eq_getElem_cons hi, List.take_append_drop]
  have bytes : items.flatMap Item.encode
      = (items.take i).flatMap Item.encode ++ (items[i].encode ++ (items.drop (i + 1)).flatMap Item.encode) := by
    rw [← List.flatMap_cons, ← List.flatMap_append, ← whole]
  let front := be 1 cls.code ++ be 2 tag ++ be 1 reps ++ be 1 dwell ++ be 1 mask ++ be 2 expiry
    ++ be 1 items.length ++ (items.take i).flatMap Item.encode
  have size : front.length = itemAt i := by
    simp only [front, List.length_append, be_length, flatMap_encode_length, List.length_take,
      Nat.min_eq_left hi.le, itemAt]
  have split : postPayload cls tag reps dwell mask expiry items
      = front ++ (items[i].encode ++ (items.drop (i + 1)).flatMap Item.encode) := by
    rw [postPayload, bytes]
    simp only [front, List.append_assoc]
  rw [postedItem, split, u16_skip size, show itemAt i = itemAt i + 0 from rfl, u8_skip size]
  exact Item.decode_encode range _

/-- The fields of a Post Notice are read back (R142). -/
theorem postPayload_reads (htag : tag < 65536) (hreps : reps ≤ 3) (hdwell : dwell < 256) (hmask : mask < 16)
    (hexpiry : expiry ≤ 3600) (few : items.length ≤ 6) :
    let b := postPayload cls tag reps dwell mask expiry items
    b.length = 9 + 3 * items.length ∧ u8 b 0 = cls.code ∧ u16 b 1 = tag ∧ u8 b 3 = reps ∧ u8 b 4 = dwell
    ∧ u8 b 5 = mask ∧ u16 b 6 = expiry ∧ itemCount b = items.length := by
  intro b
  have code : cls.code < 256 := by cases cls <;> decide
  refine ⟨?_, ?_, ?_, ?_, ?_, ?_, ?_, ?_⟩
  · simp only [b, postPayload, List.length_append, be_length, flatMap_encode_length]
  all_goals simp only [itemCount, b, postPayload, List.append_assoc, u8_be_one_skip, u8_be_two_skip, u16_be_one_skip,
    u16_be_two_skip, u8_be_one _ _ code, u16_be_two _ _ htag, u8_be_one _ _ (by omega : reps < 256),
    u8_be_one _ _ hdwell, u8_be_one _ _ (by omega : mask < 256), u16_be_two _ _ (by omega : expiry < 65536),
    u8_be_one _ _ (by omega : items.length < 256)]

/-- A Post Notice in its coding is well formed (R142). -/
theorem postOk_payload (notJourney : cls ≠ .journey) (h1 : 1 ≤ tag) (htag : tag < 65536) (h1r : 1 ≤ reps)
    (hreps : reps ≤ 3) (hdwell : dwell < 256) (hmask : mask < 16) (hexpiry : expiry ≤ 3600)
    (alarm : cls = .alarm → expiry = 0) (some_ : 1 ≤ items.length) (few : items.length ≤ 6)
    (range : ∀ i ∈ items, i.InRange) : postOk (postPayload cls tag reps dwell mask expiry items) = true := by
  obtain ⟨length, code, tagRead, repsRead, -, maskRead, expiryRead, count⟩ :=
    postPayload_reads (cls := cls) (tag := tag) (reps := reps) (dwell := dwell) (mask := mask) (expiry := expiry)
      (items := items) htag hreps hdwell hmask hexpiry few
  have each : ∀ i < items.length, (postedItem (postPayload cls tag reps dwell mask expiry items) i).isSome = true := by
    intro i hi
    rw [postPayload_item hi (range _ (List.getElem_mem hi))]
    rfl
  have known : cls.code = 0 ∨ cls.code = 1 ∨ cls.code = 3 := by
    cases cls with
    | alarm => exact .inl rfl
    | service => exact .inr (.inl rfl)
    | journey => exact absurd rfl notJourney
    | information => exact .inr (.inr rfl)
  have unlimited : cls.code ≠ 0 ∨ expiry = 0 := by
    cases cls with
    | alarm => exact .inr (alarm rfl)
    | service => exact .inl nofun
    | journey => exact .inl nofun
    | information => exact .inl nofun
  simp only [postOk, length, code, tagRead, repsRead, maskRead, expiryRead, count, Bool.and_eq_true, Bool.or_eq_true,
    decide_eq_true_eq, List.all_eq_true, List.mem_range]
  exact ⟨⟨⟨⟨⟨⟨⟨⟨⟨⟨⟨by omega, trivial⟩, or_assoc.mpr known⟩, h1⟩, h1r⟩, hreps⟩, hmask⟩, hexpiry⟩, some_⟩, few⟩, each⟩, unlimited⟩

/-- The notice that a Post Notice posts (R142, R143). -/
theorem postedNotice_payload (htag : tag < 65536) (hreps : reps ≤ 3) (hdwell : dwell < 256) (hmask : mask < 16)
    (hexpiry : expiry ≤ 3600) (few : items.length ≤ 6) (range : ∀ i ∈ items, i.InRange) :
    postedNotice (postPayload cls tag reps dwell mask expiry items)
      = ⟨cls, tag, none, none, items, reps, max 3 (min 30 dwell), if mask = 0 then 0xF else BitVec.ofNat 4 mask,
        if expiry = 0 then .unlimited else .limit (1000 * expiry), 0, 0⟩ := by
  obtain ⟨-, code, tagRead, repsRead, dwellRead, maskRead, expiryRead, count⟩ :=
    postPayload_reads (cls := cls) (tag := tag) (reps := reps) (dwell := dwell) (mask := mask) (expiry := expiry)
      (items := items) htag hreps hdwell hmask hexpiry few
  have read : (List.range items.length).filterMap (postedItem (postPayload cls tag reps dwell mask expiry items))
      = items := by
    have some_ : ∀ i ∈ List.range items.length,
        postedItem (postPayload cls tag reps dwell mask expiry items) i = some (items[i]?.getD (.phrase 0)) := by
      intro i mem
      have hi := List.mem_range.mp mem
      rw [postPayload_item hi (range _ (List.getElem_mem hi)), List.getElem?_eq_getElem hi]
      rfl
    rw [List.filterMap_congr some_]
    refine List.ext_getElem? fun i => ?_
    by_cases hi : i < items.length
    · simp [hi]
    · simp [hi]
  have class_ : NoticeClass.ofCode cls.code = cls := by cases cls <;> rfl
  rw [postedNotice, code, tagRead, repsRead, dwellRead, maskRead, expiryRead, count, read, class_]
  rfl

end Post

/-- The classes at a level above 0 (R155). -/
theorem levelOf_eq_zero (a : Notice) : levelOf (some a) = 0 ↔ a.isUpper = false := by
  rw [levelOf, Notice.isUpper]
  cases a.cls <;> decide

section Posts

/-- A well-formed Post Notice of the notice given, whose tag is not in use (R143). -/
structure State.Posts (s : State) (p : Port) (b : List Byte) (n : Notice) : Prop where
  takes : s.Takes p 0x50 b
  form : postOk b = true
  posted : postedNotice b = n
  fresh : s.seq.all.any (Notice.hasTag (u16 b 1)) = false

/-- What an accepted Post Notice leaves (R143). -/
def State.Placed (s : State) (p : Port) (b : List Byte) (n : Notice) (q : Sequencer) (queued : Bool) (t : State) : Prop :=
  exec (.postNotice p b) s = .next t ∧ t.seq = q ∧ s.NoticeEventOnly t
  ∧ (∀ e ∈ ((s.enter p 0x50 b).place n).link.operations.events, e.code ≠ 0x06 → e ∈ t.link.operations.events)
  ∧ s.Answers p 0x50 b .done (flag queued ++ be 1 t.seq.queue.length ++ be 1 t.level) t

variable {s : State} {p : Port} {b : List Byte} {n a v : Notice}

/-- An accepted Post Notice, whatever its placing (R143). -/
theorem State.Posts.accepted (h : s.Posts p b n) {q : Sequencer} {queued : Bool}
    (goes : s.goesToQueue n.cls = queued) (room : queued = true → postNoRoom n.cls s.seq.queue = false)
    (placed : ((s.enter p 0x50 b).place n).seq = q) : ∃ t, s.Placed p b n q queued t := by
  let u := s.enter p 0x50 b
  obtain ⟨step, banners⟩ := u.place_notice n
  obtain ⟨event, answers⟩ := step.request banners (s := s) (p := p) (k := 0x50) (b := b)
    (body := ((u.place n).settle u).postReply queued)
  have block : postNoticeBlock b u = done ((u.place n).settle u) (((u.place n).settle u).postReply queued) := by
    have fresh : ¬ u.seq.all.any (Notice.hasTag (u16 b 1)) = true := by
      rw [show u.seq = s.seq from rfl, h.fresh]
      exact Bool.false_ne_true
    have goes_ : u.goesToQueue n.cls = queued := goes
    have room_ : ¬ (u.goesToQueue n.cls && postNoRoom n.cls u.seq.queue) = true := by
      rw [goes_, Bool.and_eq_true]
      rintro ⟨yes, full⟩
      exact absurd full (by rw [show postNoRoom n.cls u.seq.queue = false from room yes]; exact Bool.false_ne_true)
    rw [postNoticeBlock, if_neg (not_not_intro h.form), if_neg fresh, h.posted, if_neg room_, goes_]
  refine ⟨_, congrArg Host.Outcome.next (serve_reply h.takes.1 h.takes.2 block), ?_, event, fun e mem other => ?_, answers⟩
  · show (State.settle _ _).seq = _
    rw [step.settle, State.settleLevel_seq]
    exact placed
  · show e ∈ (State.port (State.answer _ _ _ _ _) .operations).events
    rw [State.answer_events, step.settle]
    exact (State.raises_settleLevel _ u).operations (by simpa [eq_comm] using other) mem

/-- A Post Notice that finds no room (R143). -/
theorem State.Posts.noRoom (h : s.Posts p b n) (goes : s.goesToQueue n.cls = true)
    (full : postNoRoom n.cls s.seq.queue = true) :
    exec (.postNotice p b) s = .next (s.replied p 0x50 b .noRoom []) := by
  have fresh : ¬ (s.enter p 0x50 b).seq.all.any (Notice.hasTag (u16 b 1)) = true := by
    rw [show (s.enter p 0x50 b).seq = s.seq from rfl, h.fresh]
    exact Bool.false_ne_true
  have block : postNoticeBlock b (s.enter p 0x50 b) = refuse (s.enter p 0x50 b) .noRoom := by
    rw [postNoticeBlock, if_neg (not_not_intro h.form), if_neg fresh, h.posted]
    refine if_pos ?_
    show (s.goesToQueue n.cls && postNoRoom n.cls s.seq.queue) = true
    rw [goes, full]
    rfl
  exact congrArg Host.Outcome.next (serve_refuse h.takes block)

theorem State.goesToQueue_idle (idle : s.seq.active = none) (c : NoticeClass) : s.goesToQueue c = false := by
  unfold State.goesToQueue
  rw [idle]

theorem State.goesToQueue_alarm (s : State) : s.goesToQueue .alarm = false := by
  unfold State.goesToQueue
  cases s.seq.active <;> rfl

theorem State.goesToQueue_service (active : s.seq.active = some a) : s.goesToQueue .service = a.isUpper := by
  unfold State.goesToQueue State.level
  rw [active]
  have zero := levelOf_eq_zero a
  cases upper : a.isUpper with
  | false => exact decide_eq_false (not_not_intro (zero.mpr upper))
  | true => exact decide_eq_true fun h => absurd (zero.mp h) (by rw [upper]; nofun)

theorem State.goesToQueue_information (active : s.seq.active = some a) : s.goesToQueue .information = true := by
  unfold State.goesToQueue
  rw [active]

/-- With nothing active the notice starts (R156). -/
theorem State.Posts.idle (h : s.Posts p b n) (idle : s.seq.active = none) :
    ∃ t, s.Placed p b n (s.seq.started n) false t :=
  h.accepted (State.goesToQueue_idle idle _) nofun (by
    rw [State.place_idle (s := s.enter p 0x50 b) idle, State.startNotice_seq_started]
    rfl)

/-- An ALARM starts, saving the notice it pre-empts in slot 2 or replacing an alarm (R156). -/
theorem State.Posts.alarm (h : s.Posts p b n) (active : s.seq.active = some a) (alarm : n.cls = .alarm) :
    ∃ t, s.Placed p b n ((if a.cls = .alarm then s.seq else { s.seq with slot2 := some a }).started n) false t
      ∧ (a.cls = .alarm → .noticeDropped .alarm a.tag a.kind a.stop .replaced ∈ t.link.operations.events) := by
  have place := State.place_alarm (s := s.enter p 0x50 b) active alarm
  obtain ⟨t, run, seq, event, raised, answers⟩ := h.accepted (queued := false)
    (q := (if a.cls = .alarm then s.seq else { s.seq with slot2 := some a }).started n)
    (by rw [alarm]; exact s.goesToQueue_alarm) nofun (by
      rw [place]
      split
      · exact State.startNotice_seq_started n _
      · exact State.startNotice_seq_started n _)
  refine ⟨t, ⟨run, seq, event, raised, answers⟩, fun replaced => raised _ ?_ nofun⟩
  rw [place, if_pos replaced, ← replaced]
  exact State.raise_mem_operations _ _ rfl

/-- A SERVICE notice pre-empts one of lower class, which goes to slot 1 (R156). -/
theorem State.Posts.preempts (h : s.Posts p b n) (active : s.seq.active = some a) (service : n.cls = .service)
    (lower : a.isUpper = false) : ∃ t, s.Placed p b n (Sequencer.started n { s.seq with slot1 := some a }) false t := by
  have level : (s.enter p 0x50 b).level = 0 := by
    show levelOf s.seq.active = 0
    rw [active]
    exact (levelOf_eq_zero a).mpr lower
  refine h.accepted (by rw [service, State.goesToQueue_service active, lower]) nofun ?_
  rw [State.place_service (s := s.enter p 0x50 b) active service, if_pos level]
  exact State.startNotice_seq_started n _

/-- A SERVICE notice behind one of its rank goes to the queue (R156). -/
theorem State.Posts.place_queue (active : s.seq.active = some a) (service : n.cls = .service)
    (upper : a.isUpper = true) : (s.enter p 0x50 b).place n = (s.enter p 0x50 b).enqueue n := by
  rw [State.place_service (s := s.enter p 0x50 b) active service]
  refine if_neg fun zero => ?_
  have level : levelOf s.seq.active = 0 := zero
  rw [active, levelOf_eq_zero, upper] at level
  exact absurd level nofun

theorem State.Posts.joins (h : s.Posts p b n) (active : s.seq.active = some a) (service : n.cls = .service)
    (upper : a.isUpper = true) (room : s.seq.queue.length < 16) :
    ∃ t, s.Placed p b n { s.seq with
      queue := s.seq.queue.takeWhile Notice.isUpper ++ n :: s.seq.queue.dropWhile Notice.isUpper } true t := by
  have short : decide (16 ≤ s.seq.queue.length) = false := decide_eq_false (Nat.not_le.mpr room)
  have free : mustDisplace n.cls (s.enter p 0x50 b).seq.queue = false := by
    rw [service]
    exact short
  refine h.accepted (by rw [service, State.goesToQueue_service active, upper])
    (fun _ => by rw [service, postNoRoom, short]; rfl) ?_
  rw [State.Posts.place_queue active service upper, State.enqueue_free free, joinQueue_service service]
  rfl

theorem State.Posts.displaces (h : s.Posts p b n) (active : s.seq.active = some a) (service : n.cls = .service)
    (upper : a.isUpper = true) (full : 16 ≤ s.seq.queue.length) (victim : s.seq.victim = some v) :
    ∃ t, s.Placed p b n { s.seq with queue := (s.seq.queue.erase v).takeWhile Notice.isUpper
        ++ n :: (s.seq.queue.erase v).dropWhile Notice.isUpper } true t
      ∧ .noticeDropped v.cls v.tag v.kind v.stop .displaced ∈ t.link.operations.events := by
  have must : mustDisplace n.cls (s.enter p 0x50 b).seq.queue = true := by
    rw [service]
    exact decide_eq_true full
  have place := (State.Posts.place_queue (p := p) (b := b) active service upper).trans
    (State.enqueue_victim (s := s.enter p 0x50 b) must victim)
  obtain ⟨mem, other⟩ := Sequencer.victim_mem victim
  have lower : decide (lowerCount s.seq.queue = 0) = false := decide_eq_false fun none => by
    have off := List.countP_eq_zero.mp none v mem
    exact off (decide_eq_true other)
  obtain ⟨t, run, seq, event, raised, answers⟩ := h.accepted
    (by rw [service, State.goesToQueue_service active, upper])
    (fun _ => by rw [service, postNoRoom, lower, Bool.and_false]) (congrArg State.seq place)
  refine ⟨t, ⟨run, ?_, event, raised, answers⟩, raised _ ?_ nofun⟩
  · rw [seq, joinQueue_service service]
    rfl
  · rw [place]
    exact State.raise_mem_operations _ _ rfl

/-- An INFORMATION notice joins at the end (R152, R156). -/
theorem State.Posts.appends (h : s.Posts p b n) (active : s.seq.active = some a) (information : n.cls = .information)
    (room : queueFull s.seq.queue = false) :
    ∃ t, s.Placed p b n { s.seq with queue := s.seq.queue ++ [n] } true t := by
  refine h.accepted (by rw [information, State.goesToQueue_information active])
    (fun _ => by rw [information]; exact room) ?_
  rw [State.place_lower (s := s.enter p 0x50 b) active (by rw [information]; nofun) (by rw [information]; nofun),
    State.enqueue_free (by rw [information]; rfl), joinQueue_information information]
  rfl

/-- What the reply says of the place: the queue is longer by one exactly where the notice joined it (R143). -/
theorem State.Placed.answers_length {q : Sequencer} {queued : Bool} {t : State} (h : s.Placed p b n q queued t)
    (length : q.queue.length = s.seq.queue.length + if queued then 1 else 0) :
    s.Answers p 0x50 b .done
      ([if t.seq.queue.length = s.seq.queue.length then 0 else 1] ++ be 1 t.seq.queue.length ++ be 1 t.level) t := by
  obtain ⟨-, seq, -, -, answers⟩ := h
  have said : flag queued = [if t.seq.queue.length = s.seq.queue.length then 0 else 1] := by
    rw [seq, length]
    cases queued with
    | false => exact congrArg (fun x => [x]) (if_pos rfl).symm
    | true => exact congrArg (fun x => [x]) (if_neg (by simp)).symm
  rw [← said]
  exact answers

end Posts

/-- A notice put at a place of a queue makes it longer by one. -/
theorem length_inserted (l : List Notice) (f : Notice → Bool) (n : Notice) :
    (l.takeWhile f ++ n :: l.dropWhile f).length = l.length + 1 := by
  have whole := congrArg List.length (List.takeWhile_append_dropWhile (p := f) (l := l))
  simp only [List.length_append, List.length_cons] at whole ⊢
  omega

/-- Settles O45: by the active notice and the class posted, the rows of R156. -/
theorem postNoticeIsPlaced : Obligations.PostNoticeIsPlaced := by
  intro s p cls tag reps dwell mask expiry items notJourney h1 htag h1r hreps hdwell hmask hexpiry alarm some_ few range
    unused b n upper room seq1 takes
  have posts : s.Posts p b n := by
    obtain ⟨-, -, tagRead, -⟩ : b.length = _ ∧ u8 b 0 = _ ∧ u16 b 1 = tag ∧ _ :=
      postPayload_reads htag hreps hdwell hmask hexpiry few
    refine ⟨takes, postOk_payload notJourney h1 htag h1r hreps hdwell hmask hexpiry alarm some_ few range,
      postedNotice_payload htag hreps hdwell hmask hexpiry few range, ?_⟩
    rw [tagRead, List.any_eq_false]
    intro m mem
    rw [Notice.hasTag_eq, Bool.and_eq_true, decide_eq_true_eq, decide_eq_true_eq]
    exact fun h => unused m mem h.1 h.2
  have started_length (q : Sequencer) : (q.started n).queue.length = q.queue.length := rfl
  cases active : s.seq.active with
  | none =>
    have isRoom : room := by simp only [room, active]
    have isSeq : seq1 = s.seq.started n := by simp only [seq1, active]
    obtain ⟨t, placed⟩ := posts.idle active
    have answers := placed.answers_length rfl
    obtain ⟨run, seq, event, -⟩ := placed
    exact ⟨fun _ => ⟨t, run, seq.trans isSeq.symm, event, fun _ _ h => absurd h nofun, answers⟩,
      fun no => absurd isRoom no, fun _ no => absurd isRoom no⟩
  | some a =>
    have isRoom : room = ((cls = .information → s.seq.queue.length < 16
          ∧ (s.seq.queue.filter fun m => decide (m.cls ≠ .service)).length < 12)
        ∧ (cls = .service → a.isUpper = true → s.seq.queue.length < 16)) := by
      simp only [room, active]
      rfl
    have isSeq : seq1 = if cls = .alarm then
          (if a.cls = .alarm then s.seq else { s.seq with slot2 := some a }).started n
        else if cls = .service ∧ a.isUpper = false then Sequencer.started n { s.seq with slot1 := some a }
        else if cls = .service then
          { s.seq with queue := s.seq.queue.takeWhile Notice.isUpper ++ n :: s.seq.queue.dropWhile Notice.isUpper }
        else { s.seq with queue := s.seq.queue ++ [n] } := by
      simp only [seq1, active]
      rfl
    have notLower {P : Prop} (lower : a.isUpper = false) (upper_ : a.isUpper = true) : P :=
      absurd upper_ (by rw [lower]; exact Bool.false_ne_true)
    cases hc : cls with
    | journey => exact absurd hc notJourney
    | alarm =>
      have here : room := isRoom ▸ ⟨by rw [hc]; nofun, by rw [hc]; nofun⟩
      obtain ⟨t, placed, replaced⟩ := posts.alarm active hc
      have answers := placed.answers_length (by split <;> rfl)
      obtain ⟨run, seq, event, -⟩ := placed
      refine ⟨fun _ => ⟨t, run, seq.trans ?_, event, fun x _ h cls_ => ?_, answers⟩, fun no => absurd here no,
        fun _ no => absurd here no⟩
      · rw [isSeq, if_pos hc]
      · cases h
        exact replaced cls_
    | information =>
      have notAlarm : cls ≠ .alarm := by rw [hc]; nofun
      have notService : cls ≠ .service := by rw [hc]; nofun
      have here : room ↔ queueFull s.seq.queue = false := by
        rw [isRoom, queueFull, lowerCount_eq]
        simp only [hc, true_implies, reduceCtorEq, false_implies, and_true, Bool.or_eq_false_iff, decide_eq_false_iff_not,
          Nat.not_le]
      refine ⟨fun yes => ?_, fun no _ => ?_, fun _ _ h => absurd h nofun⟩
      · obtain ⟨t, placed⟩ := posts.appends active hc (here.mp yes)
        have answers := placed.answers_length (by simp)
        obtain ⟨run, seq, event, -⟩ := placed
        refine ⟨t, run, seq.trans ?_, event, fun _ h => absurd h nofun, answers⟩
        rw [isSeq, if_neg notAlarm, if_neg fun h => notService h.1, if_neg notService]
      · refine posts.noRoom (by rw [show n.cls = .information from hc, State.goesToQueue_information active]) ?_
        rw [show n.cls = .information from hc]
        exact Bool.eq_true_of_not_eq_false fun free => no (here.mpr free)
    | service =>
      have notAlarm : cls ≠ .alarm := by rw [hc]; nofun
      cases hu : a.isUpper with
      | false =>
        have here : room := isRoom ▸ ⟨by rw [hc]; nofun, fun _ h => notLower hu h⟩
        obtain ⟨t, placed⟩ := posts.preempts active hc hu
        have answers := placed.answers_length rfl
        obtain ⟨run, seq, event, -⟩ := placed
        refine ⟨fun _ => ⟨t, run, seq.trans ?_, event, fun _ h => absurd h nofun, answers⟩, fun no => absurd here no,
          fun _ no => absurd here no⟩
        rw [isSeq, if_neg notAlarm, if_pos ⟨hc, hu⟩]
      | true =>
        have here : room ↔ s.seq.queue.length < 16 := by
          rw [isRoom]
          exact ⟨fun h => h.2 hc hu, fun h => ⟨by rw [hc]; nofun, fun _ _ => h⟩⟩
        refine ⟨fun yes => ?_, fun no services => ?_, fun v no _ victim => ?_⟩
        · obtain ⟨t, placed⟩ := posts.joins active hc hu (here.mp yes)
          have answers := placed.answers_length (length_inserted _ _ _)
          obtain ⟨run, seq, event, -⟩ := placed
          refine ⟨t, run, seq.trans ?_, event, fun _ h => absurd h nofun, answers⟩
          rw [isSeq, if_neg notAlarm, if_neg fun h => notLower h.2 hu, if_pos hc]
        · have all : ∀ m ∈ s.seq.queue, m.cls = .service := services.resolve_left nofun
          have none : lowerCount s.seq.queue = 0 :=
            List.countP_eq_zero.mpr fun m hm => by rw [all m hm]; simp
          refine posts.noRoom (by rw [show n.cls = .service from hc, State.goesToQueue_service active, hu]) ?_
          rw [show n.cls = .service from hc, postNoRoom, none, decide_eq_true (Nat.not_lt.mp fun h => no (here.mpr h))]
          rfl
        · obtain ⟨t, ⟨run, seq, event, -, answers⟩, dropped⟩ :=
            posts.displaces active hc hu (Nat.not_lt.mp fun h => no (here.mpr h)) victim
          exact ⟨t, run, seq, event, dropped, answers⟩

end Sys2Proof.Machine
end

section
/-!
The effects that events of several parts share, and the journey notices: their contents (R146, R147) and the
re-test of short-platform targets (R151).
-/
namespace Sys2Proof.Machine

/-! ### Pending entries and stale flags through an event -/

/-- Events of the codes given are raised, and of the panel line stale flags alone are set. -/
structure State.Effect (codes : List Nat) (s t : State) : Prop where
  raises : s.Raises codes t
  unmarked : t.line.unmarked = s.line.unmarked
  stale : ∀ named, s.StaleAt named → t.StaleAt named

section Effect

variable {codes more : List Nat} {s t u : State}

theorem State.Effect.refl (codes : List Nat) (s : State) : s.Effect codes s := ⟨.of_link rfl, rfl, fun _ h => h⟩

theorem State.Effect.trans (h : s.Effect codes t) (k : t.Effect codes u) : s.Effect codes u :=
  ⟨h.raises.trans k.raises, k.unmarked.trans h.unmarked, fun named stale => k.stale named (h.stale named stale)⟩

theorem State.Effect.mono (h : s.Effect codes t) (sub : ∀ c ∈ codes, c ∈ more) : s.Effect more t :=
  ⟨h.raises.mono sub, h.unmarked, h.stale⟩

/-- Link Unit and panel line as they were. -/
theorem State.Effect.of_same (link : t.link = s.link) (line : t.line = s.line) : s.Effect codes t :=
  ⟨.of_link link, congrArg PanelLine.unmarked line, fun _ h => h.of_line line⟩

theorem State.NoticeStep.effect (h : s.NoticeStep t) : s.Effect [0x07] t := ⟨h.raises, h.unmarked, h.stale⟩

theorem State.effect_raise {e : Event} (h : codes.contains e.code = true) (s : State) : s.Effect codes (s.raise e) :=
  ⟨s.raises_raise h, rfl, fun _ h => h⟩

theorem State.effect_staleWhere (named : Panel → Bool) (s : State) : s.Effect codes (s.staleWhere named) :=
  ⟨.of_link rfl, PanelLine.unmarked_staleWhere s named, fun _ h => h.staleWhere named⟩

theorem State.effect_reform (named : Seat → Bool) (s : State) : s.Effect codes (s.reform named) :=
  ⟨.of_link rfl, PanelLine.unmarked_reform s named, fun stale h => State.StaleAt.staleWhere (h.of_line rfl : State.StaleAt stale
    { s with table := (s.reform named).table }) _⟩

theorem State.effect_setMarks (bays : BitVec 24) (s : State) : s.Effect [0x10] (s.setMarks bays) :=
  have line : (s.setMarks bays).line = s.line := by
    unfold State.setMarks
    dsimp only
    split <;> rfl
  ⟨s.raises_setMarks bays, congrArg PanelLine.unmarked line, fun _ h => h.of_line line⟩

theorem State.effect_handSeats (l : List (Nat × Nat)) (s : State) : s.Effect [0x10] (s.handSeats l) :=
  ⟨s.raises_handSeats l, congrArg PanelLine.unmarked (s.handSeats_line l), fun _ h => h.of_line (s.handSeats_line l)⟩

theorem State.effect_settle (s before : State) : s.Effect [0x06, 0x09] (s.settle before) :=
  ⟨s.raises_settle before,
    (congrArg PanelLine.unmarked (State.settleLevel_line _)).trans (s.settleBrightness_unmarked before),
    fun _ h => h.settle before⟩

theorem State.effect_setMode (m : Mode) (s : State) : s.Effect [0x02] (s.setMode m) :=
  have line : (s.setMode m).line = s.line := by
    unfold State.setMode
    split <;> rfl
  ⟨s.raises_setMode m, congrArg PanelLine.unmarked line, fun _ h => h.of_line line⟩

end Effect

/-! ### Journey notices (R146, R147) -/

section Journey

theorem getLsbD_foldl_rotation (langs : List Nat) (m : BitVec 4) {k : Nat} (hk : k < 4) :
    (langs.foldl (fun m i => m ||| (1#4 <<< i)) m).getLsbD k = (m.getLsbD k || langs.contains k) := by
  induction langs generalizing m with
  | nil => simp
  | cons i langs ih =>
    have bit : (1#4 <<< i).getLsbD k = (k == i) := by
      rw [BitVec.getLsbD_shiftLeft, BitVec.getLsbD_one]
      by_cases same : k = i
      · subst same
        simp [hk]
      · by_cases below : k < i
        · simp [below, same]
        · have above : k - i ≠ 0 := by omega
          simp [above, same]
    rw [List.foldl_cons, ih, BitVec.getLsbD_or, bit, List.contains_cons, Bool.or_assoc]

/-- The set of a list of languages, bit by bit (R147). -/
theorem rotationMask_eq (langs : List Nat) : rotationMask langs
    = BitVec.ofNat 4 (((List.range 4).filter fun i => langs.contains i).map fun i => 2 ^ i).sum := by
  have sums : ∀ f : Nat → Bool, ∀ k < 4,
      (BitVec.ofNat 4 (((List.range 4).filter f).map fun i => 2 ^ i).sum).getLsbD k = f k := by
    intro f k hk
    have four : List.range 4 = [0, 1, 2, 3] := rfl
    rw [four]
    simp only [List.filter_cons, List.filter_nil]
    obtain rfl | rfl | rfl | rfl : k = 0 ∨ k = 1 ∨ k = 2 ∨ k = 3 := by omega
    all_goals cases h0 : f 0 <;> cases h1 : f 1 <;> cases h2 : f 2 <;> cases h3 : f 3 <;> rfl
  refine BitVec.eq_of_getLsbD_eq fun k hk => ?_
  rw [sums _ k hk, rotationMask, getLsbD_foldl_rotation langs _ hk]
  simp

theorem State.journeyNotice_eq (s : State) (k : JourneyKind) (stop : Nat) (items : List Item) (v : Validity) :
    s.journeyNotice k stop items v = s.journeyPost k stop items v := by
  rw [State.journeyNotice, State.journeyPost, rotationMask_eq]

theorem State.ownDestination_eq (s : State) : s.ownDestination = match s.portion with
    | some po => [.destination po]
    | none => [] := rfl

/-- This coach off the platform at a stop (R80). -/
theorem State.target_eq (s : State) (stop : Nat) : s.target stop = s.shortTarget stop := by
  have ends : s.refEnd stop = s.frontAt stop := rfl
  unfold State.target State.shortTarget
  rw [ends]
  cases s.plan.stops[stop]? with
  | none => rfl
  | some r =>
    dsimp only [Option.bind]
    cases r.length with
    | none => rfl
    | some k =>
      dsimp only
      unfold State.positionUnder State.indexIn Formation.coachAt
      cases List.findIdx? (fun x => decide (x.unit = s.unitId)) s.form.active with
      | none => simp
      | some i =>
        cases s.frontAt stop <;> rfl

/-- A coach with a route is attached. -/
theorem State.attached_of_hasRoute {s : State} (h : s.hasRoute = true) : s.attached = true := by
  rw [State.hasRoute, State.coachRoute, State.portion] at h
  rw [State.attached]
  cases entry : s.entry with
  | none =>
    rw [entry] at h
    exact absurd h nofun
  | some x => rfl

/-- The stage notices of R146, in the order of R148. -/
theorem State.stageNotices_eq (s : State) (c : Nat) (st : Stage) : s.stageNotices c st = s.stagePosts c st := by
  unfold State.stageNotices State.stagePosts
  cases s.plan.stops[c]? with
  | none => rfl
  | some r =>
    dsimp only
    simp only [State.journeyNotice_eq, State.target_eq, State.ownDestination_eq]
    cases st with
    | cruise => rfl
    | announce => rfl
    | approach => cases s.shortTarget c <;> rfl
    | berthing => rfl
    | atPlatform =>
      simp only [reduceCtorEq, if_false, true_and]
      cases r.connections <;> rfl
    | departed => rfl

end Journey

/-! ### The re-test of short-platform targets (R151) -/

section Retest

/-- A change of notices that a return does not see: class, mask and dwell stay, and it commutes with a start. -/
structure Notice.Unseen (f : Notice → Notice) : Prop where
  cls : ∀ n, (f n).cls = n.cls
  dwell : ∀ n, (f n).dwell = n.dwell
  start : ∀ n, f { n with cycles := 0, lang := firstLanguage n.mask }
    = { f n with cycles := 0, lang := firstLanguage (f n).mask }

variable {f : Notice → Notice}

theorem Sequencer.mapNotices_started (h : Notice.Unseen f) (n : Notice) (q : Sequencer) :
    (q.started n).mapNotices f = (q.mapNotices f).started (f n) := by
  simp only [Sequencer.mapNotices, Sequencer.started, Option.map_some, h.start, h.dwell]

theorem Sequencer.mapNotices_returned (h : Notice.Unseen f) (q : Sequencer) :
    q.returned.mapNotices f = (q.mapNotices f).returned := by
  obtain ⟨queue, active, slot1, slot2, dwellLeft⟩ := q
  cases slot1 with
  | some n => simp only [Sequencer.returned, Sequencer.mapNotices, Option.map_some, Option.map_none, h.dwell]
  | none =>
    cases queue with
    | nil => rfl
    | cons n rest => exact Sequencer.mapNotices_started h n ⟨rest, active, none, slot2, dwellLeft⟩

theorem Sequencer.mapNotices_returnedFromAlarm (h : Notice.Unseen f) (q : Sequencer) :
    q.returnedFromAlarm.mapNotices f = (q.mapNotices f).returnedFromAlarm := by
  obtain ⟨queue, active, slot1, slot2, dwellLeft⟩ := q
  cases slot2 with
  | none => exact Sequencer.mapNotices_returned h ⟨queue, active, slot1, none, dwellLeft⟩
  | some n =>
    cases queue with
    | nil => simp only [Sequencer.returnedFromAlarm, Sequencer.mapNotices, Option.map_some, Option.map_none,
        List.map_nil, h.dwell]
    | cons m rest =>
      simp only [Sequencer.returnedFromAlarm, Sequencer.mapNotices, Option.map_some, List.map_cons, h.cls]
      split
      · exact Sequencer.mapNotices_started h m ⟨rest, active, some n, none, dwellLeft⟩
      · simp only [Option.map_some, Option.map_none, List.map_cons, h.dwell]

/-- A return does not see what was active (R159, R160). -/
theorem Sequencer.returned_active (q : Sequencer) (a : Option Notice) :
    q.returned = { q with active := a }.returned := by
  obtain ⟨queue, active, slot1, slot2, dwellLeft⟩ := q
  cases slot1 with
  | some n => rfl
  | none => cases queue <;> rfl

theorem Sequencer.returnedFromAlarm_active (q : Sequencer) (a : Option Notice) :
    q.returnedFromAlarm = { q with active := a }.returnedFromAlarm := by
  obtain ⟨queue, active, slot1, slot2, dwellLeft⟩ := q
  cases slot2 with
  | none => exact Sequencer.returned_active ⟨queue, active, slot1, none, dwellLeft⟩ a
  | some n => cases queue <;> rfl

theorem State.retarget_unseen (s : State) : Notice.Unseen s.retarget := by
  have same {P : Notice → Prop} {n : Notice} (plain : P n) (short : ∀ items, P { n with items := items }) :
      P (s.retarget n) := by
    unfold State.retarget
    split
    · split
      · exact short _
      · exact plain
    · exact plain
  refine ⟨fun n => same (P := fun m => m.cls = n.cls) rfl fun _ => rfl,
    fun n => same (P := fun m => m.dwell = n.dwell) rfl fun _ => rfl, fun n => ?_⟩
  unfold State.retarget
  have target : s.noticeTarget { n with cycles := 0, lang := firstLanguage n.mask } = s.noticeTarget n := rfl
  have short : Notice.isShort { n with cycles := 0, lang := firstLanguage n.mask } = n.isShort := rfl
  rw [target, short]
  cases n.isShort with
  | false => rfl
  | true => cases s.noticeTarget n <;> rfl

/-- A SHORT_PLATFORM notice whose stop no longer has a target. -/
def State.targetGone (s : State) (n : Notice) : Bool := n.isShort && (s.noticeTarget n).isNone

theorem State.targeted_eq (s : State) (n : Notice) :
    s.targeted n = if s.targetGone n then none else some (s.retarget n) := by
  have target : n.stop.bind s.shortTarget = s.noticeTarget n :=
    congrArg n.stop.bind (funext fun stop => (s.target_eq stop).symm)
  rw [State.targeted, target, State.targetGone, State.retarget, Notice.isShort]
  by_cases short : n.kind = some .shortPlatform
  · simp only [if_pos short, decide_eq_true short, Bool.true_and]
    cases s.noticeTarget n <;> rfl
  · simp only [if_neg short, decide_eq_false short, Bool.false_and]
    rfl

theorem State.filterMap_targeted (s : State) (l : List Notice) :
    l.filterMap s.targeted = (l.filter fun n => !s.targetGone n).map s.retarget := by
  induction l with
  | nil => rfl
  | cons n l ih =>
    rw [List.filterMap_cons, s.targeted_eq, ih]
    cases gone : s.targetGone n <;> simp [gone]

theorem State.bind_targeted (s : State) (o : Option Notice) :
    o.bind s.targeted = (o.filter fun n => !s.targetGone n).map s.retarget := by
  cases o with
  | none => rfl
  | some n =>
    rw [Option.bind_some, s.targeted_eq]
    cases gone : s.targetGone n <;> simp [Option.filter, gone]

/-- The notices whose target is gone leave, and the rest are given theirs (R151). -/
theorem State.retested_eq (s : State) (q : Sequencer) : s.retested q
    = ((match q.active with
      | some n => if s.targetGone n = true then
          (if n.cls = NoticeClass.alarm then (q.without s.targetGone).returnedFromAlarm else (q.without s.targetGone).returned)
        else q.without s.targetGone
      | none => q.without s.targetGone).mapNotices s.retarget) := by
  have unseen := s.retarget_unseen
  obtain ⟨queue, active, slot1, slot2, dwellLeft⟩ := q
  unfold State.retested
  dsimp only
  rw [s.filterMap_targeted, s.bind_targeted slot1, s.bind_targeted slot2]
  cases active with
  | none => rfl
  | some n =>
    rw [Option.bind_some, s.targeted_eq]
    cases gone : s.targetGone n with
    | false =>
      simp only [gone, Bool.false_eq_true, if_false]
      rfl
    | true =>
      simp only [gone, if_true]
      let left := Sequencer.without s.targetGone ⟨queue, some n, slot1, slot2, dwellLeft⟩
      split
      · exact (Sequencer.returnedFromAlarm_active _ (some (s.retarget n))).trans
          (Sequencer.mapNotices_returnedFromAlarm unseen left).symm
      · exact (Sequencer.returned_active _ (some (s.retarget n))).trans
          (Sequencer.mapNotices_returned unseen left).symm

theorem State.retestShort_seq (s : State) : s.retestShort.seq = s.retested s.seq := by
  have s1 := s.endNotices_notice s.targetGone
  have frame := s1.frame
  have same : (s.endNotices s.targetGone).retarget = s.retarget := by
    have only : (s.endNotices s.targetGone).retarget = State.retarget { s.endNotices s.targetGone with
      seq := s.seq, link := s.link, line := s.line } := rfl
    rw [only, frame]
  have seq : s.retestShort.seq = (s.endNotices s.targetGone).seq.mapNotices (s.endNotices s.targetGone).retarget := by
    unfold State.retestShort
    dsimp only
    split <;> rfl
  rw [seq, same]
  exact (congrArg (Sequencer.mapNotices s.retarget) (s.endNotices_seq s.targetGone)).trans (s.retested_eq s.seq).symm

theorem State.retestShort_notice (s : State) : s.NoticeStep s.retestShort ∧ s.BannersShown s.retestShort := by
  have first := s.endNotices_notice s.targetGone
  have shown := s.endNotices_banners s.targetGone
  unfold State.retestShort
  dsimp only
  split
  next same =>
    refine ⟨first.trans (State.noticeStep_seq _ _), fun differs => ?_⟩
    exact State.StaleAt.of_line (shown fun h => differs (h.trans same)) rfl
  · exact ⟨first.trans (State.noticeStep_stale _ _), State.bannersShown_stale _ _⟩

end Retest

/-! ### Posting journey notices (R147, R148) -/

section PostJourney

variable {s t : State} {n : Notice}

/-- Whether the coach is attached goes by the formation (R76). -/
theorem State.attached_congr (form : t.form = s.form) (unit : t.unitId = s.unitId) : t.attached = s.attached := by
  have only : t.attached = State.attached { s with form := t.form, unitId := t.unitId } := rfl
  rw [only, form, unit]

theorem State.postJourney_notice (n : Notice) (s : State) :
    s.NoticeStep (s.postJourney n) ∧ s.BannersShown (s.postJourney n) := by
  unfold State.postJourney
  split
  · exact s.place_notice n
  · exact ⟨.refl s, fun differs => absurd rfl differs⟩

theorem State.postJourney_seq (attached : s.attached = true) (journey : n.cls = .journey) :
    (s.postJourney n).seq = s.seq.arrive n := by
  rw [State.postJourney, if_pos attached, State.place_journey journey]

theorem State.stagePosts_cls {c : Nat} {st : Stage} (h : n ∈ s.stagePosts c st) : n.cls = .journey := by
  unfold State.stagePosts at h
  split at h
  case h_1 => exact absurd h List.not_mem_nil
  case h_2 r =>
    dsimp only at h
    split at h
    · rw [List.mem_singleton.mp h]
      rfl
    · split at h
      · rcases List.mem_append.mp h with first | divide
        · rcases List.mem_cons.mp first with rfl | short
          · rfl
          · split at short
            · rw [List.mem_singleton.mp short]
              rfl
            · exact absurd short List.not_mem_nil
        · split at divide
          · rw [List.mem_singleton.mp divide]
            rfl
          · exact absurd divide List.not_mem_nil
      · split at h
        · rw [List.mem_singleton.mp h]
          rfl
        · exact absurd h List.not_mem_nil

/-- Journey notices posted one after another (R148). -/
theorem State.foldl_postJourney (l : List Notice) (journey : ∀ n ∈ l, n.cls = .journey) (s : State) :
    let t := l.foldl (fun t n => t.postJourney n) s
    s.NoticeStep t ∧ s.BannersShown t ∧ (s.attached = true → t.seq = l.foldl Sequencer.arrive s.seq) := by
  induction l generalizing s with
  | nil => exact ⟨.refl s, fun differs => absurd rfl differs, fun _ => rfl⟩
  | cons n l ih =>
    obtain ⟨first, shown⟩ := s.postJourney_notice n
    obtain ⟨rest, shown2, seq⟩ := ih (fun m hm => journey m (List.mem_cons_of_mem n hm)) (s.postJourney n)
    refine ⟨first.trans rest, shown.trans shown2 rest, fun attached => ?_⟩
    have still : (s.postJourney n).attached = true :=
      (State.attached_congr (congrArg State.form first.frame :) (congrArg State.unitId first.frame :)).trans attached
    exact (seq still).trans (congrArg (fun q => l.foldl Sequencer.arrive q)
      (State.postJourney_seq attached (journey n List.mem_cons_self)))

theorem State.postStage_notice (c : Nat) (st : Stage) (s : State) :
    s.NoticeStep (s.postStage c st) ∧ s.BannersShown (s.postStage c st)
    ∧ (s.attached = true → (s.postStage c st).seq = (s.stagePosts c st).foldl Sequencer.arrive s.seq) := by
  rw [State.postStage, State.stageNotices_eq]
  exact State.foldl_postJourney _ (fun n => State.stagePosts_cls) s

end PostJourney

end Sys2Proof.Machine
end

section
/-!
Proofs of the statements about Start Journey (R26) and Clear Plan (R27, R28).
-/
namespace Sys2Proof.Machine

/-! ### The end of an event of the journey -/

/-- Every panel marked stale, every display re-formed, and the event's end (R111, R193). -/
def State.shownAll (s before : State) : State := ((s.staleAll).reformAll).settle before

section ShownAll

variable (s before : State)

theorem State.shownAll_frame :
    { s.shownAll before with table := s.table, link := s.link, line := s.line } = s :=
  congrArg (fun t : State => { t with table := s.table, link := s.link, line := s.line })
    (State.settle_frame (s.staleAll).reformAll before)

theorem State.shownAll_effect : s.Effect [0x06, 0x09] (s.shownAll before) :=
  (s.effect_staleWhere _).trans ((State.effect_reform _ _).trans (State.effect_settle _ before))

theorem State.shownAll_stale : (s.shownAll before).StaleAt fun _ => true :=
  (State.effect_settle _ before).stale _ ((State.effect_reform (codes := []) _ _).stale _ (s.staleAt_staleWhere _))

theorem State.shownAll_table : (s.shownAll before).table.undisplayed = s.table.undisplayed :=
  (congrArg (fun t : State => t.table.undisplayed) (State.settle_frame (s.staleAll).reformAll before)).trans
    (SeatTable.undisplayed_reform s.staleAll _)

end ShownAll

/-! ### Start Journey (R26) -/

/-- A mode given changes the mode, standstill and pending entries alone (R51, R54). -/
theorem State.setMode_frame (m : Mode) (s : State) :
    { s.setMode m with appr := { (s.setMode m).appr with standstill := s.appr.standstill }, link := s.link }
      = { s with odo := { s.odo with mode := m } } := by
  unfold State.setMode
  split
  next same =>
    subst same
    rfl
  · rfl

/-- The Odometer at the start of a journey (R41). -/
def Odometer.begun (line : Nat) (o : Odometer) : Odometer :=
  { o with
    position := line, remainder := 0, mode := .wheel, channel := .healthy, sinceFix := 0, suspectRun := 0
    failureRun := 0, disagreementRun := 0, agreementRun := 0, exemption := true }

theorem State.startOdometer_frame (line : Nat) (s : State) :
    { s.startOdometer line with
      appr := { (s.startOdometer line).appr with standstill := s.appr.standstill }, link := s.link }
      = { s with odo := s.odo.begun line } := State.setMode_frame .wheel _

theorem State.startOdometer_effect (line : Nat) (s : State) : s.Effect [0x02] (s.startOdometer line) :=
  (State.Effect.of_same (s := s) (t := { s with odo := { s.odo.begun line with mode := s.odo.mode } }) rfl rfl).trans
    (State.effect_setMode .wheel _)

/-- The plan RUNNING with C at its origin, at AT_PLATFORM (R26, R70, R78). -/
def State.atOrigin (c : Nat) (s : State) : State :=
  { s with
    plan := { s.plan with state := .running }
    appr := { s.appr with
      current := some c, last := none, stage := some .atPlatform, passed := false, departureRun := 0 }
    form := { s.form with arrival := some s.form.lead } }

theorem State.beginJourney_eq (c : Nat) (s : State) : s.beginJourney c
    = ((((s.startOdometer (s.plan.lineAt c)).atOrigin c).raise (.stage c .atPlatform false)).postWelcome c).shownAll s := rfl

theorem State.journeyPost_congr {s t : State} (line : t.line.unmarked = s.line.unmarked) (k : JourneyKind) (stop : Nat)
    (items : List Item) (v : Validity) : t.journeyPost k stop items v = s.journeyPost k stop items v := by
  have rotation : t.line.rotation = s.line.rotation := (congrArg PanelLine.rotation line :)
  have only : t.journeyPost k stop items v
      = State.journeyPost { s with line := { s.line with rotation := t.line.rotation } } k stop items v := rfl
  rw [only, rotation]

/-- WELCOME of an attached coach (R146, R149). -/
theorem State.postWelcome_seq {s : State} {po : Portion} (portion : s.portion = some po) (c : Nat) :
    (s.postWelcome c).seq = s.seq.arrive (s.journeyPost .welcome c
      [.phrase 10, .phrase 11, .destination po, .coach s.coachNumber] (.stage .departed)) := by
  have attached : s.attached = true := by
    rw [State.attached]
    rw [State.portion] at portion
    cases entry : s.entry with
    | none =>
      rw [entry] at portion
      exact absurd portion nofun
    | some x => rfl
  have own : s.ownDestination = [.destination po] := by
    rw [State.ownDestination_eq, portion]
  rw [State.postWelcome, State.journeyNotice_eq, State.postJourney_seq attached rfl, own]
  rfl

/-- Start Journey with an origin is accepted (R26). -/
theorem startJourneyBlock_accepted {s : State} {c : Nat} {po : Portion} (ready : s.plan.state = .ready)
    (portion : s.portion = some po) (origin : (s.plan.calls po).head? = some c) :
    startJourneyBlock s = done (s.beginJourney c) (be 1 c ++ be 1 po.code) := by
  have calls : s.coachCalls.head? = some c := by
    rw [State.coachCalls, portion]
    exact origin
  have route : s.hasRoute = true := by
    have call := Plan.mem_calls.mp (List.mem_of_mem_head? origin)
    have onRoute : c ∈ s.plan.route po := Plan.mem_route.mpr fun none => Call.noConfusion (call.symm.trans none)
    rw [State.hasRoute, State.coachRoute, portion]
    dsimp only
    cases list : s.plan.route po with
    | nil =>
      rw [list] at onRoute
      exact absurd onRoute List.not_mem_nil
    | cons x xs => rfl
  have form : ¬ (s.plan.state ≠ .ready ∨ ¬ s.hasRoute) := not_or.mpr ⟨not_not_intro ready, not_not_intro route⟩
  rw [startJourneyBlock, if_neg form, calls, portion]
  rfl

/-- What an accepted Start Journey leaves (R26). -/
theorem State.beginJourney_spec {s : State} {po : Portion} (portion : s.portion = some po) (c : Nat) :
    let t := s.beginJourney c
    s.Effect [0x01, 0x02, 0x06, 0x07, 0x09] t ∧ t.plan = ⟨.running, s.plan.stops⟩
    ∧ t.odo = s.odo.begun (s.plan.lineAt c)
    ∧ t.appr = { s.appr with
        current := some c, last := none, stage := some .atPlatform, passed := false, departureRun := 0
        standstill := t.appr.standstill }
    ∧ t.form = { s.form with arrival := some s.form.lead } ∧ t.StaleAt (fun _ => true)
    ∧ .stage c .atPlatform false ∈ t.link.operations.events
    ∧ t.seq = s.seq.arrive (s.journeyPost .welcome c
      [.phrase 10, .phrase 11, .destination po, .coach s.coachNumber] (.stage .departed))
    ∧ t.table.undisplayed = s.table.undisplayed
    ∧ { t with plan := s.plan, odo := s.odo, appr := s.appr, form := s.form, table := s.table, seq := s.seq
               link := s.link, line := s.line } = s := by
  intro t
  have started := State.startOdometer_frame (s.plan.lineAt c) s
  have effect0 := State.startOdometer_effect (s.plan.lineAt c) s
  generalize hm : s.startOdometer (s.plan.lineAt c) = m at started effect0
  have t_eq : t = (((m.atOrigin c).raise (.stage c .atPlatform false)).postWelcome c).shownAll s := by
    rw [← hm]
    exact State.beginJourney_eq c s
  have form : m.form = s.form := (congrArg State.form started :)
  have unit : m.unitId = s.unitId := (congrArg State.unitId started :)
  let w := (m.atOrigin c).raise (.stage c .atPlatform false)
  have portion_ : w.portion = some po := by
    have only : w.portion = State.portion { s with form := { m.form with arrival := some m.form.lead }, unitId := m.unitId } := rfl
    rw [only, form, unit]
    exact portion
  have number : w.coachNumber = s.coachNumber := by
    have only : w.coachNumber = State.coachNumber { s with
      form := { m.form with arrival := some m.form.lead }, unitId := m.unitId } := rfl
    rw [only, form, unit]
    rfl
  have effect1 : m.Effect [0x01] w :=
    (State.Effect.of_same (s := m) (t := m.atOrigin c) rfl rfl).trans (State.effect_raise rfl _)
  have step : w.NoticeStep (w.postWelcome c) := (w.postJourney_notice _).1
  have later : w.Effect [0x06, 0x07, 0x09] ((w.postWelcome c).shownAll s) :=
    (step.effect.mono (by simp)).trans ((State.shownAll_effect _ s).mono (by simp))
  have frame2 : { (w.postWelcome c).shownAll s with table := w.table, seq := w.seq, link := w.link, line := w.line } = w :=
    (congrArg (fun t : State => { t with table := w.table, seq := w.seq, link := w.link, line := w.line })
      (State.shownAll_frame (w.postWelcome c) s)).trans
      (congrArg (fun t : State => { t with table := w.table }) step.frame)
  have seq : ((w.postWelcome c).shownAll s).seq = (w.postWelcome c).seq :=
    (congrArg State.seq (State.shownAll_frame (w.postWelcome c) s) :)
  have table : (w.postWelcome c).table = w.table := (congrArg State.table step.frame :)
  rw [t_eq]
  refine ⟨(effect0.mono (by simp)).trans ((effect1.mono (by simp)).trans (later.mono (by simp))), ?_, ?_, ?_, ?_,
    State.shownAll_stale _ s, later.raises.operations rfl (State.raise_mem_operations _ _ rfl), ?_, ?_, ?_⟩
  · exact (congrArg State.plan frame2 :).trans (congrArg (fun u : State => { u.plan with state := .running }) started)
  · exact (congrArg State.odo frame2 :).trans (congrArg State.odo started)
  · have appr : ((w.postWelcome c).shownAll s).appr = w.appr := (congrArg State.appr frame2 :)
    rw [appr]
    exact congrArg (fun u : State => { u.appr with
      current := some c, last := none, stage := some .atPlatform, passed := false, departureRun := 0
      standstill := w.appr.standstill }) started
  · exact (congrArg State.form frame2 :).trans (congrArg (fun f : Formation => { f with arrival := some f.lead }) form)
  · rw [seq, State.postWelcome_seq portion_, number]
    have arrived : w.seq = s.seq := (congrArg State.seq started :)
    rw [arrived, State.journeyPost_congr (effect1.unmarked.trans effect0.unmarked)]
  · rw [State.shownAll_table, table]
    exact congrArg SeatTable.undisplayed (congrArg State.table started :)
  · exact (congrArg (fun u : State => { u with
        plan := s.plan, odo := s.odo, appr := s.appr, form := s.form
        table := s.table, seq := s.seq, link := s.link, line := s.line }) frame2).trans
      (congrArg (fun u : State => { u with
        plan := s.plan, odo := s.odo, appr := s.appr, form := s.form
        table := s.table, seq := s.seq, link := s.link, line := s.line }) started)

/-- Settles O20: what Start Journey leaves, answered. -/
theorem startJourneyAtTheOrigin : Obligations.StartJourneyAtTheOrigin := by
  intro s c po ready portion origin takes
  let u := s.enter .operations 0x12 []
  have block : emptyPayload [] startJourneyBlock u = done (u.beginJourney c) (be 1 c ++ be 1 po.code) :=
    startJourneyBlock_accepted (s := u) ready portion origin
  obtain ⟨effect, plan, odo, appr, form, stale, raised, seq, table, frame⟩ :=
    State.beginJourney_spec (s := u) portion c
  refine ⟨_, congrArg Host.Outcome.next (serve_reply takes.1 takes.2 block), plan, odo, appr, form, stale, ?_,
    effect.raises.answers, ?_, table, effect.unmarked, ?_⟩
  · show _ ∈ (State.port (State.answer _ _ _ _ _) .operations).events
    rw [State.answer_events]
    exact raised
  · refine seq.trans (congrArg u.seq.arrive ?_)
    exact (State.journeyPost_congr (s := u) effect.unmarked _ _ _ _).symm
  · exact congrArg (fun u : State => { u with link := s.link }) frame

/-! ### All holds broken, all marks set (R28, R30, R124, R132) -/

section BreakAll

variable {s t u : State}

theorem State.breakAndMarkAll_holds (s : State) :
    s.HoldsBroken s.breakAndMarkAll ∧ s.Marked (fun _ => true) s.breakAndMarkAll
    ∧ s.breakAndMarkAll.holds.marks = BitVec.allOnes 24 := by
  obtain ⟨-, ops, content⟩ := State.setMarks_frame (BitVec.allOnes 24) (s.breakHolds fun _ => true)
  refine ⟨fun p => ?_, State.setMarks_marked (s := s.breakHolds fun _ => true) fun b hb => ?_, ?_⟩
  · have broken : s.breakAndMarkAll.holds.get p = (s.holds.get p).breakIf fun _ => true := by
      cases p with
      | operations => exact ops
      | content => exact content
    rw [broken]
    cases s.holds.get p <;> rfl
  · rw [BitVec.getLsbD_allOnes, decide_eq_true hb]
  · exact (State.setMarks_marks _ _).trans BitVec.or_allOnes

/-- Seats handed on before every hold breaks and every mark is set leave no other trace. -/
theorem State.HandedOn.breakAndMarkAll {nums bays : List Nat} (h : s.HandedOn nums bays t) :
    s.HoldsBroken t.breakAndMarkAll ∧ s.Marked (fun _ => true) t.breakAndMarkAll
    ∧ t.breakAndMarkAll.holds.marks = BitVec.allOnes 24 := by
  obtain ⟨holds, marks, unreported, raised⟩ := h
  obtain ⟨holds2, ⟨marks2, unreported2, raised2⟩, all⟩ := t.breakAndMarkAll_holds
  refine ⟨fun p => ?_, ⟨fun b hb => ?_, fun b hb => ?_, fun ⟨b, hb, named, clear⟩ => ?_⟩, all⟩
  · rw [holds2, holds]
    cases s.holds.get p with
    | absent => rfl
    | broken n => rfl
    | standing n =>
      dsimp only
      by_cases named : nums.contains n = true
      · simp only [if_pos named]
      · simp only [if_neg named]
  · rw [marks2 b hb]
    simp
  · rw [unreported2 b hb, unreported b hb, marks b hb]
    dsimp only
    cases s.holds.marks.getLsbD b <;> cases bays.contains b <;> simp
  · by_cases handed : bays.contains b = true
    · exact State.setMarks_pending (s := t.breakHolds fun _ => true) (raised ⟨b, hb, handed, clear⟩)
    · refine raised2 ⟨b, hb, rfl, ?_⟩
      rw [marks b hb, clear]
      exact Bool.eq_false_iff.mpr handed

theorem State.breakAndMarkAll_frame (s : State) : { s.breakAndMarkAll with link := s.link, holds := s.holds } = s :=
  congrArg (fun t : State => { t with holds := s.holds })
    (State.setMarks_frame (BitVec.allOnes 24) (s.breakHolds fun _ => true)).1

theorem State.effect_breakAndMarkAll (s : State) : s.Effect [0x10] s.breakAndMarkAll :=
  (State.Effect.of_same (s := s) (t := s.breakHolds fun _ => true) rfl rfl).trans (State.effect_setMarks _ _)

end BreakAll

/-! ### Segment lists given to every seat (R98, R99) -/

section Relist

variable (f : Seat → List Segment) (s : State)

theorem State.relistAndHand_frame :
    { s.relistAndHand f with table := s.table, link := s.link, holds := s.holds } = s :=
  congrArg (fun t : State => { t with table := s.table }) (State.handSeats_frame (State.relisted s (s.relist f)) (s.relist f))

theorem State.relistAndHand_table : (s.relistAndHand f).table = (s.relist f).table :=
  State.handSeats_table _ _

theorem State.effect_relistAndHand : s.Effect [0x10] (s.relistAndHand f) :=
  (State.Effect.of_same (s := s) (t := s.relist f) rfl rfl).trans (State.effect_handSeats _ _)

theorem State.handedOn_relistAndHand :
    s.HandedOn ((State.relisted s (s.relist f)).map Prod.fst) ((State.relisted s (s.relist f)).map Prod.snd)
      (s.relistAndHand f) :=
  State.handedOn_handSeats (State.relisted s (s.relist f)) (s.relist f)

/-- Segments kept and segments dropped together. -/
theorem sum_lengths_split {l : List Seat} (fewer : ∀ x ∈ l, (f x).length ≤ x.segments.length) :
    (l.map fun x => x.segments.length).sum
      = (l.map fun x => (f x).length).sum + (l.map fun x => x.segments.length - (f x).length).sum := by
  induction l with
  | nil => rfl
  | cons x xs ih =>
    have rest := ih fun y hy => fewer y (List.mem_cons_of_mem x hy)
    have first := fewer x List.mem_cons_self
    simp only [List.map_cons, List.sum_cons]
    omega

/-- Where each seat keeps some of its segments, the others' records are back in the pool (R98). -/
theorem State.relist_keeping (fewer : ∀ x ∈ s.table.seats, (f x).length ≤ x.segments.length) :
    (s.relist f).table = s.table.keeping f := by
  have held : segmentsHeld (s.table.seats.map fun x => { x with segments := f x })
      = (s.table.seats.map fun x => (f x).length).sum := by
    rw [segmentsHeld, List.map_map]
    rfl
  have split := sum_lengths_split f fewer
  have free : s.table.free + segmentsHeld s.table.seats
      - segmentsHeld (s.table.seats.map fun x => { x with segments := f x })
      = s.table.free + (s.table.seats.map fun x => x.segments.length - (f x).length).sum := by
    rw [held, segmentsHeld, split]
    omega
  exact congrArg (SeatTable.mk _) free

end Relist

/-! ### Clear Plan (R27, R28) -/

theorem State.clearNotices_frame (s : State) : { s.clearNotices with seq := s.seq, line := s.line } = s := by
  unfold State.clearNotices
  dsimp only
  split
  · split
    · rfl
    · exact congrArg (fun t : State => { t with seq := s.seq }) (State.dropActive_frame _)
  · rfl

theorem State.effect_clearNotices (s : State) : s.Effect [] s.clearNotices := by
  have step : s.NoticeStep s.clearNotices := by
    unfold State.clearNotices
    dsimp only
    split
    · split
      · exact s.noticeStep_seq _
      · exact (s.noticeStep_seq _).trans (State.dropActive_notice _)
    · exact s.noticeStep_seq _
  exact ⟨.of_link (congrArg State.link s.clearNotices_frame :), step.unmarked, step.stale⟩

/-- The queue, the slots and a JOURNEY or INFORMATION notice end (R164). -/
theorem State.clearNotices_seq (s : State) : s.clearNotices.seq.queue = [] ∧ s.clearNotices.seq.slot1 = none
    ∧ s.clearNotices.seq.slot2 = none
    ∧ ∀ n, s.clearNotices.seq.active = some n ↔ s.seq.active = some n ∧ (n.cls = .service ∨ n.cls = .alarm) := by
  unfold State.clearNotices
  dsimp only
  cases active : s.seq.active with
  | none =>
    dsimp only
    exact ⟨rfl, rfl, rfl, fun n => ⟨nofun, fun h => absurd h.1 nofun⟩⟩
  | some a =>
    dsimp only
    split
    next stays =>
      exact ⟨rfl, rfl, rfl, fun n => ⟨fun h => ⟨h, Option.some.inj h ▸ stays⟩, fun h => h.1⟩⟩
    next ends =>
      have seq := State.dropActive_seq_of_some (s := { s with
        seq := ⟨[], some a, none, none, s.seq.dwellLeft⟩ }) rfl
      rw [seq]
      exact ⟨rfl, rfl, rfl, fun n => ⟨nofun, fun ⟨same, kept⟩ => absurd (Option.some.inj same ▸ kept) ends⟩⟩

/-- The state that Clear Plan has before the segments, the holds and the notices go (R27, R41, R59, R78). -/
def State.emptied (s : State) : State :=
  { s with
    plan := ⟨.empty, []⟩
    odo := { s.odo with position := 0, remainder := 0, sinceFix := 0 }
    appr := { s.appr with
      current := none, last := none, stage := none, passed := false, departureRun := 0, eta := none }
    form := { s.form with arrival := none } }

theorem State.clearPlan_eq (s : State) :
    s.clearPlan = ((s.emptied.clearSegments.breakAndMarkAll).clearNotices).shownAll s := rfl

/-- What Clear Plan leaves (R27, R28, R118, R164). -/
theorem State.clearPlan_spec (s : State) :
    let t := s.clearPlan
    s.Effect [0x06, 0x09, 0x10] t
    ∧ t.table.undisplayed = (s.table.keeping fun _ => []).undisplayed
    ∧ s.HoldsBroken t ∧ s.Marked (fun _ => true) t ∧ t.holds.marks = BitVec.allOnes 24
    ∧ t.seq.queue = [] ∧ t.seq.slot1 = none ∧ t.seq.slot2 = none
    ∧ (∀ n, t.seq.active = some n ↔ s.seq.active = some n ∧ (n.cls = .service ∨ n.cls = .alarm))
    ∧ t.StaleAt (fun _ => true)
    ∧ { t with table := s.table, holds := s.holds, seq := s.seq, link := s.link, line := s.line } = s.emptied := by
  intro t
  let v := s.emptied
  have cleared := State.relistAndHand_frame (fun _ => []) v
  have handed := State.handedOn_relistAndHand (fun _ => []) v
  have effect1 : v.Effect [0x10] v.clearSegments := State.effect_relistAndHand _ v
  have table1 : v.clearSegments.table = v.table.keeping fun _ => [] :=
    (State.relistAndHand_table _ v).trans (State.relist_keeping _ v fun _ _ => Nat.zero_le _)
  have t_eq : t = ((v.clearSegments.breakAndMarkAll).clearNotices).shownAll s := s.clearPlan_eq
  rw [t_eq]
  change { v.clearSegments with table := v.table, link := v.link, holds := v.holds } = v at cleared
  change v.HandedOn _ _ v.clearSegments at handed
  generalize v.clearSegments = w1 at cleared handed effect1 table1
  obtain ⟨broken, marked, all⟩ := handed.breakAndMarkAll
  have frame2 := w1.breakAndMarkAll_frame
  have effect2 := w1.effect_breakAndMarkAll
  generalize w1.breakAndMarkAll = w2 at broken marked all frame2 effect2
  have seq2 : w2.seq = s.seq := (congrArg State.seq frame2 :).trans (congrArg State.seq cleared :)
  have table2 : w2.table = s.table.keeping fun _ => [] := (congrArg State.table frame2 :).trans table1
  obtain ⟨queue, slot1, slot2, active⟩ := w2.clearNotices_seq
  rw [seq2] at active
  have frame3 := w2.clearNotices_frame
  have effect3 := w2.effect_clearNotices
  generalize w2.clearNotices = w3 at queue slot1 slot2 active frame3 effect3
  have frame4 := w3.shownAll_frame s
  have holds : (w3.shownAll s).holds = w2.holds := (congrArg State.holds frame4 :).trans (congrArg State.holds frame3 :)
  have seq : (w3.shownAll s).seq = w3.seq := (congrArg State.seq frame4 :)
  have effect4 := w3.shownAll_effect s
  have tail : w2.Effect [0x06, 0x09] (w3.shownAll s) := (effect3.mono (by simp)).trans effect4
  refine ⟨?_, ?_, ?_, ?_, ?_, ?_, ?_, ?_, ?_, w3.shownAll_stale s, ?_⟩
  · have first : s.Effect [0x10] w2 := (State.Effect.of_same (s := s) (t := v) rfl rfl).trans (effect1.trans effect2)
    exact (first.mono (by simp)).trans (tail.mono (by simp))
  · have table3 : w3.table = w2.table := (congrArg State.table frame3 :)
    rw [w3.shownAll_table s, table3, table2]
  · intro p
    rw [holds]
    exact broken p
  · obtain ⟨marks, unreported, raised⟩ := marked
    refine ⟨fun b hb => ?_, fun b hb => ?_, fun fresh => ?_⟩
    · rw [holds]
      exact marks b hb
    · rw [holds]
      exact unreported b hb
    · rw [holds]
      exact tail.raises.content rfl (raised fresh)
  · rw [holds]
    exact all
  · rw [seq]
    exact queue
  · rw [seq]
    exact slot1
  · rw [seq]
    exact slot2
  · rw [seq]
    exact active
  · let keeps (u : State) : State :=
      { u with table := s.table, holds := s.holds, seq := s.seq, link := s.link, line := s.line }
    exact (congrArg keeps frame4 :).trans ((congrArg keeps frame3 :).trans
      ((congrArg keeps frame2 :).trans (congrArg keeps cleared :)))

/-- Settles O21: Clear Plan is carried out in every plan state; with the plan EMPTY the fourth check of the seat
requests fails. -/
theorem clearPlanInEveryState : Obligations.ClearPlanInEveryState := by
  refine ⟨fun s takes => ?_, fun s p empty => ?_⟩
  · let u := s.enter .operations 0x13 []
    have block : emptyPayload [] (fun s => done s.clearPlan []) u = done u.clearPlan [] := rfl
    obtain ⟨effect, table, broken, ⟨marks, unreported, raised⟩, all, queue, slot1, slot2, active, stale, frame⟩ :=
      u.clearPlan_spec
    refine ⟨_, congrArg Host.Outcome.next (serve_reply takes.1 takes.2 block), ?_, ?_, ?_, ?_, ?_, ?_, broken,
      ⟨marks, unreported, fun fresh => ?_⟩, all, queue, slot1, slot2, active, stale, effect.unmarked,
      effect.raises.answers, effect.raises.answered.mono (by simp), ?_⟩
    · exact (congrArg State.plan frame :)
    · exact (congrArg State.odo frame :)
    · exact (congrArg State.appr frame :)
    · exact (congrArg State.form frame :)
    · have free : u.clearPlan.table.free = (s.table.keeping fun _ => []).free := (congrArg SeatTable.free table :)
      exact free
    · have seats : u.clearPlan.table.undisplayed.seats = (s.table.keeping fun _ => []).undisplayed.seats :=
        congrArg SeatTable.seats table
      refine seats.trans ?_
      show List.map _ (List.map _ _) = _
      rw [List.map_map]
      rfl
    · show _ ∈ (State.port (State.answer _ _ _ _ _) .content).events
      rw [State.answer_events]
      refine raised ?_
      obtain ⟨b, hb, clear⟩ := fresh
      exact ⟨b, hb, clear⟩
    · exact congrArg (fun v : State => { v with
        plan := s.plan, odo := s.odo, appr := s.appr, form := s.form, link := s.link }) frame
  · have unplannable (k : Byte) (b : List Byte) : ¬ (s.enter p k b).plannable = true := fun h => by
      have state : s.plan.state = .ready ∨ s.plan.state = .running := s.plannable_iff.mp h
      rw [empty] at state
      exact state.elim nofun nofun
    refine ⟨?_, ?_, ?_⟩
    · intro num f e tag k label replace h1 h999 hf he htag hlabel b takes
      obtain ⟨-, -, -, -, -, -, -, form⟩ := putPayload_reads (k := k) replace h1 h999 hf he htag hlabel
      have block : putSegmentBlock b (s.enter p 0x42 b) = refuse (s.enter p 0x42 b) .wrongState := by
        rw [putSegmentBlock, if_neg (not_not_intro form), if_pos (unplannable 0x42 b)]
      exact congrArg Host.Outcome.next (serve_refuse takes block)
    · intro m n hm1 hm999 hn1 hn999 apart takes
      have readM : u16 (be 2 m ++ be 2 n) 0 = m := u16_be_two m _ (by omega)
      have readN : u16 (be 2 m ++ be 2 n) 2 = n := (u16_be_two_skip m (be 2 n) 0).trans (u16_be_two_end (by omega))
      have form : (be 2 m ++ be 2 n).length = 4 ∧ seatNumberOk m = true ∧ seatNumberOk n = true ∧ m ≠ n :=
        ⟨rfl, seatNumberOk_of_range hm1 hm999, seatNumberOk_of_range hn1 hn999, apart⟩
      have block : moveSeatBlock (be 2 m ++ be 2 n) (s.enter p 0x45 (be 2 m ++ be 2 n))
          = refuse (s.enter p 0x45 (be 2 m ++ be 2 n)) .wrongState := by
        rw [moveSeatBlock, readM, readN, if_neg (not_not_intro form), if_pos (.inl (unplannable _ _))]
      exact congrArg Host.Outcome.next (serve_refuse takes block)
    · intro num x legs h1 h999 some_ short coded hold found b takes
      have count : commitCount (commitPayload num legs) ≠ 0 := by
        rw [commitPayload_count short]
        omega
      have block : commitBlock p b (s.enter p 0x49 b) = refuse (s.enter p 0x49 b) .wrongState := by
        refine (commitBlock_standing h1 h999 short coded (s := s.enter p 0x49 b) hold found).trans ?_
        rw [commitChecks, if_pos ⟨count, unplannable 0x49 b⟩]
      exact congrArg Host.Outcome.next (serve_reply takes.1 takes.2 block)

end Sys2Proof.Machine
end

section
/-!
Proofs of the statements about Set Leading End and Write Layout (R85, R89, R151).
-/
namespace Sys2Proof.Machine

/-! ### Notices dropped (R151, R162, R163) -/

section Dropped

variable {s : State}

/-- The end of the active notice raises nothing (R158). -/
theorem State.endActive_link (s : State) : s.endActive.link = s.link := by
  have head (t : State) : t.startHead.link = t.link := by
    unfold State.startHead
    split <;> rfl
  have lower (t : State) : t.returnLower.link = t.link := by
    unfold State.returnLower
    split
    · rfl
    · exact head t
  have dropped : s.dropActive.link = s.link := (congrArg State.link s.dropActive_frame :)
  unfold State.endActive
  split
  · rfl
  · split
    · refine Eq.trans ?_ dropped
      unfold State.returnFromAlarm
      split
      · exact lower _
      · split
        · exact head _
        · rfl
    · exact (lower _).trans dropped

/-- Where a saved or queued notice ends, NOTICE_DROPPED of one that does is pending (R162). -/
theorem State.dropSaved_raised {ends : Notice → Bool} (some_ : s.seq.saved ends ≠ []) :
    ∃ n ∈ s.seq.saved ends,
      .noticeDropped n.cls n.tag n.kind n.stop .expired ∈ (s.dropSaved ends).link.operations.events := by
  have last (l : List Notice) (h : l ≠ []) (t : State) : ∃ n ∈ l, .noticeDropped n.cls n.tag n.kind n.stop .expired
      ∈ (l.foldl (fun t n => t.raiseDropped .expired n) t).link.operations.events := by
    rw [← List.dropLast_append_getLast h, List.foldl_append]
    exact ⟨l.getLast h, List.mem_append_right _ (List.mem_singleton_self _), State.raise_mem_operations _ _ rfl⟩
  exact last _ some_ _

theorem State.endNotices_link (ends : Notice → Bool) (s : State) : (s.endNotices ends).link = (s.dropSaved ends).link := by
  rw [State.endNotices_eq]
  split
  · exact State.endActive_link _
  · rfl

theorem State.retestShort_link (s : State) : s.retestShort.link = (s.dropSaved s.targetGone).link := by
  refine Eq.trans ?_ (s.endNotices_link s.targetGone)
  unfold State.retestShort
  dsimp only
  split <;> rfl

theorem State.targeted_none {n : Notice} : s.targeted n = none ↔ s.targetGone n = true := by
  rw [s.targeted_eq]
  split
  next gone => exact ⟨fun _ => gone, fun _ => rfl⟩
  next stays => exact ⟨nofun, fun gone => absurd gone stays⟩

theorem Sequencer.mem_saved {q : Sequencer} {ends : Notice → Bool} {n : Notice} :
    n ∈ q.saved ends ↔ n ∈ q.slot1.toList ++ q.slot2.toList ++ q.queue ∧ ends n = true := List.mem_filter

end Dropped

/-- The level alone is compared where the brightness' inputs are as before the event. -/
theorem State.settle_eq_settleLevel {s before : State} (bright : s.bright = before.bright) (odo : s.odo = before.odo)
    (clock : s.clock = before.clock) : s.settle before = s.settleLevel before := by
  rw [State.settle, State.settleBrightness_same bright odo clock]

/-! ### Set Leading End (R85) -/

/-- What turning an attached coach leaves (R85, R151). -/
theorem State.turnTrain_spec {s : State} (attached : s.attached = true) (e : TrainEnd) :
    let t := s.turnTrain e
    s.Effect [0x05, 0x06, 0x07] t ∧ t.StaleAt (fun _ => true)
    ∧ .formation false true t.position t.portion t.facing ∈ t.link.operations.events
    ∧ t.seq = t.retested s.seq
    ∧ (let saved := s.seq.slot1.toList ++ s.seq.slot2.toList ++ s.seq.queue
      (∃ n ∈ saved, t.targeted n = none) →
        ∃ n ∈ saved, t.targeted n = none
          ∧ .noticeDropped n.cls n.tag n.kind n.stop .expired ∈ t.link.operations.events)
    ∧ (s.level ≠ t.level → .noticeLevel s.level t.level ∈ t.link.operations.events)
    ∧ { t with seq := s.seq, link := s.link, line := s.line } = { s with form := { s.form with lead := e } } := by
  intro t
  let v : State := { s with form := { s.form with lead := e } }
  let w := (v.staleAll).raiseFormation false
  have attached_ : w.attached = true := attached
  obtain ⟨step, -⟩ := w.retestShort_notice
  have seq := w.retestShort_seq
  have link := w.retestShort_link
  have t_eq : t = w.retestShort.settleLevel s := by
    have bright : w.retestShort.bright = s.bright := (congrArg State.bright step.frame :)
    have odo : w.retestShort.odo = s.odo := (congrArg State.odo step.frame :)
    have clock : w.retestShort.clock = s.clock := (congrArg State.clock step.frame :)
    rw [← State.settle_eq_settleLevel bright odo clock]
    exact if_pos attached
  have leveled := w.retestShort.settleLevel_frame s
  have line := State.settleLevel_line (s := w.retestShort) s
  have frame : { t with seq := w.seq, link := w.link, line := w.line } = w := by
    rw [t_eq]
    exact (congrArg (fun u : State => { u with seq := w.seq, link := w.link, line := w.line }) leveled).trans step.frame
  have tail : w.Effect [0x06, 0x07] t := by
    rw [t_eq]
    exact (step.effect.mono (by simp)).trans
      ⟨(State.raises_settleLevel _ s).mono (by simp), congrArg PanelLine.unmarked line, fun _ h => h.of_line line⟩
  have seq_ : t.seq = w.retested s.seq := by
    rw [t_eq, State.settleLevel_seq, seq]
    rfl
  have same : t.retested = w.retested := (congrArg State.retested frame :)
  have target : t.targeted = w.targeted := (congrArg State.targeted frame :)
  have stale : w.StaleAt fun _ => true := (State.staleAt_staleWhere v _).of_line rfl
  refine ⟨?_, tail.stale _ stale, ?_, seq_.trans (congrFun same.symm _), fun ⟨n, mem, gone⟩ => ?_, fun differs => ?_, ?_⟩
  · have first : s.Effect [0x05] w := (State.Effect.of_same (s := s) (t := v) rfl rfl).trans
      ((State.effect_staleWhere (s := v) _).trans (State.effect_raise rfl _))
    exact (first.mono (by simp)).trans (tail.mono (by simp))
  · have position : t.position = w.position := (congrArg State.position frame :)
    have portion : t.portion = w.portion := (congrArg State.portion frame :)
    have facing : t.facing = w.facing := (congrArg State.facing frame :)
    rw [position, portion, facing, ← attached_]
    exact tail.raises.operations rfl (State.raise_mem_operations _ _ rfl)
  · rw [target, State.targeted_none] at gone
    have some_ : w.seq.saved w.targetGone ≠ [] := List.ne_nil_of_mem (Sequencer.mem_saved.mpr ⟨mem, gone⟩)
    obtain ⟨m, inside, raised⟩ := State.dropSaved_raised some_
    obtain ⟨mem_, gone_⟩ := Sequencer.mem_saved.mp inside
    refine ⟨m, mem_, by rw [target, State.targeted_none]; exact gone_, ?_⟩
    rw [← link] at raised
    rw [t_eq]
    exact (State.raises_settleLevel _ s).operations rfl raised
  · rw [t_eq] at differs ⊢
    have level : (w.retestShort.settleLevel s).level = w.retestShort.level :=
      congrArg (fun q : Sequencer => levelOf q.active) (State.settleLevel_seq _ _)
    rw [level] at differs ⊢
    exact State.settleLevel_raised differs
  · exact (congrArg (fun u : State => { u with seq := s.seq, link := s.link, line := s.line }) frame :)

theorem TrainEnd.ofCode_code (e : TrainEnd) : TrainEnd.ofCode e.code = e := by cases e <;> rfl

/-- Settles O34: the train turns where its end is another, and a bank entry is written. -/
theorem leadingEndAndLayout : Obligations.LeadingEndAndLayout := by
  refine ⟨fun s e still takes => ?_, ?_⟩
  · let b : List Byte := [BitVec.ofNat 8 e.code]
    let u := s.enter .operations 0x33 b
    have read : u8 b 0 = e.code := by cases e <;> rfl
    have form : b.length = 1 ∧ (u8 b 0 = 1 ∨ u8 b 0 = 2) := by
      refine ⟨rfl, ?_⟩
      cases e
      · exact .inl rfl
      · exact .inr rfl
    have moving : ¬ (u.plan.state = .running ∧ ¬ u.appr.standstill = true) := fun h => h.2 (still h.1)
    have block : setLeadingEndBlock b u = done (if s.form.lead = e then u else u.turnTrain e)
        (be 1 (if s.form.lead = e then u else u.turnTrain e).form.lead.code
          ++ be 1 (if s.form.lead = e then u else u.turnTrain e).position
          ++ be 1 (if s.form.lead = e then u else u.turnTrain e).facing.code) := by
      rw [setLeadingEndBlock, if_neg (not_not_intro form), if_neg moving, read, TrainEnd.ofCode_code]
      rfl
    have served := serve_reply (always := id) takes.1 takes.2 block
    by_cases same : s.form.lead = e
    · subst same
      rw [if_pos rfl] at served
      exact ⟨_, congrArg Host.Outcome.next served, rfl, rfl, fun differs => absurd rfl differs, fun _ => ⟨rfl, rfl, rfl⟩, rfl, rfl⟩
    · rw [if_neg same] at served
      cases attached : s.attached with
      | false =>
        have turned : u.turnTrain e = { u with form := { u.form with lead := e } } :=
          if_neg (by rw [show u.attached = false from attached]; exact Bool.false_ne_true)
        rw [turned] at served
        exact ⟨_, congrArg Host.Outcome.next served, rfl, rfl, fun _ h => absurd h nofun, fun _ => ⟨rfl, rfl, rfl⟩, rfl, rfl⟩
      | true =>
        obtain ⟨effect, stale, raised, seq, dropped, level, frame⟩ := State.turnTrain_spec (s := u) attached e
        have lead : (u.turnTrain e).form = { s.form with lead := e } := (congrArg State.form frame :)
        refine ⟨_, congrArg Host.Outcome.next served, lead, ?_, fun _ _ => ⟨stale, ?_, seq, ?_, ?_, ?_⟩,
          fun h => h.elim (fun h => absurd h same) nofun, effect.unmarked, ?_⟩
        · exact Eq.trans effect.raises.answers
            (congrArg (fun f : Formation => (s.replied .operations 0x33 b .done
              (be 1 f.lead.code ++ be 1 (u.turnTrain e).position ++ be 1 (u.turnTrain e).facing.code)).link.quiet) lead)
        · exact (State.answer_events _ .operations .operations 0x33 .done _).symm ▸ raised
        · exact fun gone => (State.answer_events _ .operations .operations 0x33 .done _).symm ▸ dropped gone
        · exact fun differs => (State.answer_events _ .operations .operations 0x33 .done _).symm ▸ level differs
        · exact effect.raises.answered
        · exact congrArg (fun v : State => { v with form := s.form, link := s.link }) frame
  · intro s bankB right addr arrow h1 h24 b x takes
    have arrowCode : arrow.code ≤ 2 := by cases arrow <;> decide
    have bankRead : u8 b 0 = if bankB then 1 else 0 := by
      simp only [b, List.append_assoc]
      exact u8_be_one _ _ (by split <;> decide)
    have addrRead : u8 b 1 = addr := by
      simp only [b, List.append_assoc, u8_be_one_skip, u8_be_one _ _ (by omega : addr < 256)]
    have arrowRead : u8 b 2 = arrow.code := by
      simp only [b, List.append_assoc, u8_be_one_skip, u8_be_one _ _ (by omega : arrow.code < 256)]
    have rightRead : u8 b 3 = if right then 1 else 0 := by
      simp only [b, List.append_assoc, u8_be_one_skip]
      cases right <;> rfl
    have arrow_ : Arrow.ofCode arrow.code = arrow := by cases arrow <;> rfl
    have form : b.length = 4 ∧ u8 b 0 ≤ 1 ∧ 1 ≤ u8 b 1 ∧ u8 b 1 ≤ 24 ∧ u8 b 2 ≤ 2 ∧ u8 b 3 ≤ 1 := by
      rw [bankRead, addrRead, arrowRead, rightRead]
      exact ⟨rfl, by split <;> decide, h1, h24, arrowCode, by split <;> decide⟩
    let u := s.enter .operations 0x35 b
    let named (y : Panel) : Bool := decide (y.addr = addr) && decide (s.facing = if bankB then .bLeads else .aLeads)
    let after (f : Formation) (panels : List Panel) : State :=
      { u with form := f, line := { s.line with panels := panels.map fun y => { y with stale := y.stale || named y } } }
    have written : s.form.writeBank bankB addr x = { s.form with
        bankA := if bankB then s.form.bankA else s.form.bankA.set (addr - 1) x
        bankB := if bankB then s.form.bankB.set (addr - 1) x else s.form.bankB } := by
      cases bankB <;> rfl
    have block : writeLayoutBlock b u = done (after (s.form.writeBank bankB addr x) s.line.panels) [] := by
      have entry : (⟨Arrow.ofCode (u8 b 2), decide (u8 b 3 = 1)⟩ : LayoutEntry) = x := by
        rw [arrowRead, arrow_, rightRead]
        cases right <;> rfl
      have bank : decide (u8 b 0 = 1) = bankB := by
        rw [bankRead]
        cases bankB <;> rfl
      have facing : u8 b 0 = u.facing.code ↔ s.facing = if bankB then .bLeads else .aLeads := by
        rw [bankRead, show u.facing = s.facing from rfl]
        cases s.facing <;> cases bankB <;> decide
      rw [writeLayoutBlock, if_neg (not_not_intro form), entry, bank, addrRead]
      refine congrArg (fun v => done v []) ?_
      by_cases active : s.facing = if bankB then .bLeads else .aLeads
      · rw [if_pos (facing.mpr active)]
        have same : named = fun y => decide (y.addr = addr) := by
          funext y
          simp only [named, active, decide_true, Bool.and_true]
        exact congrArg (fun l : PanelLine => { u with form := s.form.writeBank bankB addr x, line := l })
          ((congrArg (fun f => (s.staleWhere f).line) same.symm).trans (State.staleWhere_line named s))
      · rw [if_neg fun h => active (facing.mp h)]
        have same : named = fun _ => false := by
          funext y
          simp only [named, active, decide_false, Bool.and_false]
        have kept : (s.line.panels.map fun y => { y with stale := y.stale || named y }) = s.line.panels := by
          rw [same]
          simp
        exact congrArg (fun l => { u with form := s.form.writeBank bankB addr x, line := { s.line with panels := l } })
          kept.symm
    rw [written] at block
    exact congrArg Host.Outcome.next (serve_reply takes.1 takes.2 block)

end Sys2Proof.Machine
end

section
/-!
Proofs of the statements about the Brightness Unit and its heat guard (R210 to R218).
-/
namespace Sys2Proof.Machine

/-! ### The comparison of brightness (R218) -/

section Settle

variable (s before : State)

/-- A ceiling or a brightness that differs marks every panel stale (R218). -/
theorem State.settleBrightness_stale
    (differs : before.bright.ceiling ≠ s.bright.ceiling ∨ ∃ k, before.brightness k ≠ s.brightness k) :
    (s.settleBrightness before).StaleAt fun _ => true := by
  unfold State.settleBrightness
  dsimp only
  rw [if_neg]
  · exact State.staleAt_staleWhere _ _
  · rintro ⟨ceiling, strip, doorMap, banner⟩
    rcases differs with differs | ⟨k, differs⟩
    · exact differs ceiling
    · cases k with
      | seatStrip => exact differs strip
      | doorMap => exact differs doorMap
      | banner => exact differs banner

/-- With ceiling and brightness as before no panel is marked (R218). -/
theorem State.settleBrightness_line_same (ceiling : before.bright.ceiling = s.bright.ceiling)
    (brightness : ∀ k, before.brightness k = s.brightness k) : (s.settleBrightness before).line = s.line := by
  unfold State.settleBrightness
  dsimp only
  rw [if_pos ⟨ceiling, brightness _, brightness _, brightness _⟩]
  split <;> rfl

/-- HEAT is pending where the heat state or the ceiling differs (R218). -/
theorem State.settleBrightness_heat
    (differs : before.bright.heat ≠ s.bright.heat ∨ before.bright.ceiling ≠ s.bright.ceiling) :
    .heat s.bright.heat s.bright.ceiling ∈ (s.settleBrightness before).link.operations.events := by
  rw [State.settleBrightness_link, if_pos differs]
  exact State.raise_mem_operations _ _ rfl

theorem State.settleBrightness_bright : (s.settleBrightness before).bright = s.bright :=
  (congrArg State.bright (s.settleBrightness_frame before) :)

theorem State.settleBrightness_brightness : (s.settleBrightness before).brightness = s.brightness :=
  (congrArg State.brightness (s.settleBrightness_frame before) :)

/-- What the comparison with the state before leaves of the panels (R218). -/
theorem State.settleBrightness_panels :
    (before.bright.ceiling ≠ (s.settleBrightness before).bright.ceiling
        ∨ (∃ k, before.brightness k ≠ (s.settleBrightness before).brightness k) →
      (s.settleBrightness before).StaleAt fun _ => true)
    ∧ (before.bright.ceiling = (s.settleBrightness before).bright.ceiling →
      (∀ k, before.brightness k = (s.settleBrightness before).brightness k) →
      (s.settleBrightness before).line = s.line)
    ∧ (s.settleBrightness before).line.unmarked = s.line.unmarked := by
  rw [State.settleBrightness_bright, State.settleBrightness_brightness]
  exact ⟨s.settleBrightness_stale before, s.settleBrightness_line_same before, s.settleBrightness_unmarked before⟩

end Settle

/-! ### Set Levels and Set Tunnels (R211, R212) -/

/-- The payload of Set Tunnels (R212). -/
def tunnelsPayload (ranges : List (Nat × Nat)) : List Byte :=
  be 1 ranges.length ++ ranges.flatMap fun r => be 4 r.1 ++ be 4 r.2

section Tunnels

variable {ranges : List (Nat × Nat)}

theorem ranges_flatMap_length (ranges : List (Nat × Nat)) :
    (ranges.flatMap fun r => be 4 r.1 ++ be 4 r.2).length = 8 * ranges.length := by
  induction ranges with
  | nil => rfl
  | cons r rs ih => rw [List.flatMap_cons, List.length_append, ih, List.length_append, be_length, be_length, List.length_cons]; omega

theorem tunnelsPayload_length : (tunnelsPayload ranges).length = 1 + 8 * ranges.length := by
  rw [tunnelsPayload, List.length_append, be_length, ranges_flatMap_length]

theorem tunnelsPayload_count (short : ranges.length ≤ 16) : u8 (tunnelsPayload ranges) 0 = ranges.length :=
  u8_be_one _ _ (by omega)

/-- A range is read back (R212). -/
theorem tunnelsPayload_range {i : Nat} (hi : i < ranges.length) (first : ranges[i].1 < 4294967296)
    (second : ranges[i].2 < 4294967296) :
    (u32 (tunnelsPayload ranges) (1 + 8 * i), u32 (tunnelsPayload ranges) (5 + 8 * i)) = ranges[i] := by
  let bytes (l : List (Nat × Nat)) : List Byte := l.flatMap fun r => be 4 r.1 ++ be 4 r.2
  have whole : ranges = ranges.take i ++ ranges[i] :: ranges.drop (i + 1) := by
    rw [← List.drop_eq_getElem_cons hi, List.take_append_drop]
  have split : bytes ranges = bytes (ranges.take i) ++ (be 4 ranges[i].1 ++ (be 4 ranges[i].2 ++ bytes (ranges.drop (i + 1)))) := by
    have cut : bytes ranges = bytes (ranges.take i ++ ranges[i] :: ranges.drop (i + 1)) := congrArg bytes whole
    rw [cut]
    simp only [bytes, List.flatMap_append, List.flatMap_cons, List.append_assoc]
  let front := be 1 ranges.length ++ bytes (ranges.take i)
  have size : front.length = 1 + 8 * i := by
    rw [List.length_append, be_length, ranges_flatMap_length, List.length_take, Nat.min_eq_left hi.le]
  have payload : tunnelsPayload ranges
      = front ++ (be 4 ranges[i].1 ++ (be 4 ranges[i].2 ++ bytes (ranges.drop (i + 1)))) := by
    rw [List.append_assoc]
    exact congrArg (be 1 ranges.length ++ ·) split
  have one : u32 (tunnelsPayload ranges) (1 + 8 * i) = ranges[i].1 := by
    rw [payload]
    exact (u32_skip size _ 0).trans (u32_be_four _ _ first)
  have two : u32 (tunnelsPayload ranges) (5 + 8 * i) = ranges[i].2 := by
    rw [payload, show 5 + 8 * i = 1 + 8 * i + 4 by omega]
    exact (u32_skip size _ 4).trans ((u32_skip (be_length 4 _) _ 0).trans (u32_be_four _ _ second))
  rw [one, two]

theorem tunnelsOf_payload (short : ranges.length ≤ 16) (sound : ∀ r ∈ ranges, r.1 < r.2 ∧ r.2 ≤ 4000000) :
    tunnelsOf (tunnelsPayload ranges) = ranges := by
  rw [tunnelsOf, tunnelsPayload_count short]
  refine List.ext_getElem (by simp) fun i _ hi => ?_
  obtain ⟨order, high⟩ := sound _ (List.getElem_mem hi)
  rw [List.getElem_map, List.getElem_range]
  exact tunnelsPayload_range hi (by omega) (by omega)

theorem setTunnelsOk_payload (short : ranges.length ≤ 16) (sound : ∀ r ∈ ranges, r.1 < r.2 ∧ r.2 ≤ 4000000) :
    setTunnelsOk (tunnelsPayload ranges) = true := by
  have each : ∀ r ∈ ranges, r.1 ≤ 4000000 ∧ r.2 ≤ 4000000 ∧ r.1 < r.2 := fun r hr => by
    obtain ⟨order, high⟩ := sound r hr
    omega
  simp only [setTunnelsOk, tunnelsOf_payload short sound, tunnelsPayload_count short, tunnelsPayload_length,
    Bool.and_eq_true, decide_eq_true_eq, List.all_eq_true]
  exact ⟨⟨⟨by omega, short⟩, trivial⟩, fun r hr => ⟨⟨(each r hr).1, (each r hr).2.1⟩, (each r hr).2.2⟩⟩

end Tunnels

/-- The payload of Set Levels (R211). -/
def levelsPayload (l m n : Levels) (dusk dawn : Nat) : List Byte :=
  (be 1 l.day ++ be 1 l.night ++ be 1 l.tunnel) ++ (be 1 m.day ++ be 1 m.night ++ be 1 m.tunnel)
    ++ (be 1 n.day ++ be 1 n.night ++ be 1 n.tunnel) ++ be 2 dusk ++ be 2 dawn

/-- The eleven values are read back (R211). -/
theorem levelsPayload_reads {l m n : Levels} {dusk dawn : Nat}
    (sound : ∀ x ∈ [l, m, n], x.day ≤ 15 ∧ x.night ≤ 15 ∧ x.tunnel ≤ 15) (hdusk : dusk < 1440) (hdawn : dawn < 1440) :
    let b := levelsPayload l m n dusk dawn
    levelsAt b 0 = l ∧ levelsAt b 3 = m ∧ levelsAt b 6 = n ∧ u16 b 9 = dusk ∧ u16 b 11 = dawn
    ∧ setLevelsOk b = true := by
  intro b
  obtain ⟨ld, ln, lt⟩ := sound l (by simp)
  obtain ⟨md, mn, mt⟩ := sound m (by simp)
  obtain ⟨nd, nn, nt⟩ := sound n (by simp)
  have small {v : Nat} (h : v ≤ 15) : v < 256 := by omega
  have readL : levelsAt b 0 = l := by
    simp only [levelsAt, b, levelsPayload, List.append_assoc, u8_be_one_skip, u8_be_one _ _ (small ld),
      u8_be_one _ _ (small ln), u8_be_one _ _ (small lt)]
  have readM : levelsAt b 3 = m := by
    simp only [levelsAt, b, levelsPayload, List.append_assoc, u8_be_one_skip, u8_be_one _ _ (small md),
      u8_be_one _ _ (small mn), u8_be_one _ _ (small mt)]
  have readN : levelsAt b 6 = n := by
    simp only [levelsAt, b, levelsPayload, List.append_assoc, u8_be_one_skip, u8_be_one _ _ (small nd),
      u8_be_one _ _ (small nn), u8_be_one _ _ (small nt)]
  have readDusk : u16 b 9 = dusk := by
    simp only [b, levelsPayload, List.append_assoc, u16_be_one_skip, u16_be_two _ _ (by omega : dusk < 65536)]
  have readDawn : u16 b 11 = dawn := by
    simp only [b, levelsPayload, List.append_assoc, u16_be_one_skip, u16_be_two_skip,
      u16_be_two_end (by omega : dawn < 65536)]
  have below : ∀ i < 9, u8 b i ≤ 15 := by
    have three {i : Nat} {x : Levels} (read : levelsAt b i = x) (h : x.day ≤ 15 ∧ x.night ≤ 15 ∧ x.tunnel ≤ 15) :
        u8 b i ≤ 15 ∧ u8 b (i + 1) ≤ 15 ∧ u8 b (i + 2) ≤ 15 := by
      subst read
      exact h
    obtain ⟨h0, h1, h2⟩ := three readL ⟨ld, ln, lt⟩
    obtain ⟨h3, h4, h5⟩ := three readM ⟨md, mn, mt⟩
    obtain ⟨h6, h7, h8⟩ := three readN ⟨nd, nn, nt⟩
    intro i hi
    obtain rfl | rfl | rfl | rfl | rfl | rfl | rfl | rfl | rfl :
      i = 0 ∨ i = 1 ∨ i = 2 ∨ i = 3 ∨ i = 4 ∨ i = 5 ∨ i = 6 ∨ i = 7 ∨ i = 8 := by omega
    all_goals assumption
  refine ⟨readL, readM, readN, readDusk, readDawn, ?_⟩
  simp only [setLevelsOk, readDusk, readDawn, hdusk, hdawn, Bool.and_eq_true, decide_eq_true_eq, List.all_eq_true,
    List.mem_range, and_true]
  exact ⟨rfl, below⟩

/-- Whether the clock stands in the night span (R210). -/
theorem State.atNight_iff (s : State) : s.atNight = true ↔ s.clock.set = true
    ∧ if s.bright.dusk < s.bright.dawn then s.bright.dusk ≤ s.clock.second / 60 % 1440
        ∧ s.clock.second / 60 % 1440 < s.bright.dawn
      else s.bright.dawn < s.bright.dusk
        ∧ (s.bright.dusk ≤ s.clock.second / 60 % 1440 ∨ s.clock.second / 60 % 1440 < s.bright.dawn) := by
  rw [State.atNight, Clock.minute]
  cases s.clock.set with
  | false => simp
  | true =>
    simp only [if_true, true_and, nightSpan]
    split
    · simp
    · split
      next wraps => simp [wraps]
      next equal => simp [equal]

theorem State.inTunnel_iff (s : State) :
    s.inTunnel = true ↔ ∃ r ∈ s.bright.tunnels, r.1 ≤ s.odo.position ∧ s.odo.position < r.2 := by
  simp [State.inTunnel]

/-- Settles O56: the brightness is compared after each change of its inputs. -/
theorem brightnessReformed : Obligations.BrightnessReformed := by
  unfold Obligations.BrightnessReformed
  intro reformed
  refine ⟨fun s l m n dusk dawn sound hdusk hdawn => ?_, fun s ranges short sound => ?_, fun s active on differs => ?_,
    fun s k => ?_⟩
  · intro three b takes
    obtain ⟨readL, readM, readN, readDusk, readDawn, form⟩ : levelsAt b 0 = l ∧ levelsAt b 3 = m ∧ levelsAt b 6 = n
      ∧ u16 b 9 = dusk ∧ u16 b 11 = dawn ∧ setLevelsOk b = true := levelsPayload_reads sound hdusk hdawn
    let u := s.enter .operations 0x73 b
    let v : State := { u with bright := { s.bright with strip := l, doorMap := m, banner := n, dusk := dusk, dawn := dawn } }
    have block : setLevelsBlock b u = done (v.settleBrightness u) [] := by
      have values : u.bright.setLevels b = v.bright := by
        show ({ s.bright with strip := levelsAt b 0, doorMap := levelsAt b 3, banner := levelsAt b 6, dusk := u16 b 9
                              dawn := u16 b 11 } : Brightness) = _
        rw [readL, readM, readN, readDusk, readDawn]
      rw [setLevelsBlock, if_neg (not_not_intro form), values]
      rfl
    have same : u.bright.heat = v.bright.heat ∧ u.bright.ceiling = v.bright.ceiling := ⟨rfl, rfl⟩
    have link : (v.settleBrightness u).link = u.link := by
      rw [State.settleBrightness_link, if_neg (not_or.mpr ⟨not_not_intro same.1, not_not_intro same.2⟩)]
    refine ⟨_, congrArg Host.Outcome.next (serve_reply takes.1 takes.2 block), v.settleBrightness_bright u, ?_,
      v.settleBrightness_panels u, ?_⟩
    · exact congrArg (fun k : Link => ({ u with link := k }.answer .operations 0x73 .done []).link) link
    · exact congrArg (fun w : State => { w with bright := s.bright, link := s.link, line := s.line })
        (v.settleBrightness_frame u)
  · intro b takes
    let u := s.enter .operations 0x74 b
    let v : State := { u with bright := { s.bright with tunnels := ranges } }
    have inside : (v.settleBrightness u).inTunnel
        = ranges.any fun r => decide (r.1 ≤ s.odo.position) && decide (s.odo.position < r.2) :=
      (congrArg State.inTunnel (v.settleBrightness_frame u) :)
    have block : setTunnelsBlock b u = done (v.settleBrightness u)
        (flag (ranges.any fun r => decide (r.1 ≤ s.odo.position) && decide (s.odo.position < r.2))) := by
      have form : setTunnelsOk b = true := setTunnelsOk_payload short sound
      rw [← inside, setTunnelsBlock, if_neg (not_not_intro form),
        show tunnelsOf b = ranges from tunnelsOf_payload short sound]
      rfl
    have same : u.bright.heat = v.bright.heat ∧ u.bright.ceiling = v.bright.ceiling := ⟨rfl, rfl⟩
    have link : (v.settleBrightness u).link = u.link := by
      rw [State.settleBrightness_link, if_neg (not_or.mpr ⟨not_not_intro same.1, not_not_intro same.2⟩)]
    refine ⟨_, congrArg Host.Outcome.next (serve_reply takes.1 takes.2 block), v.settleBrightness_bright u, ?_,
      v.settleBrightness_panels u, ?_⟩
    · exact congrArg (fun k : Link => ({ u with link := k }.answer .operations 0x74 .done
        (flag (ranges.any fun r => decide (r.1 ≤ s.odo.position) && decide (s.odo.position < r.2)))).link) link
    · exact congrArg (fun w : State => { w with bright := s.bright, link := s.link, line := s.line })
        (v.settleBrightness_frame u)
  · let v : State := { s with overheatLine := active, bright := { s.bright with overheat := active } }
    let w := v.raise (.overheat active)
    have frame := w.settleBrightness_frame s
    have raises : w.Raises [0x09] (w.settleBrightness s) := w.raises_settleBrightness s
    have first : v.Raises [0x0A] w := State.raises_raise rfl v
    refine ⟨w.settleBrightness s, ?_, (congrArg State.overheatLine frame :), w.settleBrightness_bright s, ?_,
      fun ceiling => ?_, raises.quiet.trans first.quiet, ?_, w.settleBrightness_panels s, ?_⟩
    · exact congrArg Host.Outcome.next ((if_neg differs).trans (if_pos on))
    · exact raises.operations rfl (State.raise_mem_operations _ _ rfl)
    · rw [w.settleBrightness_bright s] at ceiling ⊢
      exact w.settleBrightness_heat s (.inr ceiling)
    · exact ((first.mono (more := [0x09, 0x0A]) (by simp)).trans (raises.mono (by simp))).only
    · exact congrArg (fun t : State => { t with
        overheatLine := s.overheatLine, bright := s.bright, link := s.link, line := s.line }) frame
  · intro levels m tunnel night guard
    have tunnel_ : s.inTunnel = true ↔ tunnel := s.inTunnel_iff
    have night_ : s.atNight = true ↔ night := s.atNight_iff
    have levels_ : s.bright.levels k = levels := by cases k <;> rfl
    have guard_ : s.bright.guard.ceiling s.bright.heat = guard := by
      simp only [guard]
      cases s.bright.heat <;> rfl
    refine ⟨?_, ?_, guard_, ?_, rfl⟩
    · rw [State.ambient, levels_]
      simp only [tunnel_, night_]
    · rw [State.ambientSource]
      simp only [tunnel_, night_]
    · rw [Brightness.ceiling, guard_]

/-! ### The heat guard (R213 to R216) -/

/-- A Set Heat Guard payload in its coding is read back (R214). -/
theorem heatGuardOf_payload {lo hi warm hot : Nat} (falling : Bool) (order : lo < hi) (hhi : hi < 65536)
    (hwarm : warm ≤ 15) (hhot : hot ≤ warm) :
    let b := be 2 lo ++ be 2 hi ++ flag falling ++ be 1 warm ++ be 1 hot
    heatGuardOk b = true ∧ heatGuardOf b = ⟨lo, hi, falling, warm, hot, true, false⟩ := by
  intro b
  have sent : flag falling = be 1 falling.toNat := by cases falling <;> rfl
  have bit : falling.toNat ≤ 1 := by cases falling <;> decide
  have read0 : u16 b 0 = lo := by simp only [b, List.append_assoc, u16_be_two _ _ (by omega : lo < 65536)]
  have read2 : u16 b 2 = hi := by simp only [b, List.append_assoc, u16_be_two_skip, u16_be_two _ _ hhi]
  have read4 : u8 b 4 = falling.toNat := by
    simp only [b, sent, List.append_assoc, u8_be_two_skip, u8_be_one _ _ (by omega : falling.toNat < 256)]
  have read5 : u8 b 5 = warm := by
    simp only [b, sent, List.append_assoc, u8_be_two_skip, u8_be_one_skip, u8_be_one _ _ (by omega : warm < 256)]
  have read6 : u8 b 6 = hot := by
    simp only [b, sent, List.append_assoc, u8_be_two_skip, u8_be_one_skip, u8_be_one_end (by omega : hot < 256)]
  have falling_ : decide (falling.toNat = 1) = falling := by cases falling <;> rfl
  have size : b.length = 7 := rfl
  refine ⟨?_, by rw [heatGuardOf, read0, read2, read4, read5, read6, falling_]⟩
  simp only [heatGuardOk, size, read0, read2, read4, read5, read6, order, bit, hwarm, hhot, decide_true, Bool.and_true]

/-- Settles O57: a window or Enable forms the heat state; the configuration is written while not enabled. -/
theorem heatGuardMeasuresAndLocks : Obligations.HeatGuardMeasuresAndLocks := by
  unfold Obligations.HeatGuardMeasuresAndLocks
  intro table
  refine ⟨fun s on => ?_, fun s lo hi warm hot falling order hhi hwarm hhot => ?_, fun s configured takes => ?_,
    fun c s t enabled notReset notLoss next => exec_guard enabled notReset notLoss next⟩
  · let v : State := { s with bright := s.bright.windowEnd }
    refine ⟨v.settleBrightness s, live_next on, v.settleBrightness_bright s, fun differs => ?_, fun ceiling => ?_, ?_⟩
    · rw [v.settleBrightness_bright s] at differs ⊢
      exact v.settleBrightness_heat s differs
    · rw [v.settleBrightness_bright s] at ceiling
      exact v.settleBrightness_stale s (.inl ceiling)
    · exact congrArg (fun w : State => { w with bright := s.bright, link := s.link, line := s.line })
        (v.settleBrightness_frame s)
  · intro b takes
    obtain ⟨form, read⟩ : heatGuardOk b = true ∧ heatGuardOf b = ⟨lo, hi, falling, warm, hot, true, false⟩ :=
      heatGuardOf_payload falling order hhi hwarm hhot
    let u := s.enter .operations 0x75 b
    refine ⟨fun enabled => ?_, fun free => ?_⟩
    · have block : setHeatGuardBlock b u = refuse u .locked := by
        rw [setHeatGuardBlock, if_neg (not_not_intro form), if_pos (show u.bright.guard.enabled = true from enabled)]
      exact congrArg Host.Outcome.next (serve_refuse takes block)
    · have block : setHeatGuardBlock b u
          = done { u with bright := { s.bright with guard := ⟨lo, hi, falling, warm, hot, true, false⟩ } } [] := by
        have free_ : ¬ u.bright.guard.enabled = true := by
          rw [show u.bright.guard.enabled = false from free]
          exact Bool.false_ne_true
        rw [setHeatGuardBlock, if_neg (not_not_intro form), if_neg free_, read]
        rfl
      exact congrArg Host.Outcome.next (serve_reply takes.1 takes.2 block)
  · let u := s.enter .operations 0x76 []
    have set : ¬ ¬ u.bright.guard.configured = true := not_not_intro configured
    refine ⟨fun enabled => ?_, fun free => ?_⟩
    · have block : emptyPayload [] enableHeatGuardBlock u
          = done u (be 1 s.bright.heat.code ++ be 1 s.bright.ceiling) := by
        show enableHeatGuardBlock u = _
        rw [enableHeatGuardBlock, if_neg set, if_pos (show u.bright.guard.enabled = true from enabled)]
        rfl
      exact congrArg Host.Outcome.next (serve_reply takes.1 takes.2 block)
    · let v : State := { u with bright := s.bright.enable }
      have block : emptyPayload [] enableHeatGuardBlock u
          = done (v.settleBrightness u) (v.settleBrightness u).heatReply := by
        have free_ : ¬ u.bright.guard.enabled = true := by
          rw [show u.bright.guard.enabled = false from free]
          exact Bool.false_ne_true
        show enableHeatGuardBlock u = _
        rw [enableHeatGuardBlock, if_neg set, if_neg free_]
        rfl
      have raises : u.Raises [0x09] (v.settleBrightness u) :=
        (State.Raises.of_link (s := u) (t := v) rfl).trans (v.raises_settleBrightness u)
      exact ⟨_, congrArg Host.Outcome.next (serve_reply takes.1 takes.2 block), v.settleBrightness_bright u,
        raises.answers, congrArg (fun w : State => { w with bright := s.bright, link := s.link, line := s.line })
          (v.settleBrightness_frame u)⟩

end Sys2Proof.Machine
end

section
/-!
Proofs of the statements about frames answered on the panel line (R196 to R198, R207), and about Define Panel and
Set Languages (R191, R192, R199, R200).
-/
namespace Sys2Proof.Machine

/-! ### Acknowledgements (R196) -/

/-- The acknowledgement of an address with a result (1.10). -/
def ackBytes (addr : Nat) (result : Byte) : List Byte := 0x5A :: withCrc [BitVec.ofNat 8 (0x80 + addr), result]

theorem ackBytes_result {addr : Nat} {r q : Byte} (h : ackBytes addr r = ackBytes addr q) : r = q := by
  have third := congrArg (fun l : List Byte => l[2]?) h
  simpa [ackBytes, withCrc] using third

theorem ackOf_ok (addr : Nat) : ackOf addr (ackBytes addr 0) = some .ok := if_pos rfl

theorem ackOf_fault (addr : Nat) : ackOf addr (ackBytes addr 1) = some .fault := by
  have apart : ackBytes addr 1 ≠ ackBytes addr 0 := fun h => absurd (ackBytes_result h) (by decide)
  exact (if_neg apart).trans (if_pos rfl)

theorem ackOf_other {addr : Nat} {bytes : List Byte} (notOk : bytes ≠ ackBytes addr 0) (notFault : bytes ≠ ackBytes addr 1) :
    ackOf addr bytes = none := (if_neg notOk).trans (if_neg notFault)

section Answers

variable {s : State} {fr : Frame} {sent : List Byte}

/-- The outcome of the frame in flight, its bytes on the line (R196). -/
theorem State.takeAnswer_some (flight : s.line.flight = some fr) (body : fr.body = .sent sent)
    {o : Frame → Option AckOutcome} {x : AckOutcome} (taken : o fr = some x) : s.takeAnswer o = s.answerFrame fr x := by
  have isSent : fr.isSent = true := by rw [Frame.isSent, body]
  rw [State.takeAnswer, flight]
  dsimp only
  rw [if_pos isSent, taken]

/-- Bytes that are no answer to it are ignored (R196). -/
theorem State.takeAnswer_none (flight : s.line.flight = some fr) {o : Frame → Option AckOutcome}
    (ignored : o fr = none) : s.takeAnswer o = s := by
  rw [State.takeAnswer, flight]
  dsimp only
  rw [ignored]
  exact ite_self s

/-- The frame in flight answered, and its panel's record changed (R196 to R198). -/
def State.answered (s : State) (addr : Nat) (f : Panel → Panel) : State :=
  { s with line := { s.line with
    flight := none, panels := s.line.panels.map fun y => if y.addr = addr then f y else y } }

theorem State.answered_id (s : State) (addr : Nat) :
    s.answered addr id = { s with line := { s.line with flight := none } } := by
  have same : (s.line.panels.map fun y => if y.addr = addr then id y else y) = s.line.panels := by
    simp
  rw [State.answered, same]

/-- A frame whose answer is discarded, or a blank one, changes no record (R197, R207). -/
theorem State.answerFrame_silent (silent : fr.discard = true ∨ fr.kind = .blank) (o : AckOutcome) :
    s.answerFrame fr o = s.answered fr.addr id := by
  rw [State.answered_id, State.answerFrame]
  dsimp only
  split
  · rfl
  next kept =>
    have blank : fr.kind = .blank := silent.resolve_left kept
    rw [blank]
    split <;> rfl

theorem PanelLine.panel?_addr {l : PanelLine} {addr : Nat} {x : Panel} (found : l.panel? addr = some x) :
    x.addr = addr := of_decide_eq_true (List.find?_some found :)

theorem State.answerFrame_page {x : Panel} (found : s.line.panel? fr.addr = some x) (kept : fr.discard = false)
    (page : fr.kind = .page) (o : AckOutcome) :
    s.answerFrame fr o = State.pageOutcome x o { s with line := { s.line with flight := none } } := by
  have found_ : ({ s.line with flight := none } : PanelLine).panel? fr.addr = some x := found
  rw [State.answerFrame]
  dsimp only
  rw [if_neg (by rw [kept]; exact Bool.false_ne_true), found_, page]

theorem State.answerFrame_probe {x : Panel} (found : s.line.panel? fr.addr = some x) (kept : fr.discard = false)
    (probe : fr.kind = .probe) (o : AckOutcome) :
    s.answerFrame fr o = State.probeOutcome x o { s with line := { s.line with flight := none } } := by
  have found_ : ({ s.line with flight := none } : PanelLine).panel? fr.addr = some x := found
  rw [State.answerFrame]
  dsimp only
  rw [if_neg (by rw [kept]; exact Bool.false_ne_true), found_, probe]

end Answers

/-- Settles O55: what each answer does, by the kind of the frame in flight. -/
theorem framesAnswered : Obligations.FramesAnswered := by
  refine ⟨fun s fr sent on flight body => ?_, fun s addr on failed => ?_⟩
  · intro ack after timer
    have taken {bytes : List Byte} {x : AckOutcome} (h : ackOf fr.addr bytes = some x) :
        exec (.panelAck bytes) s = .next (s.answerFrame fr x) :=
      (live_next on).trans (congrArg Host.Outcome.next
        (State.takeAnswer_some flight body (o := fun fr => ackOf fr.addr bytes) h))
    have ok : exec (.panelAck (ack 0)) s = .next (s.answerFrame fr .ok) := taken (ackOf_ok fr.addr)
    have fault : exec (.panelAck (ack 1)) s = .next (s.answerFrame fr .fault) := taken (ackOf_fault fr.addr)
    have missing : exec .ackTimeout s = .next (s.answerFrame fr .missing) :=
      (live_next on).trans (congrArg Host.Outcome.next (State.takeAnswer_some flight body rfl))
    refine ⟨fun bytes notOk notFault => ?_, fun silent => ⟨?_, ?_⟩, fun x found kept page => ?_,
      fun x found kept probe => ?_⟩
    · exact (live_next on).trans (congrArg Host.Outcome.next
        (State.takeAnswer_none flight (o := fun fr => ackOf fr.addr bytes) (ackOf_other notOk notFault)))
    · rw [ok, State.answerFrame_silent silent]
      rfl
    · rw [missing, State.answerFrame_silent silent]
      rfl
    · rw [ok, fault, missing]
      simp only [State.answerFrame_page found kept page]
      have addr := PanelLine.panel?_addr found
      refine ⟨?_, ?_, fun few => ?_, fun many => ?_⟩
      · exact congrArg (fun a => Host.Outcome.next (s.answered a fun y => { y with state := .idle, miss := 0 })) addr
      · exact congrArg (fun a => Host.Outcome.next ((s.answered a fun y =>
          { y with state := .failed, stale := true, miss := x.miss, probe := timer }).raise (.panel a true))) addr
      · exact (congrArg Host.Outcome.next (if_pos few)).trans (congrArg (fun a => Host.Outcome.next
          (s.answered a fun y => { y with state := .idle, stale := true, miss := x.miss + 1 })) addr)
      · exact (congrArg Host.Outcome.next (if_neg (Nat.not_lt.mpr many))).trans (congrArg (fun a => Host.Outcome.next
          ((s.answered a fun y => { y with state := .failed, stale := true, miss := 3, probe := timer }).raise
            (.panel a true))) addr)
    · rw [ok, fault, missing]
      simp only [State.answerFrame_probe found kept probe]
      have addr := PanelLine.panel?_addr found
      refine ⟨?_, ?_, ?_⟩
      · exact congrArg (fun a => Host.Outcome.next ((s.answered a fun y =>
          { y with state := .idle, miss := 0, stale := true, probe := .stopped }).raise (.panel a false))) addr
      · exact congrArg (fun a => Host.Outcome.next (s.answered a fun y => { y with probe := timer })) addr
      · exact congrArg (fun a => Host.Outcome.next (s.answered a fun y => { y with probe := timer })) addr
  · have falls : ∀ y ∈ s.line.panels, (if y.addr = addr then y.probeFalls else y)
        = if y.addr = addr then { y with probe := .due } else y := by
      intro y hy
      by_cases here : y.addr = addr
      · obtain ⟨state, ms, running⟩ := failed y hy here
        rw [if_pos here, if_pos here, Panel.probeFalls, state, running]
      · rw [if_neg here, if_neg here]
    exact (live_next on).trans (congrArg (fun l => Host.Outcome.next { s with line := { s.line with panels := l } })
      (List.map_congr_left falls))

/-! ### Define Panel (R191, R192) -/

/-- The payload of Define Panel (R192). -/
def definePanelPayload (action addr : Nat) (k : PanelKind) (param : Nat) : List Byte :=
  be 1 action ++ be 1 addr ++ be 1 k.code ++ be 1 param

theorem PanelKind.ofCode_code (k : PanelKind) : PanelKind.ofCode k.code = k := by cases k <;> rfl

section Define

variable {action addr param : Nat} {k : PanelKind}

/-- A Define Panel payload in its coding is read back (R192). -/
theorem definePanelPayload_reads (haction : action ≤ 1) (h1 : 1 ≤ addr) (h24 : addr ≤ 24)
    (strip : k = .seatStrip → param ≤ 23) (doorMap : k = .doorMap → param ≤ 1) (banner : k = .banner → param = 0) :
    let b := definePanelPayload action addr k param
    u8 b 0 = action ∧ u8 b 1 = addr ∧ PanelKind.ofCode (u8 b 2) = k ∧ u8 b 3 = param ∧ definePanelOk b = true := by
  intro b
  have code : k.code ≤ 2 := by cases k <;> decide
  have small : param < 256 := by
    cases k with
    | seatStrip =>
      have := strip rfl
      omega
    | doorMap =>
      have := doorMap rfl
      omega
    | banner =>
      have := banner rfl
      omega
  have allowed : paramOk k.code param = true := by
    cases k with
    | seatStrip => exact decide_eq_true (strip rfl)
    | doorMap => exact decide_eq_true (doorMap rfl)
    | banner => exact decide_eq_true (banner rfl)
  have read0 : u8 b 0 = action := by
    simp only [b, definePanelPayload, List.append_assoc, u8_be_one _ _ (by omega : action < 256)]
  have read1 : u8 b 1 = addr := by
    simp only [b, definePanelPayload, List.append_assoc, u8_be_one_skip, u8_be_one _ _ (by omega : addr < 256)]
  have read2 : u8 b 2 = k.code := by
    simp only [b, definePanelPayload, List.append_assoc, u8_be_one_skip, u8_be_one _ _ (by omega : k.code < 256)]
  have read3 : u8 b 3 = param := by
    simp only [b, definePanelPayload, List.append_assoc, u8_be_one_skip, u8_be_one_end small]
  have size : b.length = 4 := rfl
  refine ⟨read0, read1, by rw [read2, PanelKind.ofCode_code], read3, ?_⟩
  simp only [definePanelOk, size, read0, read1, read2, read3, haction, h1, h24, code, allowed, decide_true, Bool.and_true]

theorem PanelLine.counts_eq (l : PanelLine) : l.counts = be 1 l.panels.length
    ++ be 1 (l.panels.filter fun x => x.kind = .doorMap).length
    ++ be 1 (l.panels.filter fun x => x.kind = .banner).length := by
  rw [PanelLine.counts, List.countP_eq_length_filter, List.countP_eq_length_filter]

theorem PanelLine.panel?_none {l : PanelLine} : l.panel? addr = none ↔ ∀ x ∈ l.panels, x.addr ≠ addr := by
  simp [PanelLine.panel?]

/-- A record that joins the table, or takes its new definition (R191, R192). -/
theorem State.putPanel_spec (s : State) (law : s.PanelLaw) (addr : Nat) (k : PanelKind) (param : Nat) :
    ∃ panels, s.putPanel addr k param = { s with line := { s.line with panels := panels } }
    ∧ panels.Pairwise (fun x y => x.addr < y.addr)
    ∧ ((∀ x ∈ s.line.panels, x.addr ≠ addr) → panels.Perm (newPanel addr k param :: s.line.panels))
    ∧ ((∃ x ∈ s.line.panels, x.addr = addr) → panels = s.line.panels.map fun x =>
        if x.addr = addr then { x with kind := k, param := param, stale := true } else x) := by
  obtain ⟨rising, -⟩ := law
  rw [State.putPanel]
  cases found : s.line.panel? addr with
  | none =>
    have fresh := PanelLine.panel?_none.mp found
    exact ⟨_, rfl, pairwise_insertPanel rising fresh, fun _ => insertPanel_perm _ _,
      fun ⟨x, hx, same⟩ => absurd same (fresh x hx)⟩
  | some x =>
    have mem : x ∈ s.line.panels := List.mem_of_find?_eq_some found
    refine ⟨_, rfl, ?_, fun fresh => absurd (PanelLine.panel?_addr found) (fresh x mem), fun _ => rfl⟩
    have kept (y : Panel) : (if y.addr = addr then y.redefine k param else y).addr = y.addr := by
      split <;> rfl
    refine List.pairwise_map.mpr (rising.imp fun {y z} below => ?_)
    rw [kept, kept]
    exact below

end Define

/-! ### Languages (R199, R200) -/

/-- What the rotation drives is marked stale (R199, R200). -/
theorem State.staleRotation_line (s : State) : s.staleRotation.line = { s.line with
    panels := s.line.panels.map fun x =>
      { x with stale := x.stale || decide (x.kind ≠ .banner) || s.seq.active.isNone } } := by
  refine (State.staleWhere_line _ s).trans (congrArg (fun l => { s.line with panels := l })
    (List.map_congr_left fun x _ => ?_))
  have kind : (x.kind != .banner) = decide (x.kind ≠ .banner) := by cases x.kind <;> rfl
  rw [kind, Bool.or_assoc]

/-- A Set Languages payload in its coding is read back (R200). -/
theorem languagesPayload_reads {langs : List (Fin 4)} {dwell : Nat} (some_ : 1 ≤ langs.length) (once : langs.Nodup)
    (low : 4 ≤ dwell) (high : dwell ≤ 30) :
    let b := be 1 langs.length ++ be 1 dwell ++ langs.map fun l => BitVec.ofNat 8 l.val
    languagesOf b = langs.map Fin.val ∧ u8 b 1 = dwell ∧ languagesOk b = true := by
  intro b
  have few : langs.length ≤ 4 := by simpa using once.length_le_card
  have read0 : u8 b 0 = langs.length := by
    simp only [b, List.append_assoc, u8_be_one _ _ (by omega : langs.length < 256)]
  have read1 : u8 b 1 = dwell := by
    simp only [b, List.append_assoc, u8_be_one_skip, u8_be_one _ _ (by omega : dwell < 256)]
  have size : b.length = 2 + langs.length := by
    simp [b]
    omega
  have list : languagesOf b = langs.map Fin.val := by
    have rest : b.drop 2 = langs.map fun l => BitVec.ofNat 8 l.val := rfl
    rw [languagesOf, rest, List.map_map]
    refine List.map_congr_left fun l _ => ?_
    have : l.val < 4 := l.isLt
    exact Nat.mod_eq_of_lt (by omega)
  have below : ∀ i ∈ langs.map Fin.val, i < 4 := fun i hi => by
    obtain ⟨l, -, rfl⟩ := List.mem_map.mp hi
    exact l.isLt
  have onceVal : (langs.map Fin.val).Nodup := once.map Fin.val_injective
  refine ⟨list, read1, ?_⟩
  simp only [languagesOk, read0, read1, size, list, some_, few, low, high, onceVal, decide_true, Bool.and_true,
    Bool.and_eq_true, List.all_eq_true, decide_eq_true_eq]
  exact ⟨by omega, below⟩

/-- Settles O53: records join, change and leave, and the rotation starts again. -/
theorem panelsAndLanguages : Obligations.PanelsAndLanguages := by
  refine ⟨fun s addr param k law h1 h24 strip doorMap banner room => ?_, fun s langs dwell some_ once low high => ?_,
    fun s on awake two place => ?_⟩
  · intro b counts
    refine ⟨fun takes => ?_, fun takes held => ?_⟩
    · obtain ⟨action, addrRead, kind, paramRead, form⟩ : u8 (b 0) 0 = 0 ∧ u8 (b 0) 1 = addr
        ∧ PanelKind.ofCode (u8 (b 0) 2) = k ∧ u8 (b 0) 3 = param ∧ definePanelOk (b 0) = true :=
        definePanelPayload_reads (by decide) h1 h24 strip doorMap banner
      let u := s.enter .operations 0x70 (b 0)
      obtain ⟨panels, put, rising, joined, changed⟩ := State.putPanel_spec u law addr k param
      have notFull : ¬ u.line.kindFull k addr = true := by
        rw [PanelLine.kindFull, Bool.and_eq_true, decide_eq_true_eq, decide_eq_true_eq]
        rintro ⟨other, full⟩
        have few := room other
        rw [PanelLine.othersOf, List.countP_eq_length_filter] at full
        exact absurd full (Nat.not_le.mpr few)
      have block : definePanelBlock (b 0) u = done { u with line := { s.line with panels := panels } } (counts panels) := by
        rw [definePanelBlock, if_neg (not_not_intro form), if_pos action, kind, addrRead, paramRead, if_neg notFull, put]
        exact congrArg (done _) (PanelLine.counts_eq _)
      exact ⟨panels, congrArg Host.Outcome.next (serve_reply takes.1 takes.2 block), rising, joined, changed⟩
    · intro panels
      obtain ⟨action, addrRead, kind, paramRead, form⟩ : u8 (b 1) 0 = 1 ∧ u8 (b 1) 1 = addr
        ∧ PanelKind.ofCode (u8 (b 1) 2) = k ∧ u8 (b 1) 3 = param ∧ definePanelOk (b 1) = true :=
        definePanelPayload_reads (by decide) h1 h24 strip doorMap banner
      let u := s.enter .operations 0x70 (b 1)
      have found : ¬ (u.line.panel? addr).isNone = true := fun none => by
        obtain ⟨x, hx, same⟩ := held
        exact PanelLine.panel?_none.mp (Option.isNone_iff_eq_none.mp none) x hx same
      have discard : Frame.discardFor addr = fun fr => { fr with discard := fr.discard || decide (fr.addr = addr) } := by
        funext fr
        rw [Frame.discardFor]
        by_cases here : fr.addr = addr
        · simp only [here, if_true, decide_true, Bool.or_true]
        · simp only [here, if_false, decide_false, Bool.or_false]
      have block : definePanelBlock (b 1) u = done { u with line := { s.line with
          panels := panels
          flight := s.line.flight.map fun fr => { fr with discard := fr.discard || decide (fr.addr = addr) } } }
          (counts panels) := by
        rw [definePanelBlock, if_neg (not_not_intro form), if_neg (by rw [action]; decide), addrRead, if_neg found,
          State.dropPanel, discard]
        exact congrArg (done _) (PanelLine.counts_eq _)
      exact congrArg Host.Outcome.next (serve_reply takes.1 takes.2 block)
  · intro b takes
    obtain ⟨list, dwellRead, form⟩ : languagesOf b = langs.map Fin.val ∧ u8 b 1 = dwell ∧ languagesOk b = true :=
      languagesPayload_reads some_ once low high
    let u := s.enter .operations 0x71 b
    have block : setLanguagesBlock b u = done (u.setLanguages (langs.map Fin.val) dwell) [] := by
      rw [setLanguagesBlock, if_neg (not_not_intro form), list, dwellRead]
    refine congrArg Host.Outcome.next ((serve_reply takes.1 takes.2 block).trans ?_)
    have length : (langs.map Fin.val).length = langs.length := List.length_map _
    let given : PanelLine := { s.line with rotation := langs.map Fin.val, dwell := dwell, place := 0 }
    have line := State.staleRotation_line { u with line := given.startRotation }
    refine (congrArg (fun l : PanelLine => ({ u with line := l }).answer .operations 0x71 .done []) line).trans ?_
    simp only [given, PanelLine.startRotation, length]
    rfl
  · have next : (if s.line.place + 1 < s.line.rotation.length then s.line.place + 1 else 0)
        = (s.line.place + 1) % s.line.rotation.length := by
      split
      next below => exact (Nat.mod_eq_of_lt below).symm
      next wraps =>
        have last : s.line.place + 1 = s.line.rotation.length := by omega
        rw [last, Nat.mod_self]
    refine (live_next on).trans (congrArg Host.Outcome.next ((if_pos ⟨awake, two⟩).trans ?_))
    let turned : PanelLine := { s.line with
      place := if s.line.place + 1 < s.line.rotation.length then s.line.place + 1 else 0 }
    have line := State.staleRotation_line { s with line := turned.startRotation }
    refine (congrArg (fun l : PanelLine => { s with line := l }) line).trans ?_
    simp only [turned, PanelLine.startRotation, next, two, if_true]

end Sys2Proof.Machine
end

section
/-!
The texts, the cells and the pages that a panel is sent (R141, R180, R202 to R206), as the statements lay them out.
-/
namespace Sys2Proof.Machine

/-! ### Texts (R141, R180, R206) -/

/-- Where the last character at or before a place begins (R141). -/
theorem charStart_eq (text : List Byte) (n : Nat) : charStart text n = (((List.range (n + 1)).filter fun k =>
    decide (k = 0) || decide ((text.getD k 0).toNat < 0x80) || decide (0xBF < (text.getD k 0).toNat)).getLast?).getD 0 := by
  induction n with
  | zero => rfl
  | succ n ih =>
    have cont : isCont (text.getD (n + 1) 0) = !(decide (n + 1 = 0) || decide ((text.getD (n + 1) 0).toNat < 0x80)
        || decide (0xBF < (text.getD (n + 1) 0).toNat)) := by
      rw [isCont, Bool.eq_iff_iff]
      simp
    rw [charStart, List.range_succ, List.filter_append, cont]
    cases begins : (decide (n + 1 = 0) || decide ((text.getD (n + 1) 0).toNat < 0x80)
        || decide (0xBF < (text.getD (n + 1) 0).toNat)) with
    | true => simp only [List.filter_cons, List.filter_nil, begins]; simp
    | false => simp only [List.filter_cons, List.filter_nil, begins]; simpa using ih

theorem Store.usable_eq (st : Store) (phrase lang : Nat) : st.usable phrase lang
    = match getEntry st.entries (4 * phrase + lang) with
      | some (.valid text) => if (match st.op.erase? with
          | some er => decide (er.current ≤ phrase / 8) && decide (phrase / 8 ≤ er.last)
          | none => false) || st.incomplete.getLsbD (phrase / 8) then none else some text
      | _ => none := by
  have under : st.underErase (sectorOf phrase) = (match st.op.erase? with
      | some er => decide (er.current ≤ phrase / 8) && decide (phrase / 8 ≤ er.last)
      | none => false) := by
    unfold Store.underErase
    cases st.op.erase? <;> rfl
  rw [Store.usable, under, Bool.or_comm]
  rfl

/-- An internal read (R180). -/
theorem Store.read_eq_reads (st : Store) (phrase lang : Nat) : st.read phrase lang = st.reads lang phrase := by
  have choice (a c : Option (List Byte)) : (match a with
      | some text => text
      | none => match c with
        | some text => text
        | none => []) = (a <|> c).getD [] := by
    cases a <;> cases c <;> rfl
  have first : st.read phrase lang = (st.usable phrase lang <|> st.usable phrase 0).getD [] := choice _ _
  rw [first, st.usable_eq, st.usable_eq]
  rfl

theorem Store.blankText_eq (st : Store) (lang : Nat) (parts : List TextPart) :
    parts.any (TextPart.blank st lang) = st.blankText lang parts := by
  rw [Store.blankText]
  refine congrArg parts.any (funext fun x => ?_)
  cases x with
  | phrase n => exact congrArg List.isEmpty (st.read_eq_reads n lang)
  | bytes b => rfl

/-- The text of a TEXT cell (R141, R180). -/
theorem Store.textOf_eq (st : Store) (lang : Nat) (parts : List TextPart) :
    renderText st lang parts = st.textOf lang parts := by
  have whole : parts.flatMap (TextPart.render st lang) = parts.flatMap fun x => match x with
      | .phrase n => st.reads lang n
      | .bytes b => b := by
    refine congrArg (fun f => parts.flatMap f) (funext fun x => ?_)
    cases x with
    | phrase n => exact st.read_eq_reads n lang
    | bytes b => rfl
  rw [renderText, whole, Store.blankText_eq, cutText, charStart_eq]
  rfl

/-! ### Cells (1.10) -/

theorem Cell.encode_eq (st : Store) (lang : Nat) (c : Cell) : c.encode st lang = st.cellBytes lang c := by
  have cell {code n : Nat} (data : List Byte) (size : data.length = n) :
      be 1 code ++ be 1 data.length ++ data = [BitVec.ofNat 8 code, BitVec.ofNat 8 n] ++ data := by
    rw [size, be_one, be_one]
    rfl
  cases c with
  | text parts =>
    show be 1 0x01 ++ be 1 (renderText st lang parts).length ++ renderText st lang parts = _
    rw [Store.textOf_eq]
    rfl
  | seat n cat d a => exact (cell (n := 5) _ rfl).trans (by simp only [Store.cellBytes, List.append_assoc]; rfl)
  | stop n p f => exact (cell (n := 5) _ rfl).trans (by simp only [Store.cellBytes, List.append_assoc]; rfl)
  | marker b => exact cell (n := 1) _ rfl
  | splitJoin j po => exact (cell (n := 2) _ rfl).trans (by simp only [Store.cellBytes, List.append_assoc]; rfl)
  | coach n p => exact (cell (n := 2) _ rfl).trans (by simp only [Store.cellBytes, List.append_assoc]; rfl)
  | doors side => exact cell (n := 1) _ rfl
  | clock m => exact cell (n := 2) _ rfl
  | mapOrder r => exact cell (n := 1) _ rfl
  | minutes n => exact cell (n := 1) _ rfl

theorem Cell.blank_eq (st : Store) (lang : Nat) (c : Cell) : c.blank st lang = st.blankCell lang c := by
  cases c with
  | text parts => exact st.blankText_eq lang parts
  | _ => rfl

theorem readsStore_eq (cells : List Cell) : readsStore cells = cells.any Cell.isText := by
  refine congrArg cells.any (funext fun c => ?_)
  cases c <;> rfl

/-! ### What a page is made of (R76 to R80, R140, R203) -/

theorem CoachEntry.facing_eq (x : CoachEntry) (front : TrainEnd) : x.facing front
    = if (match x.endATo2, front with
      | false, .one => true
      | false, .two => false
      | true, .one => false
      | true, .two => true) then .aLeads else .bLeads := by
  cases hx : x.endATo2 <;> cases front <;> simp [CoachEntry.facing, hx]

/-- The facing under a formation end (R77). -/
theorem State.facingUnder_eq (s : State) (front : TrainEnd) :
    s.facingUnder front = (s.leadsA front).map fun a => if a then .aLeads else .bLeads := by
  rw [State.facingUnder, State.leadsA, Option.map_map]
  refine congrArg (fun f => s.entry.map f) (funext fun x => ?_)
  rw [Function.comp_apply, CoachEntry.facing_eq] <;> rfl

theorem bodySide_eq (d : DoorSide) (a : Bool) : bodySide d (if a then .aLeads else .bLeads) = (match d, a with
    | .left, true => 1
    | .left, false => 2
    | .right, true => 2
    | .right, false => 1
    | .both, _ => 3) := by
  cases d <;> cases a <;> rfl

/-- The body side of a door side (R79). -/
theorem State.sideUnder_eq (s : State) (d : DoorSide) (front : TrainEnd) :
    (s.facingUnder front).map (bodySide d) = s.sideUnder d front := by
  rw [State.facingUnder_eq, State.sideUnder, Option.map_map]
  exact congrArg (fun f => (s.leadsA front).map f) (funext fun a => bodySide_eq d a)

theorem State.nameText_eq (s : State) (n : Nat) : phraseCell (s.nameOf n) = s.nameText n := by
  rw [State.nameText, State.nameOf]
  cases s.plan.stops[n]? <;> rfl

theorem platformCells_eq (r : StopRecord) : platformCells r = platformText r := by
  rw [platformCells, platformText]
  cases r.platform <;> rfl

theorem StopRecord.planned_eq (r : StopRecord) : r.planned = r.minute := by
  rw [StopRecord.planned, StopRecord.minute]
  cases r.arrival <;> rfl

theorem stopCell_eq (n : Nat) (r : StopRecord) : stopCell n r = (stopText n r).1 := by
  rw [stopCell, stopText, StopRecord.planned_eq]
  rfl

theorem expectedCells_eq (n : Nat) (r : StopRecord) : expectedCells r = (stopText n r).2 := by
  rw [expectedCells, stopText, StopRecord.planned_eq]
  cases r.minute <;> simp [phraseCell]

/-- The cells of an item (R140, R141). -/
theorem State.itemCells_eq (s : State) (i : Item) : s.itemCells i = s.itemText i := by
  have side (d : DoorSide) (front : TrainEnd) : (match s.facingUnder front with
      | some f => [phraseCell (sidePhrase (bodySide d f))]
      | none => []) = (s.sideUnder d front).toList.map sideText := by
    rw [← State.sideUnder_eq]
    cases s.facingUnder front <;> rfl
  cases i with
  | phrase n => rfl
  | stopName n =>
    show (match s.plan.stops[n]? with
      | some r => [phraseCell r.name]
      | none => []) = if n < s.plan.stops.length then [s.nameText n] else []
    by_cases below : n < s.plan.stops.length
    · rw [if_pos below, State.nameText, List.getElem?_eq_getElem below]
      rfl
    · rw [if_neg below, List.getElem?_eq_none (Nat.not_lt.mp below)]
  | minutes n => rfl
  | coach n => rfl
  | platform n =>
    show (match s.plan.stops[n]? with
      | some r => platformCells r
      | none => []) = (s.plan.stops[n]?).toList.flatMap platformText
    cases s.plan.stops[n]? with
    | none => rfl
    | some r => simpa using platformCells_eq r
  | doorSide d => exact side d s.form.lead
  | doorSideOf n =>
    show (match s.plan.stops[n]?, s.facingUnder (s.refEnd n) with
      | some r, some f => [phraseCell (sidePhrase (bodySide r.doorSide f))]
      | _, _ => []) = (s.plan.stops[n]?).toList.flatMap fun r =>
        (s.sideUnder r.doorSide (s.frontAt n)).toList.map sideText
    cases s.plan.stops[n]? with
    | none => rfl
    | some r =>
      have here := side r.doorSide (s.refEnd n)
      simp only [Option.toList_some, List.flatMap_singleton]
      refine Eq.trans ?_ here
      cases s.facingUnder (s.refEnd n) <;> rfl
  | destination po =>
    show (match (s.plan.calls po).getLast? with
      | some n => [phraseCell (s.nameOf n)]
      | none => []) = (s.plan.calls po).getLast?.toList.map s.nameText
    cases (s.plan.calls po).getLast? with
    | none => rfl
    | some n => exact congrArg (fun c => [c]) (s.nameText_eq n)

end Sys2Proof.Machine
end

section
/-!
The pages of the three panel kinds, as the statements lay them out (R202 to R205).
-/
namespace Sys2Proof.Machine

theorem Option.flatMap_toList_match {f : α → List β} (o : Option α) : o.toList.flatMap f = (match o with
    | some x => f x
    | none => []) := by
  cases o <;> simp

/-- The calling stop's name after another cell, when there is a stop (R202, R203). -/
theorem State.namesOf_eq (s : State) (o : Option Nat) : (match o with
    | some n => [phraseCell (s.nameOf n)]
    | none => []) = o.toList.map s.nameText := by
  cases o with
  | none => rfl
  | some n => exact congrArg (fun c => [c]) (s.nameText_eq n)

/-! ### Seat strips (R202) -/

theorem State.bank_eq (s : State) : s.bank = if s.facing = .aLeads then s.form.bankA else s.form.bankB := by
  rw [State.bank]
  cases s.facing <;> rfl

theorem State.layout_eq (s : State) (addr : Nat) : s.layout addr
    = (if s.facing = .aLeads then s.form.bankA else s.form.bankB).getD (addr - 1) ⟨.absent, false⟩ := by
  rw [State.layout, State.bank_eq]

theorem State.seatCells_eq (s : State) (arrow : Arrow) (y : Seat) : s.seatCells arrow y
    = .seat y.number y.category (s.shown y).state arrow
      :: (if (s.shown y).state = .reserved ∨ (s.shown y).state = .releasing then
          .text [.phrase 21] :: ((s.shown y).boundary.toList.map s.nameText
            ++ (s.shown y).label.toList.map fun k => .text [.phrase k])
        else if (s.shown y).state = .freeUntil then .text [.phrase 22] :: (s.shown y).boundary.toList.map s.nameText
        else []) := by
  have labels (o : Option Nat) : (match o with
      | some l => [phraseCell l]
      | none => []) = o.toList.map fun k => (.text [.phrase k] : Cell) := by
    cases o <;> rfl
  have stays := congrArg₂ (fun names texts : List Cell => Cell.text [.phrase 21] :: (names ++ texts))
    (s.namesOf_eq (s.shown y).boundary) (labels (s.shown y).label)
  have until_ := congrArg (fun names : List Cell => Cell.text [.phrase 22] :: names)
    (s.namesOf_eq (s.shown y).boundary)
  unfold State.seatCells
  rw [State.display_eq_shown]
  refine congrArg _ ?_
  cases (s.shown y).state with
  | reserved => exact stays
  | releasing => exact stays
  | freeUntil => exact until_
  | _ => rfl

theorem State.stripPage_eq (s : State) (x : Panel) : s.stripPage x = s.stripCells x := by
  rw [State.stripPage, State.stripCells, State.layout_eq]
  exact congrArg (fun f => (s.seatsOfBay x.param).flatMap f) (funext fun y => s.seatCells_eq _ y)

/-! ### Door maps (R203, R204) -/

theorem State.splitCells_eq (s : State) (r : StopRecord) : s.splitCells r
    = if r.event = .divide ∨ r.event = .join then
        .splitJoin (decide (r.event = .join)) s.portion :: s.coachCalls.getLast?.toList.map s.nameText
      else [] := by
  rw [State.splitCells, ← State.namesOf_eq] <;> rfl

/-- The position marker before a stop (R203). -/
def State.markerCells (s : State) (n : Nat) : List Cell :=
  if s.appr.current ≠ none ∧ s.appr.stage.any Stage.isBelow = true then
    (if s.appr.current = some n then [.marker true] else [])
  else if s.refStop = some n then [.marker false] else []

theorem State.markerCells_eq (s : State) (n : Nat) : (match s.markerAt with
    | some (m, between) => if m = n then [Cell.marker between] else []
    | none => []) = s.markerCells n := by
  have atR : (match s.refStop.map fun r => (r, false) with
      | some (m, between) => if m = n then [Cell.marker between] else []
      | none => []) = if s.refStop = some n then [.marker false] else [] := by
    cases s.refStop <;> simp
  unfold State.markerAt State.markerCells
  cases s.appr.current with
  | none => simpa using atR
  | some c =>
    cases s.appr.stage with
    | none => simpa using atR
    | some st =>
      by_cases below : st.code < 4
      · simp [below, Stage.isBelow]
      · simpa [below, Stage.isBelow] using atR

theorem State.shownStop_eq (s : State) (n : Nat) : s.shownStop n
    = (s.plan.stops[n]?).toList.flatMap fun r => s.markerCells n ++ [(stopText n r).1, s.nameText n] ++ platformText r
      ++ (stopText n r).2
      ++ (if r.event = .divide ∨ r.event = .join then
          .splitJoin (decide (r.event = .join)) s.portion :: s.coachCalls.getLast?.toList.map s.nameText
        else []) := by
  unfold State.shownStop
  rw [Option.flatMap_toList_match]
  cases stop : s.plan.stops[n]? with
  | none => rfl
  | some r =>
    have name : phraseCell r.name = s.nameText n := by rw [State.nameText, stop] <;> rfl
    dsimp only
    rw [name, stopCell_eq, platformCells_eq, expectedCells_eq n, State.splitCells_eq]
    exact congrArg (fun marker : List Cell => marker ++ _ ++ _ ++ _ ++ _) (s.markerCells_eq n)

theorem State.shownStops_eq (s : State) : s.shownStops
    = s.refStop.toList.flatMap fun r => (s.coachCalls.filter fun n => decide (r ≤ n)).take 8 := by
  rw [State.shownStops, Option.flatMap_toList_match]
  cases s.refStop <;> rfl

/-- The cells of a door map for C under its reference end (R204). -/
theorem State.cellsOfC_eq (s : State) (x : Panel) : s.cellsOfC x
    = s.appr.current.toList.flatMap fun c => (s.plan.stops[c]?).toList.flatMap fun r =>
      match s.sideUnder r.doorSide (s.frontAt c), s.leadsA (s.frontAt c) with
      | some side, some a =>
        [.doors side, sideText side]
        ++ (if x.param = (if a then 0 else 1) then
              (s.shortTarget c).toList.flatMap fun k => [.text [.phrase 5], .text [.phrase 6], coachText k]
            else [])
      | _, _ => [] := by
  unfold State.cellsOfC
  cases s.appr.current with
  | none => rfl
  | some c =>
    simp only [Option.toList_some, List.flatMap_singleton]
    cases s.plan.stops[c]? with
    | none => rfl
    | some r =>
      have ends : s.refEnd c = s.frontAt c := rfl
      have target (f : Facing) : (match s.shortTarget c with
          | some t => if x.param = f.code then [phraseCell 5, phraseCell 6, coachCell t] else []
          | none => []) = if x.param = f.code then
            (s.shortTarget c).toList.flatMap fun k => [.text [.phrase 5], .text [.phrase 6], coachText k] else [] := by
        cases s.shortTarget c <;> simp [phraseCell, coachCell, coachText, space]
      simp only [Option.toList_some, List.flatMap_singleton]
      rw [← State.sideUnder_eq, ends, State.facingUnder_eq, State.target_eq]
      cases s.leadsA (s.frontAt c) with
      | none => rfl
      | some a =>
        refine (congrArg (fun texts : List Cell => [_, _] ++ texts) (target _)).trans ?_
        cases a <;> rfl

theorem State.mapPage_eq (s : State) (x : Panel) : s.mapPage x = s.mapCells x := by
  have detached : (¬ s.attached = true) ↔ s.entry = none := by
    rw [State.attached, Option.not_isSome_iff_eq_none]
  have stops : s.shownStops.flatMap s.shownStop = s.shownStops.flatMap fun n =>
      (s.plan.stops[n]?).toList.flatMap fun r => s.markerCells n ++ [(stopText n r).1, s.nameText n] ++ platformText r
      ++ (stopText n r).2
      ++ (if r.event = .divide ∨ r.event = .join then
          .splitJoin (decide (r.event = .join)) s.portion :: s.coachCalls.getLast?.toList.map s.nameText
        else []) := congrArg (fun f => s.shownStops.flatMap f) (funext s.shownStop_eq)
  unfold State.mapPage
  rw [State.layout_eq, stops, State.shownStops_eq, State.cellsOfC_eq]
  by_cases away : s.plan.state = .empty ∨ s.plan.state = .loading ∨ s.entry = none
  · refine (if_pos (away.imp_right (Or.imp_right detached.mpr))).trans (Eq.symm ?_)
    exact if_pos away
  · refine (if_neg fun h => away (h.imp_right (Or.imp_right detached.mp))).trans (Eq.symm ?_)
    exact if_neg away

/-! ### Banners (R205) -/

theorem State.bannerPage_eq (s : State) : s.bannerPage = s.bannerCells := by
  unfold State.bannerPage State.bannerCells State.nextStopView
  cases s.seq.active with
  | some n => exact congrArg (fun f => n.items.flatMap f) (funext s.itemCells_eq)
  | none =>
    cases s.appr.current with
    | none => rfl
    | some c =>
      cases s.appr.stage with
      | none => rfl
      | some st =>
        dsimp only
        cases attached : s.entry with
        | none =>
          have no : (¬ s.attached = true) := by simp [State.attached, attached]
          cases s.plan.stops[c]? with
          | none => rfl
          | some r => exact if_pos no
        | some e =>
          have yes : ¬ ¬ s.attached = true := by simp [State.attached, attached]
          rw [if_neg (by simp), Option.flatMap_toList_match]
          cases stop : s.plan.stops[c]? with
          | none => rfl
          | some r =>
            have name : phraseCell r.name = s.nameText c := by rw [State.nameText, stop] <;> rfl
            dsimp only
            rw [if_neg yes, name, stopCell_eq, platformCells_eq, expectedCells_eq c]
            by_cases below : st.code < 4
            · rw [if_pos below, if_neg (by omega)] <;> rfl
            · rw [if_neg below, if_pos (by omega)]

/-- The page of a panel (R202 to R205). -/
theorem State.compose_eq_page (s : State) (x : Panel) : s.compose x = s.page x := by
  rw [State.compose, State.page]
  cases x.kind with
  | seatStrip => exact s.stripPage_eq x
  | doorMap => exact s.mapPage_eq x
  | banner => exact s.bannerPage_eq

/-- The page language (R199, R201). -/
theorem State.pageLang_eq (s : State) (k : PanelKind) : s.pageLang k
    = (if k = .banner then s.seq.active.map Notice.lang else none).getD (s.line.rotation.getD s.line.place 0) := by
  unfold State.pageLang
  cases k <;> cases s.seq.active <;> rfl

theorem pageBody_eq (st : Store) (lang : Nat) (cells : List Cell) :
    pageBody st lang cells = cells.flatMap (st.cellBytes lang) :=
  congrArg (fun f => cells.flatMap f) (funext fun c => Cell.encode_eq st lang c)

end Sys2Proof.Machine
end

section
/-!
Proof of the statement about the frames that the panel line sends (R194, R195, R198, R207).
-/
namespace Sys2Proof.Machine

/-! ### Choosing in a table in address order (R191, R194) -/

/-- The first of a rising table that meets a condition is the lowest that does. -/
theorem find?_lowest {l : List Panel} {p : Panel → Bool} {x : Panel} (rising : l.Pairwise fun x y => x.addr < y.addr)
    (found : l.find? p = some x) : x ∈ l ∧ p x = true ∧ ∀ y ∈ l, p y = true → x.addr ≤ y.addr := by
  obtain ⟨here, before, after, rfl, none_⟩ := List.find?_eq_some_iff_append.mp found
  have above : ∀ y ∈ after, x.addr < y.addr := fun y hy =>
    List.rel_of_pairwise_cons (List.pairwise_append.mp rising).2.1 hy
  refine ⟨by simp, here, fun y hy meets => ?_⟩
  rcases List.mem_append.mp hy with hy | hy
  · exact absurd meets (by simpa using none_ y hy)
  · rcases List.mem_cons.mp hy with rfl | hy
    · exact Nat.le_refl _
    · exact Nat.le_of_lt (above y hy)

theorem eq_of_addr_eq {l : List Panel} {x y : Panel} (rising : l.Pairwise fun x y => x.addr < y.addr)
    (hx : x ∈ l) (hy : y ∈ l) (same : x.addr = y.addr) : x = y :=
  List.inj_on_of_nodup_map (l := l) (f := Panel.addr)
    ((List.pairwise_map.mpr rising).imp Nat.ne_of_lt) hx hy same

/-- The lowest that meets a condition is found. -/
theorem find?_eq_of_lowest {l : List Panel} {p : Panel → Bool} {x : Panel}
    (rising : l.Pairwise fun x y => x.addr < y.addr) (hx : x ∈ l) (meets : p x = true)
    (lowest : ∀ y ∈ l, p y = true → x.addr ≤ y.addr) : l.find? p = some x := by
  cases found : l.find? p with
  | none => exact absurd meets (List.find?_eq_none.mp found x hx)
  | some z =>
    obtain ⟨hz, zMeets, zLowest⟩ := find?_lowest rising found
    exact congrArg some (eq_of_addr_eq rising hz hx (Nat.le_antisymm (zLowest x hx meets) (lowest z hz zMeets)))

theorem PanelLine.mem_ready {l : PanelLine} {k : PanelKind} {x : Panel} :
    x ∈ l.ready k ↔ x ∈ l.panels ∧ x.kind = k ∧ x.stale = true ∧ x.state = .idle := by
  simp [PanelLine.ready, and_assoc]

/-- Within a kind the turn goes on above the last served, and begins again below it (R194). -/
theorem PanelLine.roundRobin_turn {l : PanelLine} {k : PanelKind} {x : Panel}
    (rising : l.panels.Pairwise fun x y => x.addr < y.addr) (chosen : l.roundRobin k = some x) :
    x ∈ l.ready k ∧ ∀ y ∈ l.ready k, ((l.lastServed k).getD 0 < x.addr → (l.lastServed k).getD 0 < y.addr →
        x.addr ≤ y.addr)
      ∧ (x.addr ≤ (l.lastServed k).getD 0 → y.addr ≤ (l.lastServed k).getD 0 ∧ x.addr ≤ y.addr) := by
  have order : (l.ready k).Pairwise fun x y => x.addr < y.addr := rising.filter _
  unfold PanelLine.roundRobin at chosen
  split at chosen
  next z found =>
    obtain rfl := Option.some.inj chosen
    obtain ⟨hz, meets, lowest⟩ := find?_lowest order found
    have above := of_decide_eq_true meets
    exact ⟨hz, fun y hy => ⟨fun _ yAbove => lowest y hy (decide_eq_true yAbove), fun below => by omega⟩⟩
  next no =>
    have below : ∀ y ∈ l.ready k, y.addr ≤ (l.lastServed k).getD 0 := fun y hy => by
      simpa using List.find?_eq_none.mp no y hy
    obtain ⟨rest, split⟩ := List.head?_eq_some_iff.mp chosen
    have first : ∀ y ∈ l.ready k, x.addr ≤ y.addr := fun y hy => by
      rw [split] at hy order
      rcases List.mem_cons.mp hy with rfl | hy
      · exact Nat.le_refl _
      · exact Nat.le_of_lt (List.rel_of_pairwise_cons order hy)
    have hx : x ∈ l.ready k := split ▸ List.mem_cons_self
    exact ⟨hx, fun y hy => ⟨fun xAbove => absurd (below x hx) (by omega), fun _ => ⟨below y hy, first y hy⟩⟩⟩

theorem PanelLine.roundRobin_none {l : PanelLine} {k : PanelKind} (no : l.roundRobin k = none) : ∀ y, y ∉ l.ready k := by
  unfold PanelLine.roundRobin at no
  split at no
  · nomatch no
  · exact fun y hy => by simp [List.head?_eq_none_iff.mp no] at hy

/-- A page goes to a banner before a door map before a seat strip, and within its kind in turn (R194). -/
theorem PanelLine.pageDue_chosen {l : PanelLine} {x : Panel} (chosen : l.pageDue = some x) :
    ∃ k, l.roundRobin k = some x ∧ ∀ j, k.code < j.code → ∀ y, y ∉ l.ready j := by
  unfold PanelLine.pageDue at chosen
  split at chosen
  next z banner => exact ⟨.banner, chosen ▸ banner, fun j above => by cases j <;> simp [PanelKind.code] at above⟩
  next noBanner =>
    split at chosen
    next z doorMap =>
      refine ⟨.doorMap, chosen ▸ doorMap, fun j above => ?_⟩
      cases j with
      | banner => exact PanelLine.roundRobin_none noBanner
      | doorMap => simp at above
      | seatStrip => simp [PanelKind.code] at above
    next noMap =>
      refine ⟨.seatStrip, chosen, fun j above => ?_⟩
      cases j with
      | banner => exact PanelLine.roundRobin_none noBanner
      | doorMap => exact PanelLine.roundRobin_none noMap
      | seatStrip => simp at above

theorem PanelKind.code_inj {j k : PanelKind} (same : j.code = k.code) : j = k := by
  cases j <;> cases k <;> simp [PanelKind.code] at same ⊢

/-- Who is served next (R194). -/
theorem PanelLine.pageDue_turn {l : PanelLine} {x : Panel} (rising : l.panels.Pairwise fun x y => x.addr < y.addr)
    (chosen : l.pageDue = some x) :
    x ∈ l.panels ∧ x.stale = true ∧ x.state = .idle
    ∧ ∀ y ∈ l.panels, y.stale = true → y.state = .idle → x.kind.code ≤ y.kind.code → y.kind = x.kind
      ∧ ((l.lastServed x.kind).getD 0 < x.addr → (l.lastServed x.kind).getD 0 < y.addr → x.addr ≤ y.addr)
      ∧ (x.addr ≤ (l.lastServed x.kind).getD 0 → y.addr ≤ (l.lastServed x.kind).getD 0 ∧ x.addr ≤ y.addr) := by
  obtain ⟨k, turn, noneAbove⟩ := PanelLine.pageDue_chosen chosen
  obtain ⟨hx, order⟩ := PanelLine.roundRobin_turn rising turn
  obtain ⟨here, rfl, stale, idle⟩ := PanelLine.mem_ready.mp hx
  refine ⟨here, stale, idle, fun y hy yStale yIdle rank => ?_⟩
  have kind : y.kind = x.kind := by
    rcases Nat.lt_or_eq_of_le rank with above | same
    · exact absurd (PanelLine.mem_ready.mpr ⟨hy, rfl, yStale, yIdle⟩) (noneAbove _ above y)
    · exact (PanelKind.code_inj same).symm
  exact ⟨kind, order y (PanelLine.mem_ready.mpr ⟨hy, kind, yStale, yIdle⟩)⟩

/-! ### A page on its way (R195) -/

/-- A page on its way to a panel: the record changed, the panel the last served of its kind. -/
def State.pageTo (s : State) (x : Panel) (f : Panel → Panel) (body : FrameBody) (ackLeft : Nat) : State :=
  { s with line := { s.line.serve x.kind x.addr with
      panels := s.line.panels.map fun y => if y.addr = x.addr then f y else y
      flight := some ⟨.page, x.addr, x.kind, s.pageLang x.kind, body, false, ackLeft⟩ } }

/-- During a program the page waits for its completion (R195). -/
theorem State.startPage_waiting {s : State} (x : Panel) (busy : s.store.op.program? ≠ none) :
    s.startPage x = s.pageTo x (fun y => { y with stale := false, state := .sending }) (.waiting (s.compose x)) 0 := by
  unfold State.startPage
  refine (if_pos (Option.isSome_iff_ne_none.mpr busy)).trans ?_
  unfold State.pageTo
  cases x.kind <;> rfl

/-- The page composed, its bytes on their way. -/
def State.pageSent (s : State) (x : Panel) : State :=
  s.pageTo x (fun y => { y with
      stale := false, state := .sending, bright := some (s.brightness x.kind)
      incomplete := (s.compose x).any (Cell.blank s.store (s.pageLang x.kind)) })
    (.sent (panelFrame .page x.addr (s.brightness x.kind) (s.pageLang x.kind)
      (pageBody s.store (s.pageLang x.kind) (s.compose x)))) 20

/-- Else it goes at once, a running erase suspended for its reads (R179, R195). -/
theorem State.startPage_sent {s : State} (x : Panel) (free : s.store.op.program? = none) : s.startPage x
    = if readsStore (s.compose x) then (s.pageSent x).suspendErase else s.pageSent x := by
  have twice (f g : Panel → Panel) (kept : ∀ y, (f y).addr = y.addr) (l : List Panel) :
      (l.map fun y => if y.addr = x.addr then f y else y).map (fun y => if y.addr = x.addr then g y else y)
        = l.map fun y => if y.addr = x.addr then g (f y) else y := by
    rw [List.map_map]
    refine List.map_congr_left fun y _ => ?_
    by_cases here : y.addr = x.addr
    · simp [here, kept]
    · simp [here]
  unfold State.startPage
  refine (if_neg (by simp [free])).trans ?_
  unfold State.launchPage
  refine congrArg (fun t : State => if readsStore (s.compose x) then t.suspendErase else t) ?_
  unfold State.pageSent State.pageTo
  rw [← twice (fun y => { y with stale := false, state := .sending })
    (fun y => { y with
      bright := some (s.brightness x.kind)
      incomplete := (s.compose x).any (Cell.blank s.store (s.pageLang x.kind)) }) (fun y => rfl)]
  cases x.kind <;> rfl

section PageTo
variable (s : State) (x : Panel) (f : Panel → Panel) (body : FrameBody) (ackLeft : Nat)

theorem State.pageTo_last : (s.pageTo x f body ackLeft).line.lastBanner
      = (if x.kind = .banner then some x.addr else s.line.lastBanner)
    ∧ (s.pageTo x f body ackLeft).line.lastDoorMap = (if x.kind = .doorMap then some x.addr else s.line.lastDoorMap)
    ∧ (s.pageTo x f body ackLeft).line.lastStrip
      = (if x.kind = .seatStrip then some x.addr else s.line.lastStrip) := by
  unfold State.pageTo
  cases x.kind <;> exact ⟨rfl, rfl, rfl⟩

theorem State.pageTo_panel {y : Panel} (hy : y ∈ (s.pageTo x f body ackLeft).line.panels) (here : y.addr = x.addr) :
    ∃ z ∈ s.line.panels, y = f z := by
  obtain ⟨z, hz, rfl⟩ := List.mem_map.mp hy
  by_cases at_ : z.addr = x.addr
  · exact ⟨z, hz, if_pos at_⟩
  · exact absurd ((congrArg Panel.addr (if_neg at_)).symm.trans here) at_

end PageTo

/-- What an internal read changes: the time of a running erase, and the free values used (R179). -/
theorem State.suspendErase_running {s : State} {er : Erase} (running : s.store.op = .erasing er) : s.suspendErase
    = { s with
        store := { s.store with op := .erasing { er with left := er.left + Config.readTime s.freeCount } }
        freeCount := s.freeCount + 1 } := by
  rw [State.suspendErase, running]

theorem State.suspendErase_frame (s : State) :
    { s.suspendErase with store := s.store, freeCount := s.freeCount } = s := by
  unfold State.suspendErase
  split <;> rfl

/-- The frame of a probe, or of a blank page (1.10). -/
theorem panelFrame_empty (kind : FrameKind) (addr : Nat) : panelFrame kind addr 0 0 []
    = 0x5A :: withCrc [BitVec.ofNat 8 addr, BitVec.ofNat 8 kind.type, 0, 0, 0, 0] := by
  rw [panelFrame, be_one, be_one]
  rfl

theorem State.startProbe_eq (x : Panel) (s : State) : s.startProbe x = { s with line := { s.line with
    panels := s.line.panels.map fun y => if y.addr = x.addr then { y with probe := .stopped } else y
    flight := some ⟨.probe, x.addr, x.kind, 0,
      .sent (0x5A :: withCrc [BitVec.ofNat 8 x.addr, 3, 0, 0, 0, 0]), false, 20⟩ } } := by
  rw [State.startProbe, panelFrame_empty]
  rfl

theorem State.startBlank_eq (x : Panel) (s : State) : s.startBlank x = { s with line := { s.line with
    blankFrom := some (x.addr + 1)
    flight := some ⟨.blank, x.addr, x.kind, 0,
      .sent (0x5A :: withCrc [BitVec.ofNat 8 x.addr, 2, 0, 0, 0, 0]), false, 20⟩ } } := by
  rw [State.startBlank, panelFrame_empty]
  rfl

/-- Only the store's erase and the free values tell whether the page was read from the store (R179). -/
theorem State.startPage_reads {s : State} (x : Panel) (free : s.store.op.program? = none) :
    { s.startPage x with store := s.store, freeCount := s.freeCount } = s.pageSent x
    ∧ ((∀ er, s.store.op ≠ .erasing er) ∨ (s.page x).any Cell.isText = false →
      (s.startPage x).store = s.store ∧ (s.startPage x).freeCount = s.freeCount)
    ∧ (∀ er, s.store.op = .erasing er → (s.page x).any Cell.isText = true →
      (s.startPage x).store
        = { s.store with op := .erasing { er with left := er.left + Config.readTime s.freeCount } }
      ∧ (s.startPage x).freeCount = s.freeCount + 1) := by
  have reads : readsStore (s.compose x) = (s.page x).any Cell.isText := by
    rw [readsStore_eq, State.compose_eq_page]
  rw [State.startPage_sent x free, reads]
  refine ⟨?_, fun still => ?_, fun er running text => ?_⟩
  · split
    · exact (s.pageSent x).suspendErase_frame
    · rfl
  · rcases still with still | still
    · rw [State.suspendErase_of_not_running (s := s.pageSent x) still, ite_self]
      exact ⟨rfl, rfl⟩
    · rw [still]
      exact ⟨rfl, rfl⟩
  · rw [text, State.suspendErase_running (s := s.pageSent x) running]
    exact ⟨rfl, rfl⟩

/-- Settles O54: the panel in turn gets its page, a due probe goes first, a blank page in rest. -/
theorem framesSentToPanels : Obligations.FramesSentToPanels := by
  refine ⟨fun s powered awake free law noProbe some_ => ?_, fun s x powered awake free law hx failed due lowest => ?_,
    fun s x n powered resting free law blank hx from_ lowest => ?_, State.compose_eq_page, State.pageLang_eq,
    pageBody_eq, fun addr bright lang body => rfl⟩
  · obtain ⟨rising, -⟩ := law
    obtain ⟨x, chosen⟩ := Option.isSome_iff_exists.mp (s.line.pageDue_isSome.mpr some_)
    have quiet : s.line.probeDue.isNone = true := by
      rw [Option.isNone_iff_eq_none, ← Option.not_isSome_iff_eq_none]
      exact fun due => by
        obtain ⟨y, hy, failed⟩ := s.line.probeDue_isSome.mp due
        exact noProbe y hy failed
    have runs : exec .pageSend s = .next (s.startPage x) := by
      refine (live_next powered).trans (congrArg Host.Outcome.next ?_)
      rw [State.sendPage, State.arbitrates, free, awake, quiet, chosen]
      rfl
    obtain ⟨hx, stale, idle, turn⟩ := PanelLine.pageDue_turn rising chosen
    have turn' : ∀ y ∈ s.line.panels, y.stale = true → y.state = .idle → x.kind.code ≤ y.kind.code → y.kind = x.kind
        ∧ (let last := ((match x.kind with
              | .banner => s.line.lastBanner
              | .doorMap => s.line.lastDoorMap
              | .seatStrip => s.line.lastStrip).getD 0)
           (last < x.addr → last < y.addr → x.addr ≤ y.addr)
           ∧ (x.addr ≤ last → y.addr ≤ last ∧ x.addr ≤ y.addr)) := by
      have last : s.line.lastServed x.kind = (match x.kind with
          | .banner => s.line.lastBanner
          | .doorMap => s.line.lastDoorMap
          | .seatStrip => s.line.lastStrip) := by
        cases x.kind <;> rfl
      exact last ▸ turn
    cases busy : s.store.op.program? with
    | some pr =>
      have waits := State.startPage_waiting x (by rw [busy]; exact Option.some_ne_none pr)
      obtain ⟨banner, doorMap, strip⟩ := s.pageTo_last x (fun y => { y with stale := false, state := .sending })
        (.waiting (s.compose x)) 0
      rw [waits] at runs
      refine ⟨_, x, _, runs, hx, stale, idle, turn', rfl, rfl, rfl, rfl, fun y hy here => ?_, banner, doorMap, strip,
        fun no => absurd no (Option.some_ne_none pr), fun no => absurd no (Option.some_ne_none pr), fun _ => rfl, rfl, rfl, rfl, rfl, rfl⟩
      obtain ⟨z, -, rfl⟩ := s.pageTo_panel x _ _ _ hy here
      exact ⟨rfl, rfl⟩
    | none =>
      have blank : (s.compose x).any (Cell.blank s.store (s.pageLang x.kind))
          = (s.page x).any (s.store.blankCell (s.pageLang x.kind)) := by
        rw [State.compose_eq_page]
        exact congrArg (s.page x).any (funext fun c => Cell.blank_eq _ _ c)
      obtain ⟨frame, kept, suspended⟩ := State.startPage_reads x busy
      have line : (s.startPage x).line = (s.pageSent x).line := (congrArg State.line frame :)
      obtain ⟨banner, doorMap, strip⟩ := s.pageTo_last x (fun y => { y with
          stale := false, state := .sending, bright := some (s.brightness x.kind)
          incomplete := (s.compose x).any (Cell.blank s.store (s.pageLang x.kind)) })
        (.sent (panelFrame .page x.addr (s.brightness x.kind) (s.pageLang x.kind)
          (pageBody s.store (s.pageLang x.kind) (s.compose x)))) 20
      have record : ∀ y ∈ (s.startPage x).line.panels, y.addr = x.addr → y.state = .sending ∧ y.stale = false
          ∧ y.bright = some (s.brightness x.kind)
          ∧ y.incomplete = (s.page x).any (s.store.blankCell (s.pageLang x.kind)) := fun y hy here => by
        rw [line] at hy
        obtain ⟨z, -, rfl⟩ := s.pageTo_panel x _ _ _ hy here
        exact ⟨rfl, rfl, rfl, blank⟩
      refine ⟨_, x, _, runs, hx, stale, idle, turn', (congrArg PanelLine.flight line :), rfl,
        rfl, rfl, fun y hy here => ?_, (congrArg PanelLine.lastBanner line).trans banner,
        (congrArg PanelLine.lastDoorMap line).trans doorMap, (congrArg PanelLine.lastStrip line).trans strip,
        fun _ => ⟨fun y hy here => ?_, suspended, kept⟩, fun _ => ⟨rfl, rfl, fun y hy here => ?_⟩,
        fun no => absurd rfl no, (congrArg State.link frame :), (congrArg State.seq frame :),
        (congrArg State.table frame :), (congrArg State.plan frame :), (congrArg State.bright frame :)⟩
      · obtain ⟨state, stale, -⟩ := record y hy here
        exact ⟨state, stale⟩
      · obtain ⟨-, -, -, incomplete⟩ := record y hy here
        exact incomplete
      · obtain ⟨-, -, bright, -⟩ := record y hy here
        exact bright
  · have chosen : s.line.probeDue = some x := find?_eq_of_lowest law.1 hx (by simp [failed, due]) fun y hy meets => by
      simp only [Bool.and_eq_true, decide_eq_true_eq] at meets
      exact lowest y hy meets.1 meets.2
    refine (live_next powered).trans (congrArg Host.Outcome.next ?_)
    rw [State.sendProbe, State.arbitrates, free, awake, chosen]
    exact State.startProbe_eq x s
  · have chosen : s.line.blankDue = some x := by
      rw [PanelLine.blankDue, blank]
      exact find?_eq_of_lowest law.1 hx (decide_eq_true from_) fun y hy meets => lowest y hy (of_decide_eq_true meets)
    refine (live_next powered).trans (congrArg Host.Outcome.next ?_)
    rw [State.sendBlank, free, resting, chosen]
    exact State.startBlank_eq x s

end Sys2Proof.Machine
end

section
/-!
Proof of the statement about the erase of sectors (R168, R175 to R178, R182, R185), with the facts about places and
markers of the Phrase Store that it needs.
-/
namespace Sys2Proof.Machine

/-! ### Places and markers -/

/-- The start of a sector's erase (R168, R185). -/
theorem Store.startSector_eq (sector : Nat) (st : Store) : ∃ torn, st.startSector sector = { st with
    incomplete := if st.incomplete.getLsbD sector then st.incomplete else st.incomplete ||| sectorBit sector
    incompleteCount := st.incompleteCount + (if st.incomplete.getLsbD sector then 0 else 1)
    tornCount := torn } := by
  have marked : st.isIncomplete sector = st.incomplete.getLsbD sector := rfl
  unfold Store.startSector
  rw [marked]
  cases st.incomplete.getLsbD sector with
  | true => exact ⟨st.tornCount, rfl⟩
  | false => exact ⟨st.tornCount - tornIn sector st.entries, rfl⟩

theorem Store.startSector_incomplete (sector : Nat) (st : Store) {i : Nat} (hi : i < 128) :
    (st.startSector sector).incomplete.getLsbD i = (st.incomplete.getLsbD i || decide (i = sector)) := by
  obtain ⟨torn, result⟩ := st.startSector_eq sector
  rw [result]
  show (if st.incomplete.getLsbD sector = true then st.incomplete else st.incomplete ||| sectorBit sector).getLsbD i = _
  split
  case isTrue marked =>
    by_cases here : i = sector
    · subst here
      rw [marked]
      rfl
    · simp [here]
  case isFalse => rw [BitVec.getLsbD_or, getLsbD_sectorBit hi]

theorem Store.finishSector_incomplete (sector : Nat) (st : Store) {i : Nat} (hi : i < 128) :
    (st.finishSector sector).incomplete.getLsbD i = (st.incomplete.getLsbD i && decide (i ≠ sector)) := by
  show (st.incomplete &&& ~~~sectorBit sector).getLsbD i = _
  rw [BitVec.getLsbD_and, BitVec.getLsbD_not, getLsbD_sectorBit hi]
  simp [hi]

/-! ### The erase of sectors (R175 to R178) -/

/-- No sector of a range is protected (R169, R175). -/
theorem Store.lowestProtected_none {st : Store} {first last : Nat}
    (open_ : ∀ i, first ≤ i → i ≤ last → st.locks.getLsbD i = false ∧ (i < 8 → st.fixedLock = false)) :
    st.lowestProtected first last = none := by
  refine List.find?_eq_none.mpr fun i _ protected_ => ?_
  simp only [Bool.and_eq_true, decide_eq_true_eq, Store.isProtected, Bool.or_eq_true] at protected_
  obtain ⟨⟨low, high⟩, lock | ⟨fixed, lock⟩⟩ := protected_
  · exact absurd ((open_ i low high).1.symm.trans lock) nofun
  · exact absurd (((open_ i low high).2 fixed).symm.trans lock) nofun

theorem sectorErase_starts (s : State) (p : Port) {first last : Nat} (order : first ≤ last) (small : last < 128)
    (latch : s.store.latch = true) (idle : s.store.op = .idle)
    (open_ : ∀ i, first ≤ i → i ≤ last → s.store.locks.getLsbD i = false ∧ (i < 8 → s.store.fixedLock = false))
    (takes : s.Takes p 0x62 (be 1 first ++ be 1 last)) :
    exec (.eraseSectors p (be 1 first ++ be 1 last)) s = .next (State.replied { s with
      store := { s.store.startErase first last with latch := false } } p 0x62 (be 1 first ++ be 1 last) .done
        (be 1 (last + 1 - first))) := by
  have firstRead : u8 (be 1 first ++ be 1 last) 0 = first := u8_be_one _ _ (by omega)
  have lastRead : u8 (be 1 first ++ be 1 last) 1 = last := by
    rw [u8_be_one_skip, u8_be_one_end (by omega)]
  have form : ¬ ¬ ((be 1 first ++ be 1 last).length = 2 ∧ rangeOk (be 1 first ++ be 1 last) = true) := by
    refine not_not_intro ⟨rfl, ?_⟩
    rw [rangeOk, firstRead, lastRead, decide_eq_true small, decide_eq_true order]
    rfl
  have block : eraseSectorsBlock (be 1 first ++ be 1 last) (s.enter p 0x62 (be 1 first ++ be 1 last))
      = done { s.enter p 0x62 (be 1 first ++ be 1 last) with store := s.store.startErase first last }
        (be 1 (last + 1 - first)) := by
    rw [eraseSectorsBlock, if_neg form, firstRead, lastRead, State.enter_store, latch,
      Store.lowestProtected_none open_, if_neg (by simp), idle, if_neg (by simp)]
  exact congrArg Host.Outcome.next (serve_reply takes.1 takes.2 block)

/-- Settles O50: the first sector starts, each finish erases its sector and starts the next, hold and resume keep
the erase. -/
theorem sectorsErased : Obligations.SectorsErased := by
  refine ⟨?_, fun s er powered running => ?_, ?_⟩
  · intro s p first last order small b latch idle open_ takes
    obtain ⟨torn, started⟩ := s.store.startSector_eq first
    refine ⟨_, sectorErase_starts s p order small latch idle open_ takes, ?_⟩
    have bits {i : Nat} (hi : i < 128) := s.store.startSector_incomplete first hi
    rw [Store.startErase, started]
    rw [started] at bits
    cases p <;> exact ⟨rfl, rfl, rfl, fun i hi => bits hi, rfl, rfl, rfl, rfl, rfl⟩
  · have finish : exec .sectorEraseFinish s = .next (s.sectorFinish er) := by
      refine (live_next powered).trans (congrArg Host.Outcome.next ?_)
      rw [running]
    have erased := getEntry_eraseEntries er.current
    have finished {i : Nat} (hi : i < 128) := s.store.finishSector_incomplete er.current hi
    rcases Nat.lt_or_ge er.current er.last with more | done
    · obtain ⟨torn, started⟩ := (s.store.finishSector er.current).startSector_eq (er.current + 1)
      have bits {i : Nat} (hi : i < 128) := (s.store.finishSector er.current).startSector_incomplete (er.current + 1) hi
      have next : s.sectorFinish er = { s with store := (s.store.finishSector er.current).nextSector er } := if_pos more
      rw [next, Store.nextSector] at finish
      rw [started] at finish bits
      refine ⟨_, finish, fun k => erased k _, rfl, rfl, fun _ => ⟨rfl, fun i hi => (bits hi).trans ?_, rfl⟩,
        fun last => absurd more (Nat.not_lt.mpr last)⟩
      rw [finished hi]
    · have last : s.sectorFinish er = (({ s with
          store := { s.store.finishSector er.current with op := .idle } }).raise (.storeDone true er.last)).restaleIncomplete :=
        if_neg (Nat.not_lt.mpr done)
      rw [last] at finish
      exact ⟨_, finish, fun k => erased k _, rfl, rfl, fun more => absurd more (Nat.not_lt.mpr done),
        fun _ => ⟨rfl, State.raise_mem_content _ _ rfl, State.raisesOnly_raise rfl _, fun i hi => finished hi,
          State.staleAt_staleWhere _ _, PanelLine.unmarked_staleWhere s _, rfl⟩⟩
  · intro s p er progress
    refine ⟨fun running takes => ?_, fun held takes => ?_, fun pr busy takes => ?_⟩
    · have block : emptyPayload [] holdEraseBlock (s.enter p 0x63 [])
          = done { s.enter p 0x63 [] with store := { s.store with op := .eraseHeld er } } progress := by
        rw [emptyPayload_nil, holdEraseBlock, State.enter_store, running]
        rfl
      exact congrArg Host.Outcome.next (serve_reply takes.1 takes.2 block)
    · have block : emptyPayload [] resumeEraseBlock (s.enter p 0x64 [])
          = done { s.enter p 0x64 [] with store := { s.store with op := .erasing er } } progress := by
        rw [emptyPayload_nil, resumeEraseBlock, State.enter_store, held]
        rfl
      exact congrArg Host.Outcome.next (serve_reply takes.1 takes.2 block)
    · have block : emptyPayload [] resumeEraseBlock (s.enter p 0x64 []) = refuse (s.enter p 0x64 []) .busy := by
        rw [emptyPayload_nil, resumeEraseBlock, State.enter_store, busy]
      exact congrArg Host.Outcome.next (serve_refuse takes block)

end Sys2Proof.Machine
end

section
/-!
Proof of the statement about programs of the Phrase Store (R171 to R174, R182, R187, R195).
-/
namespace Sys2Proof.Machine

/-! ### Writing a phrase (R173) -/

/-- Every place after one has been written (R167). -/
theorem getEntry_putEntry_ite (k : Nat) (e : Entry) (es : List (Nat × Entry)) (j : Nat) :
    getEntry (putEntry k e es) j = if j = k then some e else getEntry es j := by
  split
  case isTrue here => rw [here, getEntry_putEntry]
  case isFalse other => exact getEntry_putEntry_other k j e es other

/-- A Write Phrase payload in its coding is read back (R173). -/
theorem writePayload_reads {phrase lang : Nat} {text : List Byte} (hphrase : phrase < 1024) (hlang : lang < 4)
    (some_ : 1 ≤ text.length) (few : text.length ≤ 120) (form : utf8 text = true) :
    let b := be 2 phrase ++ be 1 lang ++ text
    u16 b 0 = phrase ∧ u8 b 2 = lang ∧ b.drop 3 = text ∧ writeOk b = true := by
  intro b
  have phraseRead : u16 b 0 = phrase := by
    simp only [b, List.append_assoc, u16_be_two _ _ (by omega : phrase < 65536)]
  have langRead : u8 b 2 = lang := by
    simp only [b, List.append_assoc, u8_be_two_skip, u8_be_one _ _ (by omega : lang < 256)]
  have textRead : b.drop 3 = text := rfl
  have size : b.length = 3 + text.length := by
    simp [b, be]
    omega
  refine ⟨phraseRead, langRead, textRead, ?_⟩
  simp only [writeOk, size, phraseRead, langRead, textRead, form, Bool.and_true, Bool.and_eq_true, decide_eq_true_eq]
  omega

/-- A program may start beside an erase that is held elsewhere (R173). -/
theorem Store.programAllowed_of {st : Store} {phrase : Nat} (op : st.op = .idle
    ∨ ∃ er, st.op = .eraseHeld er ∧ (phrase / 8 < er.current ∨ er.last < phrase / 8)) : st.programAllowed phrase = true := by
  rcases op with idle | ⟨er, held, elsewhere⟩
  · rw [Store.programAllowed, idle]
  · have under : st.underErase (sectorOf phrase) = (decide (er.current ≤ phrase / 8) && decide (phrase / 8 ≤ er.last)) := by
      rw [Store.underErase, held]
      rfl
    have outside : ¬ (er.current ≤ phrase / 8 ∧ phrase / 8 ≤ er.last) := by omega
    rw [Store.programAllowed, held]
    dsimp only
    rw [under, ← Bool.decide_and, decide_eq_false outside]
    rfl

theorem Store.isProtected_of {st : Store} {phrase : Nat} (lock : st.locks.getLsbD (phrase / 8) = false)
    (fixed : phrase / 8 < 8 → st.fixedLock = false) : st.isProtected (sectorOf phrase) = false := by
  have sector : sectorOf phrase = phrase / 8 := rfl
  rw [Store.isProtected, sector, lock, Bool.false_or]
  by_cases low : phrase / 8 < 8
  · rw [fixed low, Bool.and_false]
  · rw [decide_eq_false low, Bool.false_and]

/-! ### What waited for a program (R174, R187, R195) -/

/-- A Read Phrase that waited, answered (R187). -/
def PortState.readAnswered (st : Store) (ps : PortState) : PortState :=
  match ps.service with
  | .deferred phrase lang =>
    { ps with service := .answered, reply := some ⟨0xE5, .done, st.entryRead phrase lang⟩ }
  | _ => ps

theorem State.answerDeferred_eq (p : Port) (s : State) :
    s.answerDeferred p = s.onPort p (PortState.readAnswered s.store) := by
  unfold State.answerDeferred
  cases service : (s.port p).service with
  | deferred phrase lang =>
    refine State.onPort_congr (f := fun ps =>
      { ps with service := .answered, reply := some ⟨replyKind 0x65, .done, s.store.readPayload phrase lang⟩ }) ?_
    rw [PortState.readAnswered, service, Store.readPayload_eq_entryRead]
    rfl
  | _ =>
    refine (State.onPort_self ?_).symm
    rw [PortState.readAnswered, service]

theorem PortState.readAnswered_events (st : Store) (ps : PortState) : (ps.readAnswered st).events = ps.events := by
  unfold PortState.readAnswered
  split <;> rfl

/-- Pending entries do not touch a read that waits. -/
theorem PortState.readAnswered_quiet (st : Store) {ps : PortState} {events : List Event} :
    { PortState.readAnswered st { ps with events := events } with events := [] }
      = { ps.readAnswered st with events := [] } := by
  unfold PortState.readAnswered
  dsimp only
  split <;> rfl

theorem State.raise_port (e : Event) (s : State) (p : Port) :
    ∃ events, (s.raise e).port p = { s.port p with events := events } := by
  cases p with
  | operations =>
    show ∃ events, PortState.receive _ _ _ = _
    unfold PortState.receive
    split <;> exact ⟨_, rfl⟩
  | content =>
    show ∃ events, PortState.receive _ _ _ = _
    unfold PortState.receive
    split <;> exact ⟨_, rfl⟩

/-- A page that waited for a program goes out, its texts read then (R179, R195). -/
theorem State.launchWaiting_eq {s : State} (still : ∀ er, s.store.op ≠ .erasing er) : ∃ l : PanelLine,
    s.launchWaiting = { s with line := l }
    ∧ ((∀ fr ∈ s.line.flight, ∀ cells, fr.body ≠ .waiting cells) → l = s.line)
    ∧ ∀ fr cells, s.line.flight = some fr → fr.body = .waiting cells → l = { s.line with
        flight := some { fr with
          body := .sent (panelFrame .page fr.addr (s.brightness fr.panelKind) fr.lang
            (cells.flatMap (s.store.cellBytes fr.lang)))
          ackLeft := 20 }
        panels := s.line.panels.map fun y =>
          if y.addr = fr.addr ∧ fr.discard = false then
            { y with
              incomplete := cells.any (s.store.blankCell fr.lang), bright := some (s.brightness fr.panelKind) }
          else y } := by
  unfold State.launchWaiting
  cases flight : s.line.flight with
  | none => exact ⟨s.line, rfl, fun _ => rfl, fun fr cells none_ => nomatch none_⟩
  | some fr =>
    cases body : fr.body with
    | sent bytes =>
      dsimp only
      rw [body]
      refine ⟨s.line, rfl, fun _ => rfl, fun fr' cells same waits => ?_⟩
      obtain rfl := Option.some.inj same
      exact nomatch body.symm.trans waits
    | waiting cells =>
      have blank : cells.any (Cell.blank s.store fr.lang) = cells.any (s.store.blankCell fr.lang) :=
        congrArg cells.any (funext fun c => c.blank_eq s.store fr.lang)
      dsimp only
      rw [body]
      dsimp only
      unfold State.launchPage
      rw [pageBody_eq, blank]
      extract_lets bright bytes s1 line s2
      have same : (if readsStore cells = true then s2.suspendErase else s2) = s2 := by
        have kept : s2.store = s.store := by
          show s1.store = s.store
          unfold s1
          split <;> rfl
        rw [State.suspendErase_of_not_running (kept ▸ still), ite_self]
      refine ⟨s2.line, ?_, fun no => absurd body (no fr rfl cells), fun fr' cells' here waits => ?_⟩
      · rw [same]
        unfold s2 s1
        split <;> rfl
      · obtain rfl := Option.some.inj here
        obtain rfl := FrameBody.waiting.inj (body.symm.trans waits)
        have records : s1.line = { s.line with panels := s.line.panels.map fun y =>
            if y.addr = fr.addr ∧ fr.discard = false then
              { y with
                incomplete := cells.any (s.store.blankCell fr.lang), bright := some (s.brightness fr.panelKind) }
            else y } := by
          unfold s1
          cases fr.discard with
          | true => simp
          | false =>
            simp only [and_true]
            rfl
        exact (congrArg (fun l : PanelLine =>
          { l with flight := some { fr with body := .sent bytes, ackLeft := 20 } }) records :)

/-! ### The completion of a program (R174) -/

/-- A completed program, the page and the reads that waited for it gone out. -/
def State.programmed (s : State) (pr : Program) (l : PanelLine) : State :=
  let raised := s.raise (.storeDone false pr.phrase)
  { s with
    store := s.store.finishProgram pr
    line := l
    link := { raised.link with
      operations := (raised.port .operations).readAnswered (s.store.finishProgram pr)
      content := (raised.port .content).readAnswered (s.store.finishProgram pr) } }

theorem State.programmed_port (s : State) (pr : Program) (l : PanelLine) (p : Port) :
    (s.programmed pr l).restaleIncomplete.port p
      = ((s.raise (.storeDone false pr.phrase)).port p).readAnswered (s.store.finishProgram pr) := by
  cases p <;> rfl

/-- What a completion leaves, in the order of its parts (R174, R182). -/
theorem State.programComplete_eq (pr : Program) (s : State) :
    ∃ l : PanelLine, s.programComplete pr = (s.programmed pr l).restaleIncomplete
    ∧ ((∀ fr ∈ s.line.flight, ∀ cells, fr.body ≠ .waiting cells) → l = s.line)
    ∧ ∀ fr cells, s.line.flight = some fr → fr.body = .waiting cells → l = { s.line with
        flight := some { fr with
          body := .sent (panelFrame .page fr.addr (s.brightness fr.panelKind) fr.lang
            (cells.flatMap ((s.store.finishProgram pr).cellBytes fr.lang)))
          ackLeft := 20 }
        panels := s.line.panels.map fun y =>
          if y.addr = fr.addr ∧ fr.discard = false then
            { y with
              incomplete := cells.any ((s.store.finishProgram pr).blankCell fr.lang)
              bright := some (s.brightness fr.panelKind) }
          else y } := by
  have still : ∀ er, (s.store.finishProgram pr).op ≠ .erasing er := fun er => by
    show s.store.op.afterProgram ≠ _
    cases h : s.store.op <;> simp [StoreOp.afterProgram]
  obtain ⟨l, launched, kept, sent⟩ := State.launchWaiting_eq
    (s := ({ s with store := s.store.finishProgram pr }).raise (.storeDone false pr.phrase)) still
  refine ⟨l, ?_, kept, sent⟩
  unfold State.programComplete
  dsimp only
  rw [launched, State.answerDeferred_eq, State.answerDeferred_eq]
  rfl

/-- Settles O49: the latch is set, a phrase is written under it, and its completion releases what waited. -/
theorem phraseProgrammed : Obligations.PhraseProgrammed := by
  refine ⟨fun s p takes => ?_, ?_, fun s pr powered op => ?_⟩
  · have block : emptyPayload [] (fun s => done { s with store := { s.store with latch := true } } [])
        (s.enter p 0x60 []) = done { s.enter p 0x60 [] with store := { s.store with latch := true } } [] := rfl
    exact congrArg Host.Outcome.next (serve_reply takes.1 takes.2 block)
  · intro s p phrase lang text hphrase hlang some_ few form b takes
    obtain ⟨phraseRead, langRead, textRead, ok⟩ : (u16 b 0 = phrase ∧ u8 b 2 = lang ∧ b.drop 3 = text
      ∧ writeOk b = true) := writePayload_reads hphrase hlang some_ few form
    have latched : (s.enter p 0x61 b).store.latch = s.store.latch := rfl
    have block : writePhraseBlock b (s.enter p 0x61 b) = _ := if_neg (not_not_intro ok)
    rw [latched, phraseRead, langRead, textRead] at block
    refine ⟨fun shut => ?_, fun latch lock fixed op free whole => ?_⟩
    · rw [if_pos (by simp [shut])] at block
      refine (congrArg Host.Outcome.next (serve_reply (always := State.clearLatch) takes.1 takes.2 block)).trans ?_
      have clear : (s.enter p 0x61 b).clearLatch = s.enter p 0x61 b := by
        show ({ s.enter p 0x61 b with store := { s.store with latch := false } } : State) = _
        rw [← shut]
        rfl
      rw [clear]
      rfl
    · rw [if_neg (by simp [latch]), if_neg (by simp [State.enter_store, Store.isProtected_of lock fixed]),
        if_neg (by simp [State.enter_store, Store.programAllowed_of op]), if_neg] at block
      · refine ⟨_, congrArg Host.Outcome.next (serve_reply (always := State.clearLatch) takes.1 takes.2 block), ?_⟩
        have entries := getEntry_putEntry_ite (4 * phrase + lang) .torn s.store.entries
        have withProgram : s.store.op.withProgram ⟨phrase, lang, text, 2⟩ = (match s.store.op with
            | .eraseHeld er => .heldProgramming er ⟨phrase, lang, text, 2⟩
            | _ => .programming ⟨phrase, lang, text, 2⟩) := by
          cases s.store.op <;> rfl
        cases p <;> exact ⟨rfl, rfl, withProgram, entries, rfl⟩
      · rintro (taken | incomplete)
        · exact absurd ((congrArg Option.isSome free).symm.trans taken) nofun
        · exact absurd (whole.symm.trans incomplete) nofun
  · have busy : s.store.op.program? = some pr := by
      rcases op with op | ⟨er, op⟩ <;> rw [op] <;> rfl
    obtain ⟨l, result, kept, sent⟩ := State.programComplete_eq pr s
    have runs : exec .programComplete s = .next (s.programComplete pr) := by
      refine (live_next powered).trans (congrArg Host.Outcome.next ?_)
      rw [busy]
    rw [result] at runs
    have after : (s.store.finishProgram pr).op = (match s.store.op with
        | .heldProgramming er _ => .eraseHeld er
        | _ => .idle) := by
      show s.store.op.afterProgram = _
      cases s.store.op <;> rfl
    refine ⟨_, runs, getEntry_putEntry_ite _ _ _, after, ?_, fun p => ?_, fun p => ?_, rfl, rfl,
      State.staleAt_staleWhere _ _, fun none_ => ?_, ?_, rfl⟩
    · show _ ∈ ((State.programmed s pr l).restaleIncomplete.port .content).events
      rw [State.programmed_port, PortState.readAnswered_events]
      exact State.raise_mem_content s _ rfl
    · rw [State.programmed_port, PortState.readAnswered_events]
      exact State.raisesOnly_raise rfl s p
    · obtain ⟨events, raised⟩ := State.raise_port (.storeDone false pr.phrase) s p
      rw [State.programmed_port, raised]
      exact PortState.readAnswered_quiet _
    · exact (PanelLine.unmarked_staleWhere _ _).trans (congrArg PanelLine.unmarked (kept none_))
    · intro fr cells flight waits
      exact (PanelLine.unmarked_staleWhere _ _).trans (congrArg PanelLine.unmarked (sent fr cells flight waits))

end Sys2Proof.Machine
end

section
/-!
What a portion change does to seats, holds and marks, and to the notices (R83, R115 to R117, R151, R163).
-/
namespace Sys2Proof.Machine

/-! ### Every hold broken and every mark set (R117) -/

section AllMarked
variable {s t u : State} {codes : List Nat}

/-- Every standing hold is broken, and every mark is set. -/
def State.AllMarked (s t : State) : Prop :=
  s.HoldsBroken t ∧ s.Marked (fun _ => true) t ∧ t.holds.marks = BitVec.allOnes 24

theorem State.allMarked_breakAndMarkAll (s : State) : s.AllMarked s.breakAndMarkAll := s.breakAndMarkAll_holds

/-- Events of other kinds leave it so. -/
theorem State.AllMarked.raises (h : s.AllMarked t) (holds : u.holds = t.holds) (raises : t.Raises codes u)
    (other : codes.contains 0x10 = false) : s.AllMarked u := by
  obtain ⟨broken, ⟨marks, unreported, raised⟩, all⟩ := h
  refine ⟨fun p => ?_, ⟨fun b hb => ?_, fun b hb => ?_, fun fresh => ?_⟩, ?_⟩
  · rw [holds]
    exact broken p
  · rw [holds]
    exact marks b hb
  · rw [holds]
    exact unreported b hb
  · rw [holds]
    exact raises.content other (raised fresh)
  · rw [holds]
    exact all

/-- Seats handed on after it leave it so. -/
theorem State.AllMarked.relistAndHand (h : s.AllMarked t) (f : Seat → List Segment) :
    s.AllMarked (t.relistAndHand f) := by
  obtain ⟨broken, ⟨marks, unreported, raised⟩, all⟩ := h
  obtain ⟨holds2, marks2, unreported2, -⟩ := State.handedOn_relistAndHand f t
  have set_ {b : Nat} (hb : b < 24) : t.holds.marks.getLsbD b = true := by
    rw [all, BitVec.getLsbD_allOnes, decide_eq_true hb]
  refine ⟨fun p => ?_, ⟨fun b hb => ?_, fun b hb => ?_, fun fresh => ?_⟩, ?_⟩
  · rw [holds2, broken]
    cases s.holds.get p <;> rfl
  · rw [marks2 b hb, set_ hb]
    simp
  · rw [unreported2 b hb, set_ hb, Bool.not_true, Bool.and_false, Bool.or_false]
    exact unreported b hb
  · exact State.handSeats_pending (s := t.relist f) (raised fresh)
  · refine BitVec.eq_of_getLsbD_eq fun b hb => ?_
    rw [marks2 b hb, set_ hb, BitVec.getLsbD_allOnes, decide_eq_true hb, Bool.true_or]

end AllMarked

/-! ### Segments on another portion's route (R115, R116) -/

/-- On a route with a calling stop every stop has an effective stop (R23). -/
theorem Plan.eff_of_route {pl : Plan} {po : Portion} {n m e : Nat} (on : n ∈ pl.route po) (other : pl.eff po m = some e) :
    ∃ f, pl.eff po n = some f := by
  have callable : pl.calls po ≠ [] := fun none => by
    unfold Plan.eff at other
    rw [none] at other
    split at other <;> exact nomatch other
  rw [Plan.eff, if_neg (Plan.mem_route.mp on)]
  cases first : (pl.calls po).find? fun c => decide (n ≤ c) with
  | some c => exact ⟨c, rfl⟩
  | none =>
    have all : (pl.calls po).filter (fun c => decide (c < n)) = pl.calls po :=
      List.filter_eq_self.mpr fun c hc => by simpa using List.find?_eq_none.mp first c hc
    dsimp only
    rw [all]
    exact ⟨_, List.getLast?_eq_some_getLast callable⟩

/-- A seat's list for a portion: the stranded flags taken by its route, the segments past or collapsed removed
(R115, R116). -/
def Plan.portionList (pl : Plan) (po : Portion) (ref : Option Nat) (x : Seat) : List Segment :=
  let off (n : Nat) : Bool := !(pl.route po).contains n
  let flagged (g : Segment) : Segment := { g with stranded := off g.fromStop || off g.toStop }
  let removed (g : Segment) : Bool := !g.stranded
    && match pl.eff po g.fromStop, pl.eff po g.toStop with
      | some f, some e => decide (f = e) || ref.any fun r => decide (e ≤ r)
      | _, _ => false
  (x.segments.map flagged).filter fun g => !removed g

theorem State.restranded_eq {s : State} {po : Portion} (portion : s.portion = some po) :
    s.restranded = s.plan.portionList po s.refStop := by
  have eff (n : Nat) : s.eff n = s.plan.eff po n := by rw [State.eff, portion]
  have route : s.coachRoute = s.plan.route po := by rw [State.coachRoute, portion]
  have flag : s.restrand = fun g : Segment => { g with
      stranded := !(s.plan.route po).contains g.fromStop || !(s.plan.route po).contains g.toStop } := by
    funext g
    rw [State.restrand, route, Bool.not_and]
  have goes (g : Segment) (on : g.stranded = false → g.fromStop ∈ s.plan.route po) :
      (g.stranded || !(s.isPast g || s.collapsed g)) = !(!g.stranded
        && match s.plan.eff po g.fromStop, s.plan.eff po g.toStop with
          | some f, some e => decide (f = e) || s.refStop.any fun r => decide (e ≤ r)
          | _, _ => false) := by
    cases stranded : g.stranded with
    | true => rfl
    | false =>
      rw [State.isPast, State.collapsed, eff, eff]
      cases far : s.plan.eff po g.toStop with
      | none => cases s.plan.eff po g.fromStop <;> rfl
      | some e =>
        obtain ⟨f, from_⟩ := Plan.eff_of_route (on stranded) far
        rw [from_]
        cases s.refStop with
        | none => simp
        | some r => simp [Bool.or_comm]
  funext x
  rw [State.restranded, flag, Plan.portionList]
  refine List.filter_congr fun g hg => goes g fun safe => ?_
  obtain ⟨h, -, rfl⟩ := List.mem_map.mp hg
  simpa using (Bool.or_eq_false_iff.mp safe).1

/-- How many stranded segments a table holds (R116). -/
def SeatTable.stranded (tb : SeatTable) : Nat :=
  (tb.seats.map fun x => (x.segments.filter Segment.stranded).length).sum

theorem State.strandedCount_eq (s : State) : s.strandedCount = s.table.stranded := by
  rw [State.strandedCount, SeatTable.stranded]
  exact congrArg List.sum (List.map_congr_left fun x _ => List.countP_eq_length_filter)

theorem SeatTable.stranded_congr {tb other : SeatTable} (same : tb.undisplayed = other.undisplayed) :
    tb.stranded = other.stranded := by
  have count (l : List Seat) : (l.map fun x => (x.segments.filter Segment.stranded).length)
      = (l.map Seat.undisplayed).map fun x => (x.segments.filter Segment.stranded).length := by
    rw [List.map_map]
    rfl
  have seats : tb.seats.map Seat.undisplayed = other.seats.map Seat.undisplayed := congrArg SeatTable.seats same
  rw [SeatTable.stranded, SeatTable.stranded, count tb.seats, seats, ← count other.seats]

/-- What the Seat Table does at a portion change to a portion (R115, R116). -/
theorem State.portionSeats_spec {s : State} {po : Portion} (portion : s.portion = some po) :
    let t := s.portionSeats
    { t with table := s.table, link := s.link, holds := s.holds } = s
    ∧ t.table = s.table.keeping (s.plan.portionList po s.refStop)
    ∧ (∀ z : State, z.AllMarked s → z.AllMarked t)
    ∧ s.Effect [0x0E, 0x10] t
    ∧ (s.table.stranded < t.table.stranded →
      .stranded t.table.stranded ∈ t.link.operations.events ∧ .stranded t.table.stranded ∈ t.link.content.events)
    ∧ (t.table.stranded ≤ s.table.stranded → s.Effect [0x10] t) := by
  intro t
  let v := s.relistAndHand (s.plan.portionList po s.refStop)
  have frame : { v with table := s.table, link := s.link, holds := s.holds } = s := State.relistAndHand_frame _ s
  have fewer (x : Seat) : (s.plan.portionList po s.refStop x).length ≤ x.segments.length :=
    (List.length_filter_le _ _).trans (List.length_map _).le
  have table : v.table = s.table.keeping (s.plan.portionList po s.refStop) :=
    (State.relistAndHand_table _ s).trans (State.relist_keeping _ s fun x _ => fewer x)
  have effect : s.Effect [0x10] v := State.effect_relistAndHand _ s
  have t_eq : t = if s.table.stranded < v.table.stranded then v.raise (.stranded v.table.stranded) else v := by
    show s.portionSeats = _
    unfold State.portionSeats
    dsimp only
    rw [State.restranded_eq portion, State.strandedCount_eq, State.strandedCount_eq]
  have same : t.table = v.table := by
    rw [t_eq]
    split <;> rfl
  rw [same, t_eq]
  refine ⟨?_, table, fun z marked => ?_, ?_, fun more => ?_, fun less => ?_⟩
  · split
    · exact frame
    · exact frame
  · have handed : z.AllMarked v := marked.relistAndHand _
    split
    · exact handed.raises (codes := [0x0E]) rfl (State.raises_raise rfl v) rfl
    · exact handed
  · split
    · exact (effect.mono (by simp)).trans (State.effect_raise rfl v)
    · exact effect.mono (by simp)
  · rw [if_pos more]
    exact ⟨State.raise_mem_operations _ _ rfl, State.raise_mem_content _ _ rfl⟩
  · rw [if_neg (Nat.not_lt.mpr less)]
    exact effect

end Sys2Proof.Machine
end

section
/-!
Proof of the statement about Apply Formation (R81 to R83, R115 to R117, R151, R163).
-/
namespace Sys2Proof.Machine

/-! ### The flush of journey notices, then the re-test of targets (R151, R163) -/

section Flush
variable {s : State}

/-- Whether a notice is a journey notice of a stop off a portion's route (R163). -/
def Plan.leaves (pl : Plan) (po : Portion) (n : Notice) : Bool :=
  decide (n.cls = .journey) && n.stop.any fun k => !(pl.route po).contains k

theorem State.flushNotices_portion {po : Portion} (portion : s.portion = some po) :
    s.flushNotices = s.dropSaved (s.plan.leaves po) := by
  have same : (fun n : Notice => n.isClass .journey && match n.stop with
      | some k => !(s.plan.route po).contains k
      | none => false) = s.plan.leaves po := by
    funext n
    rw [Plan.leaves, Notice.isClass]
    cases n.stop <;> rfl
  rw [State.flushNotices, portion, ← same] <;> rfl

theorem State.flushNotices_detached (portion : s.portion = none) :
    s.flushNotices = s.endNotices fun n => n.isClass .journey := by
  rw [State.flushNotices, portion]

theorem State.flushNotices_notice (s : State) : s.NoticeStep s.flushNotices ∧ s.BannersShown s.flushNotices := by
  cases portion : s.portion with
  | none =>
    rw [State.flushNotices_detached portion]
    exact ⟨s.endNotices_notice _, s.endNotices_banners _⟩
  | some po =>
    rw [State.flushNotices_portion portion]
    exact ⟨s.dropSaved_notice _, s.dropSaved_banners _⟩

theorem State.flushRetest_notice (s : State) :
    s.NoticeStep s.flushNotices.retestShort ∧ s.BannersShown s.flushNotices.retestShort := by
  obtain ⟨flush, shown⟩ := s.flushNotices_notice
  obtain ⟨retest, shown2⟩ := s.flushNotices.retestShort_notice
  exact ⟨flush.trans retest, shown.trans shown2 retest⟩

/-- Where the notices go off the platform is judged by what a flush leaves alone (R151). -/
theorem State.NoticeStep.retested {t : State} (h : s.NoticeStep t) : t.retested = s.retested :=
  (congrArg State.retested h.frame :)

theorem State.NoticeStep.targeted {t : State} (h : s.NoticeStep t) : t.targeted = s.targeted :=
  (congrArg State.targeted h.frame :)

theorem State.flushRetest_portion {po : Portion} (portion : s.portion = some po) :
    let saved := s.seq.slot1.toList ++ s.seq.slot2.toList ++ s.seq.queue
    let drops (n : Notice) : Bool := s.plan.leaves po n || decide (s.targeted n = none)
    s.flushNotices.retestShort.seq = s.retested (s.seq.without (s.plan.leaves po))
    ∧ (saved.filter drops ≠ [] → ∃ n ∈ saved, drops n = true
      ∧ .noticeDropped n.cls n.tag n.kind n.stop .expired ∈ s.flushNotices.retestShort.link.operations.events) := by
  intro saved drops
  obtain ⟨flush, -⟩ := s.flushNotices_notice
  have retested := flush.retested
  have targeted := flush.targeted
  have link := s.flushNotices.retestShort_link
  have seq := s.flushNotices.retestShort_seq
  rw [State.flushNotices_portion portion] at retested targeted link seq ⊢
  have left := s.dropSaved_seq (s.plan.leaves po)
  have gone (n : Notice) : (s.dropSaved (s.plan.leaves po)).targetGone n = true ↔ s.targeted n = none := by
    rw [← targeted]
    exact State.targeted_none.symm
  refine ⟨by rw [seq, retested, left], fun some_ => ?_⟩
  rw [link]
  by_cases later : (s.dropSaved (s.plan.leaves po)).seq.saved (s.dropSaved (s.plan.leaves po)).targetGone = []
  · have same : ((s.dropSaved (s.plan.leaves po)).dropSaved (s.dropSaved (s.plan.leaves po)).targetGone).link
        = (s.dropSaved (s.plan.leaves po)).link := by
      rw [State.dropSaved, later]
      rfl
    rw [same]
    have first : s.seq.saved (s.plan.leaves po) ≠ [] := fun none_ => some_ <| by
      refine List.filter_eq_nil_iff.mpr fun n hn drop => ?_
      have stays : s.plan.leaves po n = false :=
        Bool.eq_false_iff.mpr fun leaves => List.ne_nil_of_mem (Sequencer.mem_saved.mpr ⟨hn, leaves⟩) none_
      have off : s.targeted n = none := by
        have := (Bool.or_eq_true_iff.mp drop).resolve_left (by rw [stays]; exact Bool.false_ne_true)
        exact of_decide_eq_true this
      refine List.ne_nil_of_mem (Sequencer.mem_saved.mpr ⟨?_, (gone n).mpr off⟩) later
      rw [left]
      simpa [Sequencer.without, Option.mem_toList, stays, saved] using hn
    obtain ⟨n, inside, raised⟩ := State.dropSaved_raised first
    obtain ⟨hn, leaves⟩ := Sequencer.mem_saved.mp inside
    exact ⟨n, hn, Bool.or_eq_true_iff.mpr (.inl leaves), raised⟩
  · obtain ⟨n, inside, raised⟩ := State.dropSaved_raised later
    obtain ⟨hn, off⟩ := Sequencer.mem_saved.mp inside
    refine ⟨n, ?_, Bool.or_eq_true_iff.mpr (.inr (decide_eq_true ((gone n).mp off))), raised⟩
    rw [left] at hn
    have kept := hn
    simp only [Sequencer.without, List.mem_append, Option.mem_toList, Option.filter_eq_some_iff,
      List.mem_filter] at kept
    simp only [saved, List.mem_append, Option.mem_toList]
    exact kept.imp (Or.imp And.left And.left) And.left

theorem State.flushRetest_detached (portion : s.portion = none) :
    let posted (n : Notice) : Bool := decide (n.cls ≠ .journey)
    s.flushNotices.retestShort.seq = s.retested (if s.seq.active.all posted
      then s.seq.without fun n => !posted n else (s.seq.without fun n => !posted n).returned) := by
  intro posted
  obtain ⟨flush, -⟩ := s.flushNotices_notice
  have same : (fun n : Notice => n.isClass .journey) = fun n => !posted n := by
    funext n
    simp [Notice.isClass, posted]
  rw [State.retestShort_seq, flush.retested, State.flushNotices_detached portion, same, State.endNotices_seq]
  refine congrArg s.retested ?_
  cases s.seq.active with
  | none => rfl
  | some n =>
    have all : (some n : Option Notice).all posted = posted n := rfl
    rw [all]
    cases posted_ : posted n with
    | true => simp [posted_]
    | false =>
      have journey : n.cls = .journey := by simpa [posted] using posted_
      simp [posted_, journey]

end Flush

/-! ### The parts of an apply (R82, R83) -/

/-- Apply Formation before seats and notices: the staged entries active, FORMATION raised, the holds broken (R82,
R124). -/
def State.formed (e : TrainEnd) (s : State) : State :=
  ({ s with form := s.form.apply e }.raiseFormation false).breakHolds fun _ => true

/-- The FORMATION entry of a formation as it stands (R82). -/
def State.formationEvent (s : State) : Event := .formation false s.attached s.position s.portion s.facing

theorem State.formationEvent_congr {s t : State} (form : t.form = s.form) (unit : t.unitId = s.unitId) :
    t.formationEvent = s.formationEvent := by
  have only : t.formationEvent = State.formationEvent { s with form := t.form, unitId := t.unitId } := rfl
  rw [only, form, unit]

theorem State.formed_facts (e : TrainEnd) (s : State) :
    s.HoldsBroken (s.formed e)
    ∧ (s.formed e).holds.marks = s.holds.marks ∧ (s.formed e).holds.unreported = s.holds.unreported
    ∧ (s.formed e).formationEvent ∈ (s.formed e).link.operations.events
    ∧ s.Effect [0x05] (s.formed e)
    ∧ { s.formed e with link := s.link, holds := s.holds } = { s with form := s.form.apply e } := by
  refine ⟨fun p => ?_, rfl, rfl, ?_, ?_, rfl⟩
  · have broken : (s.formed e).holds.get p = (s.holds.get p).breakIf fun _ => true := by cases p <;> rfl
    rw [broken]
    cases s.holds.get p <;> rfl
  · exact State.raise_mem_operations { s with form := s.form.apply e } _ rfl
  · exact (State.Effect.of_same (s := s) (t := { s with form := s.form.apply e }) rfl rfl).trans
      ((State.effect_raise rfl _).trans (State.Effect.of_same rfl rfl))

/-- The seats' part of an apply (R83). -/
def State.seated (e : TrainEnd) (s : State) : State :=
  if s.portion ≠ s.stagedPortion then (s.formed e).changePortion else s.formed e

/-- What the seats' part of an apply leaves (R83, R115 to R117, R124). -/
theorem State.seated_facts (e : TrainEnd) (s : State) :
    let w := s.seated e
    { w with table := s.table, link := s.link, holds := s.holds } = { s with form := s.form.apply e }
    ∧ s.HoldsBroken w ∧ w.formationEvent ∈ w.link.operations.events
    ∧ s.Effect [0x05, 0x0E, 0x10] w
    ∧ (s.portion = s.stagedPortion → w = s.formed e)
    ∧ (s.portion ≠ s.stagedPortion → s.AllMarked w)
    ∧ (s.portion ≠ s.stagedPortion → s.stagedPortion = none → w.table = s.table)
    ∧ ∀ po, s.portion ≠ s.stagedPortion → s.stagedPortion = some po →
      w.table = s.table.keeping (s.plan.portionList po w.refStop)
      ∧ (s.table.stranded < w.table.stranded →
        .stranded w.table.stranded ∈ w.link.operations.events ∧ .stranded w.table.stranded ∈ w.link.content.events)
      ∧ (w.table.stranded ≤ s.table.stranded → s.Effect [0x05, 0x10] w) := by
  intro w
  obtain ⟨broken, -, -, formation, effect, frame⟩ := s.formed_facts e
  by_cases moved : s.portion ≠ s.stagedPortion
  · let raised := { s with form := s.form.apply e }.raiseFormation false
    have marked : raised.AllMarked raised.breakAndMarkAll := raised.allMarked_breakAndMarkAll
    have first : s.Effect [0x05, 0x10] raised.breakAndMarkAll :=
      (effect.mono (by simp)).trans ((State.effect_setMarks _ _).mono (by simp))
    have pending : raised.formationEvent ∈ raised.breakAndMarkAll.link.operations.events :=
      (State.effect_setMarks (BitVec.allOnes 24) (s.formed e)).raises.operations rfl formation
    have frame2 : { raised.breakAndMarkAll with link := s.link, holds := s.holds } = { s with form := s.form.apply e } :=
      (congrArg (fun u : State => { u with link := s.link, holds := s.holds }) raised.breakAndMarkAll_frame :)
    have w_eq : w = if raised.breakAndMarkAll.portion.isSome then raised.breakAndMarkAll.portionSeats
        else raised.breakAndMarkAll := if_pos moved
    have portion : raised.breakAndMarkAll.portion = s.stagedPortion := (congrArg State.portion frame2 :)
    have table : raised.breakAndMarkAll.table = s.table := (congrArg State.table frame2 :)
    have plan : raised.breakAndMarkAll.plan = s.plan := (congrArg State.plan frame2 :)
    cases staged : s.stagedPortion with
    | none =>
      rw [portion, staged] at w_eq
      change w = raised.breakAndMarkAll at w_eq
      rw [w_eq]
      refine ⟨(congrArg (fun u : State => { u with table := s.table }) frame2 :), marked.1, ?_, first.mono (by simp),
        fun same => absurd (same.trans staged.symm) moved, fun _ => marked, fun _ _ => table, fun po _ => nofun⟩
      rw [State.formationEvent_congr (s := raised) (t := raised.breakAndMarkAll) (congrArg State.form frame2 :)
        (congrArg State.unitId frame2 :)]
      exact pending
    | some po =>
      rw [portion, staged] at w_eq
      change w = raised.breakAndMarkAll.portionSeats at w_eq
      obtain ⟨frame3, table3, marked3, effect3, more, less⟩ := State.portionSeats_spec (portion.trans staged)
      rw [table] at frame3 table3 more less
      rw [plan] at table3
      have frame4 : { w with table := s.table, link := s.link, holds := s.holds } = { s with form := s.form.apply e } := by
        rw [w_eq]
        exact (congrArg (fun u : State => { u with link := s.link, holds := s.holds }) frame3 :).trans frame2
      have ref : raised.breakAndMarkAll.refStop = w.refStop :=
        (congrArg State.refStop frame2 :).trans (congrArg State.refStop frame4 :).symm
      have all : s.AllMarked w := by
        rw [w_eq]
        exact marked3 raised marked
      have kept : s.Effect [0x05, 0x0E, 0x10] w := by
        rw [w_eq]
        exact (first.mono (by simp)).trans (effect3.mono (by simp))
      refine ⟨frame4, all.1, ?_, kept, fun same => absurd (same.trans staged.symm) moved, fun _ => all,
        fun _ => nofun, fun po' _ is => ?_⟩
      · rw [State.formationEvent_congr (s := raised) (t := w) (congrArg State.form frame4 :)
          (congrArg State.unitId frame4 :),
          w_eq]
        exact effect3.raises.operations rfl pending
      · obtain rfl := Option.some.inj is
        rw [ref] at table3
        rw [w_eq] at table3 ⊢
        exact ⟨table3, more, fun few => first.trans ((less few).mono (by simp))⟩
  · have w_eq : w = s.formed e := if_neg moved
    rw [w_eq]
    exact ⟨(congrArg (fun u : State => { u with table := s.table }) frame :), broken, formation, effect.mono (by simp),
      fun _ => rfl, fun h => absurd h moved, fun h => absurd h moved, fun po h => absurd h moved⟩

/-! ### The end of an apply: panels, displays and the level (R83, R155) -/

/-- Panels marked stale and displays re-formed at the end of an apply (R83, R111). -/
def State.applyShown (moved turned : Bool) (s : State) : State :=
  let s1 := if moved || turned then s.staleDoorMaps.staleAll else s.staleDoorMaps
  if moved then s1.reformAll else s1

theorem State.applyFormation_eq (e : TrainEnd) (s : State) : s.applyFormation e
    = (((s.seated e).flushNotices.retestShort).applyShown (decide (s.portion ≠ s.stagedPortion))
      (decide (s.facing ≠ State.facing { s with form := s.form.apply e }))).settle s := by
  unfold State.applyFormation State.applyShown State.seated
  dsimp only
  by_cases moved : s.portion ≠ s.stagedPortion
  · have moved_ : decide (s.portion ≠ State.portion { s with form := s.form.apply e }) = true := decide_eq_true moved
    rw [moved_, decide_eq_true moved, if_pos moved]
    rfl
  · have moved_ : decide (s.portion ≠ State.portion { s with form := s.form.apply e }) = false :=
      decide_eq_false moved
    rw [moved_, decide_eq_false moved, if_neg moved]
    rfl

theorem State.applyShown_facts (moved turned : Bool) (s : State) :
    let t := s.applyShown moved turned
    { t with table := s.table, line := s.line } = s ∧ t.link = s.link
    ∧ s.Effect [] t ∧ t.table.undisplayed = s.table.undisplayed
    ∧ t.StaleAt (fun x => decide (x.kind = .doorMap))
    ∧ (moved = false → t.table = s.table)
    ∧ ((moved = true ∨ turned = true) → t.StaleAt fun _ => true)
    ∧ (moved = true → ∀ y ∈ t.table.seats, y.lastDisplay = some (t.display y)) := by
  intro t
  have maps : s.staleDoorMaps.StaleAt fun x => decide (x.kind = .doorMap) := s.staleAt_staleWhere _
  have first : s.Effect [] s.staleDoorMaps := State.effect_staleWhere _ s
  have every : s.Effect [] s.staleDoorMaps.staleAll := first.trans (State.effect_staleWhere _ _)
  have all : s.staleDoorMaps.staleAll.StaleAt fun _ => true := State.staleAt_staleWhere _ _
  cases moved with
  | true =>
    have formed : s.Effect [] t := every.trans (State.effect_reform _ _)
    have effect : s.staleDoorMaps.staleAll.Effect [] t := State.effect_reform _ _
    refine ⟨rfl, rfl, formed, SeatTable.undisplayed_reform s.staleDoorMaps.staleAll _,
      (effect.stale _ all).mono fun _ _ => rfl, nofun, fun _ => effect.stale _ all, fun _ y hy => ?_⟩
    obtain ⟨x, -, rfl⟩ := List.mem_map.mp hy
    rfl
  | false =>
    cases turned with
    | true => exact ⟨rfl, rfl, every, rfl, all.mono fun _ _ => rfl, fun _ => rfl, fun _ => all, nofun⟩
    | false => exact ⟨rfl, rfl, first, rfl, maps, fun _ => rfl, fun h => h.elim nofun nofun, nofun⟩

/-- What an accepted Apply Formation leaves (R82, R83). -/
theorem State.applyFormation_spec (e : TrainEnd) (s : State) :
    let t := s.applyFormation e
    ({ t with table := s.table, holds := s.holds, seq := s.seq, link := s.link, line := s.line }
      = { s with form := s.form.apply e })
    ∧ s.HoldsBroken t ∧ t.formationEvent ∈ t.link.operations.events
    ∧ s.Effect [0x05, 0x06, 0x07, 0x0E, 0x10] t
    ∧ (s.portion = s.stagedPortion → t.table = s.table ∧ t.holds.marks = s.holds.marks
      ∧ t.holds.unreported = s.holds.unreported)
    ∧ (s.portion ≠ s.stagedPortion → s.AllMarked t ∧ t.StaleAt (fun _ => true) ∧ s.Reformed (fun _ => true) t)
    ∧ (s.portion ≠ s.stagedPortion → s.stagedPortion = none → t.table.undisplayed = s.table.undisplayed)
    ∧ (∀ po, s.portion ≠ s.stagedPortion → s.stagedPortion = some po →
      t.table.undisplayed = (s.table.keeping (s.plan.portionList po t.refStop)).undisplayed
      ∧ (s.table.stranded < t.table.stranded →
        .stranded t.table.stranded ∈ t.link.operations.events ∧ .stranded t.table.stranded ∈ t.link.content.events)
      ∧ (t.table.stranded ≤ s.table.stranded → s.Raises [0x05, 0x06, 0x07, 0x10] t))
    ∧ (s.facing ≠ t.facing → t.StaleAt fun _ => true)
    ∧ t.StaleAt (fun x => decide (x.kind = .doorMap))
    ∧ (∀ po, s.stagedPortion = some po →
      let saved := s.seq.slot1.toList ++ s.seq.slot2.toList ++ s.seq.queue
      let drops (n : Notice) : Bool := s.plan.leaves po n || decide (t.targeted n = none)
      t.seq = t.retested (s.seq.without (s.plan.leaves po))
      ∧ (saved.filter drops ≠ [] → ∃ n ∈ saved, drops n = true
        ∧ .noticeDropped n.cls n.tag n.kind n.stop .expired ∈ t.link.operations.events))
    ∧ (s.stagedPortion = none →
      let posted (n : Notice) : Bool := decide (n.cls ≠ .journey)
      t.seq = t.retested (if s.seq.active.all posted
        then s.seq.without fun n => !posted n else (s.seq.without fun n => !posted n).returned))
    ∧ (s.level ≠ t.level → .noticeLevel s.level t.level ∈ t.link.operations.events)
    ∧ (s.seq.active ≠ t.seq.active → t.StaleAt fun x => decide (x.kind = .banner)) := by
  intro t
  have t_eq : t = _ := s.applyFormation_eq e
  let w := s.seated e
  let v := w.flushNotices.retestShort
  obtain ⟨frame1, broken, formation, effect1, same, marked, off, on⟩ := s.seated_facts e
  obtain ⟨step, banners⟩ := w.flushRetest_notice
  let u := v.applyShown (decide (s.portion ≠ s.stagedPortion))
    (decide (s.facing ≠ State.facing { s with form := s.form.apply e }))
  obtain ⟨frame3, link3, effect3, undisplayed3, maps, kept3, stale3, shown3⟩ : _ := v.applyShown_facts
    (decide (s.portion ≠ s.stagedPortion)) (decide (s.facing ≠ State.facing { s with form := s.form.apply e }))
  change { u with table := v.table, line := v.line } = v at frame3
  have portion : w.portion = s.stagedPortion := (congrArg State.portion frame1 :)
  have seq1 : w.seq = s.seq := (congrArg State.seq frame1 :)
  have frame2 : { v with seq := w.seq, link := w.link, line := w.line } = w := step.frame
  have settled : t = u.settleLevel s := by
    rw [t_eq]
    refine State.settle_eq_settleLevel ?_ ?_ ?_
    · exact (congrArg State.bright frame3 :).trans ((congrArg State.bright frame2 :).trans (congrArg State.bright frame1 :))
    · exact (congrArg State.odo frame3 :).trans ((congrArg State.odo frame2 :).trans (congrArg State.odo frame1 :))
    · exact (congrArg State.clock frame3 :).trans ((congrArg State.clock frame2 :).trans (congrArg State.clock frame1 :))
  have frame4 : { t with link := u.link } = u := settled ▸ u.settleLevel_frame s
  have line4 : t.line = u.line := settled ▸ State.settleLevel_line s
  have effect4 : u.Effect [0x06] t :=
    settled ▸ ⟨State.raises_settleLevel u s, congrArg PanelLine.unmarked (State.settleLevel_line s),
      fun _ h => h.of_line (State.settleLevel_line s)⟩
  let keeps (x : State) : State := { x with table := w.table, seq := w.seq, link := w.link, line := w.line }
  have tail : keeps t = w := (congrArg keeps frame4 :).trans ((congrArg keeps frame3 :).trans
    (congrArg (fun x : State => { x with table := w.table }) frame2 :))
  have effect : w.Effect [0x06, 0x07] t :=
    (step.effect.mono (by simp)).trans ((effect3.mono (by simp)).trans (effect4.mono (by simp)))
  have holds : t.holds = w.holds := (congrArg State.holds tail :)
  have table4 : t.table = u.table := (congrArg State.table frame4 :)
  have table2 : v.table = w.table := (congrArg State.table frame2 :)
  have undisplayed : t.table.undisplayed = w.table.undisplayed := by rw [table4, undisplayed3, table2]
  have stranded : t.table.stranded = w.table.stranded := SeatTable.stranded_congr undisplayed
  have ref : t.refStop = w.refStop := (congrArg State.refStop tail :)
  have retested : t.retested = w.retested := (congrArg State.retested tail :)
  have targeted : t.targeted = w.targeted := (congrArg State.targeted tail :)
  have seq4 : t.seq = v.seq := (congrArg State.seq frame4 :).trans (congrArg State.seq frame3 :)
  have unit : t.unitId = w.unitId := (congrArg State.unitId tail :)
  have form : t.form = w.form := (congrArg State.form tail :)
  have plan : w.plan = s.plan := (congrArg State.plan frame1 :)
  refine ⟨?_, ?_, ?_, ?_, fun still => ?_, fun moved => ⟨?_, ?_, ?_⟩, fun moved detached => ?_,
    fun po moved staged => ⟨?_, ?_, ?_⟩, fun turned => ?_, ?_, fun po staged => ?_, fun detached => ?_, fun differs => ?_,
    fun differs => ?_⟩
  · exact (congrArg (fun x : State => { x with
      table := s.table, holds := s.holds, seq := s.seq, link := s.link, line := s.line }) tail :).trans
      (congrArg (fun x : State => { x with seq := s.seq, line := s.line }) frame1 :)
  · intro p
    rw [holds]
    exact broken p
  · rw [State.formationEvent_congr form unit]
    exact effect.raises.operations rfl formation
  · exact (effect1.mono (by simp)).trans (effect.mono (by simp))
  · have none_ : w = s.formed e := same still
    obtain ⟨-, marks, unreported, -, -, frame⟩ := s.formed_facts e
    have table : w.table = s.table := by
      rw [none_]
      exact (congrArg State.table frame :)
    rw [table4, kept3 (decide_eq_false (not_not_intro still)), table2, holds, none_]
    exact ⟨by rw [← none_, table], marks, unreported⟩
  · exact (marked moved).raises holds effect.raises rfl
  · exact (stale3 (.inl (decide_eq_true moved))).of_line line4
  · intro y hy _
    rw [table4] at hy
    have shown := shown3 (decide_eq_true moved) y hy
    have display : t.display = u.display := (congrArg State.display frame4 :)
    rw [display]
    exact ⟨shown, fun _ => ((stale3 (.inl (decide_eq_true moved))).of_line line4).mono fun _ _ => rfl⟩
  · rw [undisplayed, off moved detached]
  · rw [undisplayed, ref, (on po moved staged).1]
  · rw [stranded]
    exact fun more => ((on po moved staged).2.1 more).imp (effect.raises.operations rfl) (effect.raises.content rfl)
  · rw [stranded]
    exact fun less => (((on po moved staged).2.2 less).raises.mono (by simp)).trans (effect.raises.mono (by simp))
  · have facing : t.facing = State.facing { s with form := s.form.apply e } :=
      (congrArg State.facing tail :).trans (congrArg State.facing frame1 :)
    rw [facing] at turned
    exact (stale3 (.inr (decide_eq_true turned))).of_line line4
  · exact maps.of_line line4
  · obtain ⟨seq, dropped⟩ := State.flushRetest_portion (portion.trans staged)
    rw [plan, seq1] at seq dropped
    rw [seq4, retested, targeted]
    refine ⟨seq, fun some_ => ?_⟩
    obtain ⟨n, hn, drops, raised⟩ := dropped some_
    refine ⟨n, hn, drops, effect4.raises.operations rfl ?_⟩
    rw [link3]
    exact raised
  · have seq := State.flushRetest_detached (portion.trans detached)
    rw [seq1] at seq
    rw [seq4, retested]
    exact seq
  · have level : t.level = u.level := congrArg (fun q : Sequencer => levelOf q.active)
      ((congrArg State.seq frame4 :) : t.seq = u.seq)
    rw [level] at differs ⊢
    rw [settled]
    exact State.settleLevel_raised differs
  · rw [seq4, ← seq1] at differs
    exact (effect3.stale _ (banners differs)).of_line line4

/-! ### Apply Formation (R81 to R83) -/

/-- No two entries of a list clash (R81). -/
theorem firstClash_none {es : List CoachEntry} (units : (es.map CoachEntry.unit).Nodup)
    (coaches : (es.map CoachEntry.coach).Nodup) : firstClash es = none := by
  rw [firstClash, List.findSome?_eq_none_iff]
  intro j hj
  rw [List.findSome?_eq_none_iff]
  intro i hi
  have below : i < j := List.mem_range.mp hi
  have inside : j < es.length := List.mem_range.mp hj
  have apart {α : Type} {f : CoachEntry → α} (once : (es.map f).Nodup) : f es[i] ≠ f es[j] := by
    have := List.pairwise_iff_getElem.mp once i j (by simpa using below.trans inside) (by simpa using inside) below
    simpa using this
  rw [List.getElem?_eq_getElem inside, List.getElem?_eq_getElem (below.trans inside)]
  simp [CoachEntry.clash, apart units, apart coaches]

/-- Where the portion view may change (R81). -/
theorem State.portionAllowed_of {s : State} (h : s.plan.state = .running → s.portion = s.stagedPortion
    ∨ (s.appr.stage = some .atPlatform ∧ ∀ po, s.stagedPortion = some po → ∃ c ∈ s.appr.current, c ∈ s.plan.calls po)) :
    s.portionAllowed = true := by
  rw [State.portionAllowed]
  by_cases running : s.plan.state = .running
  · rcases h running with same | ⟨here, calls⟩
    · simp [same]
    · have calls_ : (match s.stagedPortion, s.appr.current with
          | none, _ => true
          | some po, some c => decide (s.plan.callAt po c = .call)
          | some _, none => false) = true := by
        cases staged : s.stagedPortion with
        | none => rfl
        | some po =>
          obtain ⟨c, current, mem⟩ := calls po staged
          rw [Option.mem_def.mp current]
          exact decide_eq_true (Plan.mem_calls.mp mem)
      rw [here]
      simpa using .inr calls_
  · simp [running]

/-- Settles O33: the staged entries become active, the seats follow the portion, the notices the route. -/
theorem applyFormation : Obligations.ApplyFormation := by
  intro s two staged units coaches b own may takes
  let u := s.enter .operations 0x32 b
  let e : TrainEnd := if two then .two else .one
  have read : u8 b 0 = if two then 2 else 1 := by cases two <;> rfl
  have form : b.length = 1 ∧ (u8 b 0 = 1 ∨ u8 b 0 = 2) := by
    rw [read]
    cases two
    · exact ⟨rfl, .inl rfl⟩
    · exact ⟨rfl, .inr rfl⟩
  have end_ : TrainEnd.ofCode (u8 b 0) = e := by
    rw [read]
    cases two <;> rfl
  have some_ : ¬ u.form.staged.isEmpty = true := fun none => staged (List.isEmpty_iff.mp none)
  have clash : firstClash u.form.staged = none := firstClash_none units coaches
  have moving : ¬ (u.plan.state = .running ∧ ¬ u.appr.standstill = true) := fun h => h.2 (may h.1).1
  have allowed : u.portionAllowed = true := State.portionAllowed_of fun running => (may running).2
  have block : applyFormationBlock b u = done (u.applyFormation e) (u.applyFormation e).applyReply := by
    rw [applyFormationBlock, if_neg (not_not_intro form), if_neg some_, clash]
    dsimp only
    rw [if_neg moving, if_neg (not_not_intro allowed), end_]
  have served := serve_reply (always := id) takes.1 takes.2 block
  obtain ⟨frame, broken, formation, effect, same, marked, off, on, turned, maps, flushed, detached, level, banners⟩ :=
    u.applyFormation_spec e
  have active : (u.applyFormation e).form = s.form.apply e := (congrArg State.form frame :)
  have events {x : Event} (mem : x ∈ (u.applyFormation e).link.operations.events) :
      x ∈ ((u.applyFormation e).answer .operations 0x32 .done (u.applyFormation e).applyReply).link.operations.events :=
    (State.answer_events _ .operations .operations 0x32 .done _).symm ▸ mem
  have content {x : Event} (mem : x ∈ (u.applyFormation e).link.content.events) :
      x ∈ ((u.applyFormation e).answer .operations 0x32 .done (u.applyFormation e).applyReply).link.content.events :=
    (State.answer_events _ .operations .content 0x32 .done _).symm ▸ mem
  refine ⟨_, congrArg Host.Outcome.next served, ?_, broken, events formation, ?_, same, fun moved => ?_, off,
    fun po moved portion => ?_, turned, maps, effect.unmarked, fun po portion => ?_, fun none_ => ?_,
    fun differs => events (level differs), banners, effect.raises.answered.mono (by simp), ?_⟩
  · refine active.trans ?_
    cases two <;> rfl
  · refine Eq.trans effect.raises.answers (congrArg (fun f : Formation => (s.replied .operations 0x32 b .done
      (flag (u.applyFormation e).attached ++ be 1 (u.applyFormation e).position
        ++ orFF ((u.applyFormation e).portion.map Portion.code) ++ be 1 (u.applyFormation e).facing.code
        ++ be 1 (u.applyFormation e).coachNumber ++ be 1 f.active.length)).link.quiet) active)
  · obtain ⟨⟨-, ⟨marks, unreported, raised⟩, all⟩, stale, reformed⟩ := marked moved
    exact ⟨all, ⟨marks, unreported, fun fresh => content (raised fresh)⟩, stale, reformed⟩
  · obtain ⟨table, more, less⟩ := on po moved portion
    exact ⟨table, fun h => ⟨events (more h).1, content (more h).2⟩, fun h => (less h).answered.mono (by simp)⟩
  · obtain ⟨seq, dropped⟩ := flushed po portion
    refine ⟨seq, fun some_ => ?_⟩
    obtain ⟨n, hn, drops, raised⟩ := dropped some_
    exact ⟨n, hn, drops, events raised⟩
  · have left := detached none_
    simp only [Sequencer.without, Bool.not_not] at left
    exact left
  · exact congrArg (fun v : State => { v with form := s.form, link := s.link }) frame

end Sys2Proof.Machine
end

section
/-!
The statement about Set Stage does not hold of every state: a counterexample.
-/
namespace Sys2Proof.Machine

/-- A stop at which portion A calls. -/
def stopAt (line : Nat) (ev : StopEvent) : StopRecord :=
  ⟨100, line, none, none, 0, none, .left, none, .call, .noCall, .noCall, ev, []⟩

/-- A posted notice without a time limit. -/
def postedAs (cls : NoticeClass) (tag : Nat) : Notice := ⟨cls, tag, none, none, [.phrase 7], 1, 6, 1, .unlimited, 0, 0⟩

/-- A journey of three stops at BERTHING of stop 1, a REVERSE stop, with S 401 m beyond it.  An ALARM that is held as a
SHORT_PLATFORM notice of the stop and lasts until AT_PLATFORM is active; slot 2 holds a SHORT_PLATFORM notice, slot 1
an INFORMATION notice, and a SERVICE notice waits. -/
def turning : State :=
  { State.reset with
    plan := ⟨.running, [stopAt 0 .noEvent, stopAt 1000 .reverse, stopAt 230000 .noEvent]⟩
    form := { State.reset.form with active := [⟨0, 13, .a, true⟩] }
    odo := { State.reset.odo with position := 1401, speed := 2023, prevSpeed := 2023 }
    appr := { State.reset.appr with current := some 1, last := some 0, stage := some .berthing }
    seq := ⟨[postedAs .service 1],
      some ⟨.alarm, 2, some .shortPlatform, some 1, [], 1, 8, 1, .stage .atPlatform, 0, 0⟩,
      some (postedAs .information 3),
      some ⟨.journey, 4, some .shortPlatform, some 0, [], 1, 8, 1, .stage .departed, 0, 0⟩, 1⟩ }

/-- The part after that Set Stage. -/
def turningAfter : State :=
  serve .operations 0x24 [4] id (setStageBlock [4]) turning

/-- The state from which the statement describes the departure from stop 1. -/
def turned : State :=
  let arrived : State := { turning with form := turning.formAt 1 .atPlatform }
  { arrived with seq := turning.seqTurned arrived }

/-- The train is on its way to stop 2, and the notices are not those described. -/
theorem setStage_turning :
    turningAfter.odo.position ≤ turned.plan.lineAt 2 + 400
    ∧ (∀ n ∈ turned.seq.all, n.stop ≠ some 1 ∧ n.stop ≠ some 2)
    ∧ turningAfter.seq ≠ turningAfter.seqPosted 2 (turningAfter.stageAfter 2 .cruise) (turned.seqTurned turningAfter) := by
  exact ⟨by decide +kernel, by decide +kernel, by decide +kernel⟩

/-- Refutes O30: at AT_PLATFORM the notices of the stop end before the targets are tested again.  The ALARM ends first,
so the SERVICE notice starts and slot 1 is given up to the notice of slot 2, which the test then drops; in the statement
the test drops the notice of slot 2 first, and the return to slot 1 is made. -/
theorem not_setStageByCommand : ¬ Obligations.SetStageByCommand := by
  intro h
  obtain ⟨-, beyond, -⟩ := h turning 1 .berthing rfl (by decide +kernel) rfl rfl
  obtain ⟨t, result, departed, -⟩ := beyond (by decide) (by decide +kernel) (by decide +kernel)
    ⟨by decide +kernel, by decide +kernel⟩
  obtain ⟨near, others, differs⟩ := setStage_turning
  obtain rfl : turningAfter = t := Host.Outcome.next.inj result
  have next : turned.nextCall 1 = some 2 := by decide +kernel
  have departed : turned.DepartedFrom 1 false _ := departed
  rw [State.DepartedFrom, next] at departed
  obtain ⟨-, -, -, -, -, -, -, -, seq, -⟩ := departed near
  exact differs (seq others)

end Sys2Proof.Machine
end

section
/-!
The stage table read against the stage at which its passes leave C (R61, R64).
-/
namespace Sys2Proof.Machine

theorem State.timeTo_eq (s : State) (c : Nat) : s.timeTo c = s.secondsTo c := rfl

theorem State.etaNow_eq (s : State) : s.etaNow = s.minutesOfC := by
  unfold State.etaNow State.minutesOfC
  cases s.appr.current with
  | none => rfl
  | some c =>
    cases s.appr.stage with
    | none => rfl
    | some st =>
      have below : (¬ st.isBelow = true) ↔ 4 ≤ st.code := by simp [Stage.isBelow]
      dsimp only
      simp only [below]
      rfl

theorem Stage.isBelow_iff {st : Stage} : st.isBelow = true ↔ st.code < 4 := by simp [Stage.isBelow]

/-- The stage at which the passes leave a C that S has not left behind (R64). -/
def State.stageEnd (s : State) (c : Nat) (st : Stage) : Stage := if st = .atPlatform then st else s.stageAfter c st

section Rows
variable {s : State} {c : Nat} {st : Stage} (current : s.appr.current = some c) (stage : s.appr.stage = some st)
include current stage

/-- C more than 400 m behind S below AT_PLATFORM is left, passed without call (R64). -/
theorem State.stageRow_beyond (act : Bool) (below : st.code < 4) (beyond : s.plan.lineAt c + 400 < s.odo.position) :
    s.stageRow act = some (.departed, true) := by
  unfold State.stageRow
  rw [current, stage]
  exact if_pos (Bool.and_eq_true_iff.mpr ⟨Stage.isBelow_iff.mpr below, decide_eq_true beyond⟩)

/-- C at AT_PLATFORM is left when S is more than 400 m beyond it or the departure run is 3 (R64, R66). -/
theorem State.stageRow_leaves (act : Bool) (here : st = .atPlatform)
    (leaves : s.plan.lineAt c + 400 < s.odo.position ∨ s.appr.departureRun = 3) :
    s.stageRow act = some (.departed, false) := by
  subst here
  unfold State.stageRow
  rw [current, stage]
  have goes : (decide (s.plan.lineAt c + 400 < s.odo.position) || decide (s.appr.departureRun = 3)) = true := by
    simpa using leaves
  simp only [goes]
  simp [Stage.isBelow, Stage.code]

theorem State.stageRow_stays (act : Bool) (here : st = .atPlatform)
    (near : s.odo.position ≤ s.plan.lineAt c + 400) (run : s.appr.departureRun ≠ 3) : s.stageRow act = none := by
  subst here
  have beyond : ¬ s.plan.lineAt c + 400 < s.odo.position := by omega
  unfold State.stageRow
  rw [current, stage]
  simp [Stage.isBelow, Stage.code, beyond, run]

end Rows

/-! ### The rows below AT_PLATFORM, where S has not left C behind -/

section Near
variable (s : State) (c : Nat)

def State.announcesAt : Bool :=
  decide (s.odo.mode ≠ .hold)
    && (decide (s.secondsTo c ≤ s.appr.annTime) || decide (s.plan.lineAt c - s.odo.position ≤ s.appr.annDist))

def State.approachesAt : Bool :=
  decide (s.odo.mode ≠ .hold) && decide (s.secondsTo c ≤ s.appr.appTime)
    && decide (s.plan.lineAt c - s.odo.position ≤ 3000)

def State.berthsAt : Bool :=
  decide (s.odo.mode ≠ .hold) && decide (s.plan.lineAt c - s.odo.position ≤ 600) && decide (s.odo.speed ≤ 4166)

def State.arrivesAt : Bool := s.appr.standstill && decide (s.plan.lineAt c - s.odo.position ≤ 150)

/-- The stage that the table gives next, without door activation (R64). -/
def State.nextStage : Stage → Option Stage
  | .cruise =>
    if s.announcesAt c then some .announce
    else if s.approachesAt c then some .approach
    else if s.berthsAt c then some .berthing else none
  | .announce =>
    if s.approachesAt c then some .approach else if s.berthsAt c then some .berthing else none
  | .approach => if s.berthsAt c then some .berthing else none
  | .berthing => if s.arrivesAt c then some .atPlatform else none
  | _ => none

theorem State.stageAfter_eq (st : Stage) : s.stageAfter c st
    = if st = .berthing ∨ s.berthsAt c = true then (if s.arrivesAt c = true then .atPlatform else .berthing)
      else if st = .approach ∨ s.approachesAt c = true then .approach
      else if st = .announce ∨ s.announcesAt c = true then .announce else .cruise := by
  have arrives : s.arrivesAt c = true ↔ s.appr.standstill = true ∧ s.plan.lineAt c - s.odo.position ≤ 150 := by
    simp [State.arrivesAt]
  simp only [arrives]
  rfl

variable {s c} {st : Stage}

/-- The row that applies (R64). -/
theorem State.stageRow_near (current : s.appr.current = some c) (stage : s.appr.stage = some st)
    (near : s.odo.position ≤ s.plan.lineAt c + 400) (below : st.code < 4) :
    s.stageRow false = (s.nextStage c st).map fun st2 => (st2, false) := by
  have beyond : decide (s.plan.lineAt c + 400 < s.odo.position) = false := decide_eq_false (by omega)
  have distance : s.distance c = s.plan.lineAt c - s.odo.position := rfl
  unfold State.stageRow
  rw [current, stage]
  dsimp only
  rw [beyond, distance, State.timeTo_eq]
  cases st <;>
    simp only [reduceCtorEq, decide_true, decide_false, Bool.true_and, Bool.or_false, Bool.false_or,
      Bool.and_false, Bool.false_and, Bool.or_true, if_false, Bool.false_eq_true, Bool.or_self]
  case cruise =>
    show _ = Option.map _ (if s.announcesAt c = true then _ else _)
    unfold State.announcesAt State.approachesAt State.berthsAt
    split_ifs <;> rfl
  case announce =>
    show _ = Option.map _ (if s.approachesAt c = true then _ else _)
    unfold State.approachesAt State.berthsAt
    split_ifs <;> rfl
  case approach =>
    show _ = Option.map _ (if s.berthsAt c = true then _ else _)
    unfold State.berthsAt
    split_ifs <;> rfl
  case berthing =>
    show _ = Option.map _ (if s.arrivesAt c = true then _ else _)
    unfold State.arrivesAt
    split_ifs <;> rfl
  all_goals simp [Stage.code] at below

/-- With door activation C comes to AT_PLATFORM, from APPROACH by way of BERTHING where that row applies (R64). -/
theorem State.stageRow_door (current : s.appr.current = some c) (stage : s.appr.stage = some st)
    (near : s.odo.position ≤ s.plan.lineAt c + 400)
    (opens : st = .approach ∨ st = .berthing ∨ ((st = .cruise ∨ st = .announce) ∧ s.odo.mode = .hold)) :
    s.stageRow true = some (.atPlatform, false) ∨ (st = .approach ∧ s.stageRow true = some (.berthing, false)) := by
  have beyond : decide (s.plan.lineAt c + 400 < s.odo.position) = false := decide_eq_false (by omega)
  unfold State.stageRow
  rw [current, stage]
  dsimp only
  rw [beyond]
  rcases opens with rfl | rfl | ⟨rfl | rfl, hold⟩
  · simp only [reduceCtorEq, decide_true, decide_false, Bool.and_false, Bool.false_and, Bool.false_or, Bool.true_and,
      Bool.or_true, Bool.false_eq_true, if_false, if_true, Bool.true_or, true_and]
    split_ifs
    · exact .inr rfl
    · exact .inl rfl
  · exact .inl rfl
  · simp [hold, Stage.isBelow]
  · simp [hold, Stage.isBelow]

/-- A row leads on to where the table leaves C; where none applies C is there. -/
theorem State.stageEnd_next (below : st.code < 4) : match s.nextStage c st with
    | none => s.stageEnd c st = st
    | some st2 => st.code < st2.code ∧ st2.code ≤ 4 ∧ s.stageEnd c st2 = s.stageEnd c st := by
  cases st with
  | cruise =>
    by_cases announces : s.announcesAt c = true <;> by_cases approaches : s.approachesAt c = true
      <;> by_cases berths : s.berthsAt c = true
      <;> simp [State.nextStage, State.stageEnd, State.stageAfter_eq, announces, approaches, berths, Stage.code]
  | announce =>
    by_cases approaches : s.approachesAt c = true <;> by_cases berths : s.berthsAt c = true
      <;> simp [State.nextStage, State.stageEnd, State.stageAfter_eq, approaches, berths, Stage.code]
  | approach =>
    by_cases berths : s.berthsAt c = true
      <;> simp [State.nextStage, State.stageEnd, State.stageAfter_eq, berths, Stage.code]
  | berthing =>
    by_cases arrives : s.arrivesAt c = true
      <;> simp [State.nextStage, State.stageEnd, State.stageAfter_eq, arrives, Stage.code]
  | atPlatform => simp [Stage.code] at below
  | departed => simp [Stage.code] at below

end Near
end Sys2Proof.Machine
end

section
/-!
Which notices are held after others have come to their end, after a re-test and after an arrival (R150 to R160): each
held notice carries the stop and the validity of one held before, or of the one that arrived.
-/
namespace Sys2Proof.Machine

/-- A notice that stands for another: for the same stop and as long. -/
def Notice.Like (n m : Notice) : Prop := n.stop = m.stop ∧ n.validity = m.validity

section Held
variable {q : Sequencer} {n m : Notice}

theorem Notice.Like.refl (n : Notice) : n.Like n := ⟨rfl, rfl⟩

theorem Notice.Like.trans {l : Notice} (h : n.Like m) (k : m.Like l) : n.Like l :=
  ⟨h.1.trans k.1, h.2.trans k.2⟩

/-- The notices that wait in the slots and in the queue. -/
def Sequencer.waiting (q : Sequencer) : List Notice := q.slot1.toList ++ q.slot2.toList ++ q.queue

theorem Sequencer.mem_all_iff : n ∈ q.all ↔ q.active = some n ∨ n ∈ q.waiting := by
  simp [Sequencer.all, Sequencer.waiting, Option.mem_toList]

theorem Sequencer.mem_waiting_iff : n ∈ q.waiting ↔ q.slot1 = some n ∨ q.slot2 = some n ∨ n ∈ q.queue := by
  simp [Sequencer.waiting, Option.mem_toList]

/-- After a return every notice held waited before (R160). -/
theorem Sequencer.returned_like (hn : n ∈ q.returned.all) : ∃ m ∈ q.waiting, n.Like m := by
  obtain ⟨queue, active, slot1, slot2, left⟩ := q
  simp only [Sequencer.mem_all_iff, Sequencer.mem_waiting_iff] at hn ⊢
  cases slot1 with
  | some p =>
    rcases hn with h | h | h | h
    · exact ⟨p, .inl rfl, Option.some.inj h ▸ Notice.Like.refl p⟩
    · nomatch h
    · exact ⟨n, .inr (.inl h), .refl n⟩
    · exact ⟨n, .inr (.inr h), .refl n⟩
  | none =>
    cases queue with
    | nil =>
      rcases hn with h | h | h | h
      · nomatch h
      · nomatch h
      · exact ⟨n, .inr (.inl h), .refl n⟩
      · nomatch h
    | cons h0 rest =>
      rcases hn with h | h | h | h
      · exact ⟨h0, .inr (.inr List.mem_cons_self), Option.some.inj h ▸ ⟨rfl, rfl⟩⟩
      · nomatch h
      · exact ⟨n, .inr (.inl h), .refl n⟩
      · exact ⟨n, .inr (.inr (List.mem_cons_of_mem _ h)), .refl n⟩

theorem Sequencer.returnedFromAlarm_like (hn : n ∈ q.returnedFromAlarm.all) : ∃ m ∈ q.waiting, n.Like m := by
  obtain ⟨queue, active, slot1, slot2, left⟩ := q
  cases slot2 with
  | none => exact Sequencer.returned_like hn
  | some p =>
    have resumed {queue2 : List Notice} (hn : n ∈ Sequencer.all ⟨queue2, some p, slot1, none, 1000 * p.dwell⟩)
        (sub : ∀ x ∈ queue2, x ∈ queue) : ∃ m ∈ Sequencer.waiting ⟨queue, active, slot1, some p, left⟩, n.Like m := by
      simp only [Sequencer.mem_all_iff, Sequencer.mem_waiting_iff] at hn ⊢
      rcases hn with h | h | h | h
      · exact ⟨p, .inr (.inl rfl), Option.some.inj h ▸ Notice.Like.refl p⟩
      · exact ⟨n, .inl h, .refl n⟩
      · nomatch h
      · exact ⟨n, .inr (.inr (sub n h)), .refl n⟩
    cases queue with
    | nil => exact resumed hn fun _ h => h
    | cons h0 rest =>
      unfold Sequencer.returnedFromAlarm at hn
      dsimp only at hn
      split at hn
      · simp only [Sequencer.mem_all_iff, Sequencer.mem_waiting_iff, Sequencer.started] at hn ⊢
        rcases hn with h | h | h | h
        · exact ⟨h0, .inr (.inr List.mem_cons_self), Option.some.inj h ▸ ⟨rfl, rfl⟩⟩
        · exact ⟨p, .inr (.inl rfl), Option.some.inj h ▸ Notice.Like.refl p⟩
        · nomatch h
        · exact ⟨n, .inr (.inr (List.mem_cons_of_mem _ h)), .refl n⟩
      · exact resumed hn fun _ h => h

theorem Sequencer.without_waiting {ends : Notice → Bool} (hn : n ∈ (q.without ends).waiting) :
    n ∈ q.waiting ∧ ends n = false := by
  simp only [Sequencer.mem_waiting_iff, Sequencer.without, Option.filter_eq_some_iff, List.mem_filter,
    Bool.not_eq_true'] at hn ⊢
  rcases hn with ⟨h, e⟩ | ⟨h, e⟩ | ⟨h, e⟩
  · exact ⟨.inl h, e⟩
  · exact ⟨.inr (.inl h), e⟩
  · exact ⟨.inr (.inr h), e⟩

/-- Every notice still held has not come to its end (R150, R162). -/
theorem State.endNotices_like {ends : Notice → Bool} {s : State} (hn : n ∈ (s.endNotices ends).seq.all) :
    ∃ m ∈ s.seq.all, ends m = false ∧ n.Like m := by
  rw [State.endNotices_seq] at hn
  have waits (hn : ∃ m ∈ (s.seq.without ends).waiting, n.Like m) : ∃ m ∈ s.seq.all, ends m = false ∧ n.Like m := by
    obtain ⟨m, hm, like⟩ := hn
    obtain ⟨mem, stays⟩ := Sequencer.without_waiting hm
    exact ⟨m, Sequencer.mem_all_iff.mpr (.inr mem), stays, like⟩
  have kept (stays : ∀ a, s.seq.active = some a → ends a = false) (hn : n ∈ (s.seq.without ends).all) :
      ∃ m ∈ s.seq.all, ends m = false ∧ n.Like m := by
    rcases Sequencer.mem_all_iff.mp hn with h | h
    · exact ⟨n, Sequencer.mem_all_iff.mpr (.inl h), stays n h, .refl n⟩
    · exact waits ⟨n, h, .refl n⟩
  cases active : s.seq.active with
  | none =>
    rw [active] at hn
    exact kept (fun a h => nomatch active.symm.trans h) hn
  | some a =>
    rw [active] at hn
    dsimp only at hn
    split at hn
    · split at hn
      · exact waits (Sequencer.returnedFromAlarm_like hn)
      · exact waits (Sequencer.returned_like hn)
    next stays => exact kept (fun b h => by
      obtain rfl := Option.some.inj (active.symm.trans h)
      exact Bool.eq_false_iff.mpr stays) hn

theorem State.targeted_like {t : State} (h : t.targeted m = some n) : n.Like m := by
  unfold State.targeted at h
  split at h
  · obtain ⟨k, -, rfl⟩ := Option.map_eq_some_iff.mp h
    exact ⟨rfl, rfl⟩
  · exact Option.some.inj h ▸ Notice.Like.refl m

/-- A re-test keeps the stop and the validity of every notice it leaves (R151). -/
theorem State.retested_like {t : State} (hn : n ∈ (t.retested q).all) : ∃ m ∈ q.all, n.Like m := by
  let kept : Sequencer := { q with
    queue := q.queue.filterMap t.targeted
    slot1 := q.slot1.bind t.targeted
    slot2 := q.slot2.bind t.targeted }
  have waits {x : Notice} (hx : x ∈ kept.waiting) : ∃ m ∈ q.all, x.Like m := by
    simp only [Sequencer.mem_waiting_iff, kept, Option.bind_eq_some_iff, List.mem_filterMap] at hx
    rcases hx with ⟨m, hm, aim⟩ | ⟨m, hm, aim⟩ | ⟨m, hm, aim⟩
    · exact ⟨m, Sequencer.mem_all_iff.mpr (.inr (Sequencer.mem_waiting_iff.mpr (.inl hm))), State.targeted_like aim⟩
    · exact ⟨m, Sequencer.mem_all_iff.mpr (.inr (Sequencer.mem_waiting_iff.mpr (.inr (.inl hm)))), State.targeted_like aim⟩
    · exact ⟨m, Sequencer.mem_all_iff.mpr (.inr (Sequencer.mem_waiting_iff.mpr (.inr (.inr hm)))), State.targeted_like aim⟩
  have back (h : ∃ m ∈ kept.waiting, n.Like m) : ∃ m ∈ q.all, n.Like m := by
    obtain ⟨x, hx, like⟩ := h
    obtain ⟨m, hm, like2⟩ := waits hx
    exact ⟨m, hm, like.trans like2⟩
  unfold State.retested at hn
  dsimp only at hn
  cases active : q.active with
  | none =>
    rw [active] at hn
    rcases Sequencer.mem_all_iff.mp hn with h | h
    · exact nomatch (h : (none : Option Notice) = some n)
    · exact back ⟨n, h, .refl n⟩
  | some a =>
    rw [active] at hn
    cases aimed : t.targeted a with
    | none =>
      rw [Option.bind_some, aimed] at hn
      dsimp only at hn
      split at hn
      · exact back (Sequencer.returnedFromAlarm_like hn)
      · exact back (Sequencer.returned_like hn)
    | some a2 =>
      rw [Option.bind_some, aimed] at hn
      rcases Sequencer.mem_all_iff.mp hn with h | h
      · obtain rfl := Option.some.inj (h : some a2 = some n)
        exact ⟨a, Sequencer.mem_all_iff.mpr (.inl active), State.targeted_like aimed⟩
      · exact back ⟨n, h, .refl n⟩

/-- An arrival adds the one that arrives (R152, R153, R156). -/
theorem Sequencer.arrive_like {p : Notice} (hn : n ∈ (q.arrive p).all) : n.Like p ∨ ∃ m ∈ q.all, n.Like m := by
  have joined {l : List Notice} (sub : ∀ x ∈ l, x ∈ q.queue) (hn : n ∈ Sequencer.all { q with
      queue := l.takeWhile (fun m => decide (m.cls ≠ .information))
        ++ p :: l.dropWhile fun m => decide (m.cls ≠ .information) }) : n.Like p ∨ ∃ m ∈ q.all, n.Like m := by
    rcases Sequencer.mem_all_iff.mp hn with h | h
    · exact .inr ⟨n, Sequencer.mem_all_iff.mpr (.inl h), .refl n⟩
    · rcases Sequencer.mem_waiting_iff.mp h with h | h | h
      · exact .inr ⟨n, Sequencer.mem_all_iff.mpr (.inr (Sequencer.mem_waiting_iff.mpr (.inl h))), .refl n⟩
      · exact .inr ⟨n, Sequencer.mem_all_iff.mpr (.inr (Sequencer.mem_waiting_iff.mpr (.inr (.inl h)))), .refl n⟩
      · have queued (hx : n ∈ l) : n.Like p ∨ ∃ m ∈ q.all, n.Like m :=
          .inr ⟨n, Sequencer.mem_all_iff.mpr (.inr (Sequencer.mem_waiting_iff.mpr (.inr (.inr (sub n hx))))), .refl n⟩
        rcases List.mem_append.mp h with h | h
        · exact queued ((List.takeWhile_sublist _).subset h)
        · rcases List.mem_cons.mp h with rfl | h
          · exact .inl (.refl n)
          · exact queued ((List.dropWhile_sublist _).subset h)
  unfold Sequencer.arrive at hn
  dsimp only at hn
  split at hn
  · rcases Sequencer.mem_all_iff.mp hn with h | h
    · exact .inl (Option.some.inj h ▸ ⟨rfl, rfl⟩)
    · exact .inr ⟨n, Sequencer.mem_all_iff.mpr (.inr h), .refl n⟩
  · split at hn
    · exact joined (fun _ h => h) hn
    · split at hn
      · exact joined (fun x h => List.mem_of_mem_erase h) hn
      · exact .inr ⟨n, hn, .refl n⟩

end Held
end Sys2Proof.Machine
end

section
/-!
What one row of the stage table does: C reaches a stage, or departs (R67, R68, R78, R86, R112, R150).
-/
namespace Sys2Proof.Machine

/-- The notices that do not end stay as they are, all of them. -/
theorem State.endNotices_none {s : State} {ends : Notice → Bool} (none_ : ∀ n ∈ s.seq.all, ends n = false) :
    (s.endNotices ends).seq = s.seq := by
  rw [State.endNotices_seq, Sequencer.without_none none_]
  cases active : s.seq.active with
  | none => rfl
  | some n =>
    dsimp only
    rw [if_neg]
    rw [none_ n (Sequencer.mem_all_iff.mpr (.inl active))]
    exact Bool.false_ne_true

theorem Notice.endsAt_of_stop {n : Notice} {c : Nat} {st : Stage} (other : n.stop ≠ some c) : n.endsAt c st = false := by
  rw [Notice.endsAt, decide_eq_false other, Bool.false_and]

/-- A notice of the stop that a stage does not end awaits a later one (R150). -/
theorem Notice.later_of_endsAt {n m : Notice} {c : Nat} {st : Stage} (like : n.Like m) (stays : m.endsAt c st = false)
    (stop : n.stop = some c) : match n.validity with
      | .stage v => st.code < v.code
      | _ => True := by
  obtain ⟨stop_, validity⟩ := like
  rw [stop_] at stop
  rw [validity]
  rw [Notice.endsAt, decide_eq_true stop, Bool.true_and] at stays
  cases v : m.validity with
  | stage w =>
    rw [v] at stays
    simpa using stays
  | _ => trivial

/-- The FORMATION entry of an automatic reversal (R86). -/
def State.reversalEvent (s : State) : Event := .formation true s.attached s.position s.portion s.facing

theorem State.reversalEvent_congr {s t : State} (active : t.form.active = s.form.active)
    (lead : t.form.lead = s.form.lead) (unit : t.unitId = s.unitId) : t.reversalEvent = s.reversalEvent := by
  have only (u : State) : u.reversalEvent = State.reversalEvent { s with
      form := { s.form with active := u.form.active, lead := u.form.lead }, unitId := u.unitId } := rfl
  rw [only t, active, lead, unit]

/-- The re-test goes by the stops, the formation and C (R80, R151). -/
theorem State.retested_congr {s t : State} (stops : t.plan.stops = s.plan.stops) (form : t.form = s.form)
    (current : t.appr.current = s.appr.current) (unit : t.unitId = s.unitId) : t.retested = s.retested := by
  have only : t.retested = State.retested { s with
      plan := { s.plan with stops := t.plan.stops }, form := t.form
      appr := { s.appr with current := t.appr.current }, unitId := t.unitId } := rfl
  rw [only, stops, form, current, unit]

/-! ### C reaches a stage (R67, R68) -/

/-- What AT_PLATFORM of a stop does to formation and notices (R78, R86, R151). -/
theorem State.arriveFormation_facts (c : Nat) (s : State) :
    let t := s.arriveFormation c
    { t with form := s.form, seq := s.seq, link := s.link, line := s.line } = s
    ∧ t.form = s.formAt c .atPlatform ∧ s.Effect [0x05, 0x07] t
    ∧ (t.form.lead ≠ s.form.lead → t.StaleAt (fun _ => true) ∧ t.reversalEvent ∈ t.link.operations.events)
    ∧ t.seq = (if t.form.lead = s.form.lead then s.seq else t.retested s.seq)
    ∧ (t.form.lead = s.form.lead → t.link = s.link) := by
  intro t
  have plain (none_ : (s.plan.stops[c]?).map StopRecord.event ≠ some .reverse)
      (same : t = { s with form := { s.form with arrival := some s.form.lead } }) :
      { t with form := s.form, seq := s.seq, link := s.link, line := s.line } = s
      ∧ t.form = s.formAt c .atPlatform ∧ s.Effect [0x05, 0x07] t
      ∧ (t.form.lead ≠ s.form.lead → t.StaleAt (fun _ => true) ∧ t.reversalEvent ∈ t.link.operations.events)
      ∧ t.seq = (if t.form.lead = s.form.lead then s.seq else t.retested s.seq)
      ∧ (t.form.lead = s.form.lead → t.link = s.link) := by
    rw [same, State.formAt, if_pos rfl, if_neg none_]
    exact ⟨rfl, rfl, .of_same rfl rfl, fun h => absurd rfl h, (if_pos rfl).symm, fun _ => rfl⟩
  have t_eq : t = (match s.plan.stops[c]? with
      | some r => if r.event = .reverse then ({ s with form := { s.form with arrival := some s.form.lead } }).autoReverse
        else { s with form := { s.form with arrival := some s.form.lead } }
      | none => { s with form := { s.form with arrival := some s.form.lead } }) := rfl
  cases stop : s.plan.stops[c]? with
  | none =>
    rw [stop] at t_eq
    exact plain (by rw [stop]; nofun) t_eq
  | some r =>
    rw [stop] at t_eq
    dsimp only at t_eq
    by_cases reverse : r.event = .reverse
    · rw [if_pos reverse] at t_eq
      let v : State := { s with form := { s.form with arrival := some s.form.lead, lead := s.form.lead.flip } }
      let w := v.staleAll.raiseFormation true
      have t_eq : t = w.retestShort := t_eq
      obtain ⟨step, -⟩ := w.retestShort_notice
      have frame : { t with seq := w.seq, link := w.link, line := w.line } = w := t_eq ▸ step.frame
      have effect : w.Effect [0x07] t := t_eq ▸ step.effect
      have form : t.form = v.form := (congrArg State.form frame :)
      have flips : ¬ v.form.lead = s.form.lead := by
        show ¬ s.form.lead.flip = s.form.lead
        cases s.form.lead <;> nofun
      have first : s.Effect [0x05] w := (State.Effect.of_same (s := s) (t := v) rfl rfl).trans
        ((State.effect_staleWhere _ _).trans (State.effect_raise rfl _))
      refine ⟨?_, ?_, (first.mono (by simp)).trans (effect.mono (by simp)), fun _ => ⟨?_, ?_⟩, ?_,
        fun same => absurd (form ▸ same) flips⟩
      · exact (congrArg (fun u : State => { u with form := s.form, seq := s.seq, link := s.link, line := s.line })
          frame :)
      · have event : Option.map StopRecord.event (some r) = some .reverse := congrArg some reverse
        rw [form, State.formAt, if_pos rfl, stop, if_pos event]
      · exact effect.stale _ ((State.staleAt_staleWhere v _).of_line rfl)
      · have event : t.reversalEvent = w.reversalEvent := State.reversalEvent_congr
          (congrArg Formation.active form) (congrArg Formation.lead form) (congrArg State.unitId frame :)
        rw [event]
        exact effect.raises.operations rfl (State.raise_mem_operations _ _ rfl)
      · have same : t.retested = w.retested := (congrArg State.retested frame :)
        rw [form, if_neg flips, same, t_eq]
        exact w.retestShort_seq
    · rw [if_neg reverse] at t_eq
      exact plain (by rw [stop]; exact fun h => reverse (Option.some.inj h)) t_eq

/-- What C's reaching a stage below DEPARTED leaves, u being the state after it (R67, R68, R150). -/
structure State.Reaches (s : State) (c : Nat) (st : Stage) (u : State) : Prop where
  frame : { u with appr := s.appr, form := s.form, seq := s.seq, link := s.link, line := s.line, plan := s.plan } = s
  appr : u.appr = { s.appr with
    stage := some st, departureRun := if st = .atPlatform then 0 else s.appr.departureRun }
  form : u.form = s.formAt c st
  plan : u.plan = { s.plan with
    state := if st = .atPlatform ∧ s.coachCalls.getLast? = some c then .ended else s.plan.state }
  effect : s.Effect [0x01, 0x05, 0x07] u
  event : .stage c st false ∈ u.link.operations.events
  steady : u.form.lead = s.form.lead → s.Raises [0x01, 0x07] u
  reversed : u.form.lead ≠ s.form.lead → u.StaleAt (fun _ => true) ∧ u.reversalEvent ∈ u.link.operations.events
  seq : (∀ n ∈ s.seq.all, n.stop ≠ some c) → u.seq = s.seqTurned u
  later : ∀ n ∈ u.seq.all, n.stop = some c → match n.validity with
    | .stage v => st.code < v.code
    | _ => True
  held : ∀ n ∈ u.seq.all, ∃ m ∈ s.seq.all, n.Like m

/-- The stage noted, its notices ended (R67, R150). -/
def State.noteStage (c : Nat) (st : Stage) (s : State) : State :=
  ({ s with appr := { s.appr with stage := some st } }.raise (.stage c st false)).endNotices (Notice.endsAt c st)

/-- The formation and the plan at the stage (R29, R67, R78). -/
def State.takeStage (c : Nat) (st : Stage) (final : Bool) (s : State) : State :=
  if st = .atPlatform then
    let s1 := { s with appr := { s.appr with departureRun := 0 } }.arriveFormation c
    if final then { s1 with plan := { s1.plan with state := .ended } } else s1
  else s

theorem State.reachStage_eq (c : Nat) (st : Stage) (s : State) : s.reachStage c st
    = ((s.noteStage c st).takeStage c st (decide (s.coachCalls.getLast? = some c))).staleDoorMaps := by
  unfold State.reachStage State.takeStage
  simp only [decide_eq_true_eq]
  rfl

theorem State.takeStage_reaches (c : Nat) (st : Stage) (s : State) :
    s.Reaches c st ((s.noteStage c st).takeStage c st (decide (s.coachCalls.getLast? = some c))) := by
  let s0 := { s with appr := { s.appr with stage := some st } }.raise (.stage c st false)
  let s1 := s.noteStage c st
  have step : s0.NoticeStep s1 := State.endNotices_notice _ s0
  have frame : { s1 with seq := s.seq, link := s.link, line := s.line }
      = { s with appr := { s.appr with stage := some st } } :=
    (congrArg (fun u : State => { u with seq := s.seq, link := s.link }) step.frame :)
  have effect : s.Effect [0x01, 0x07] s1 :=
    (State.Effect.of_same (s := s) (t := { s with appr := { s.appr with stage := some st } }) rfl rfl).trans
      ((State.effect_raise rfl _).trans (step.effect.mono (by simp)))
  have event : .stage c st false ∈ s1.link.operations.events :=
    step.raises.operations rfl (State.raise_mem_operations _ _ rfl)
  have quiet (others : ∀ n ∈ s.seq.all, n.stop ≠ some c) : s1.seq = s.seq :=
    State.endNotices_none (s := s0) fun n hn => Notice.endsAt_of_stop (others n hn)
  have stays {n : Notice} (hn : n ∈ s1.seq.all) : ∃ m ∈ s.seq.all, m.endsAt c st = false ∧ n.Like m :=
    State.endNotices_like (s := s0) hn
  have appr : s1.appr = { s.appr with stage := some st } := (congrArg State.appr frame :)
  have form : s1.form = s.form := (congrArg State.form frame :)
  have plan : s1.plan = s.plan := (congrArg State.plan frame :)
  by_cases here : st = .atPlatform
  · subst here
    let v : State := { s1 with appr := { s1.appr with departureRun := 0 } }
    let w := v.arriveFormation c
    obtain ⟨frameW, formW, effectW, reversedW, seqW, steadyW⟩ := v.arriveFormation_facts c
    have planW : w.plan = s.plan := (congrArg State.plan frameW :).trans plan
    have u_eq : s1.takeStage c .atPlatform (decide (s.coachCalls.getLast? = some c)) = { w with plan := { s.plan with
        state := if Stage.atPlatform = .atPlatform ∧ s.coachCalls.getLast? = some c then .ended else s.plan.state } } := by
      refine (if_pos rfl).trans ?_
      by_cases final : s.coachCalls.getLast? = some c
      · rw [if_pos (decide_eq_true final), if_pos ⟨rfl, final⟩]
        exact congrArg (fun p : Plan => { w with plan := { p with state := .ended } }) planW
      · rw [if_neg (by simpa using final), if_neg fun h => final h.2]
        exact congrArg (fun p : Plan => { w with plan := p }) planW
    show s.Reaches c .atPlatform (s1.takeStage c .atPlatform _)
    rw [u_eq]
    have apprW : w.appr = { s.appr with stage := some .atPlatform, departureRun := 0 } :=
      (congrArg State.appr frameW :).trans (congrArg (fun a : Approach => { a with departureRun := 0 }) appr :)
    have formAt : v.formAt c .atPlatform = s.formAt c .atPlatform := by
      rw [State.formAt, State.formAt, if_pos rfl, if_pos rfl]
      have formV : v.form = s.form := form
      have planV : v.plan = s.plan := plan
      rw [formV, planV]
    have lead : v.form.lead = s.form.lead := congrArg Formation.lead form
    rw [lead] at reversedW seqW steadyW
    have left {n : Notice} (hn : n ∈ w.seq.all) : ∃ m ∈ s.seq.all, m.endsAt c .atPlatform = false ∧ n.Like m := by
      rw [seqW] at hn
      split at hn
      · exact stays hn
      · obtain ⟨l, hl, first⟩ := State.retested_like hn
        obtain ⟨m, hm, ends, like⟩ := stays hl
        exact ⟨m, hm, ends, first.trans like⟩
    refine ⟨?_, apprW, formW.trans formAt, rfl, ?_, ?_, fun same => ?_, fun h => ?_, fun others => ?_, fun n hn stop => ?_,
      fun n hn => ?_⟩
    · exact (congrArg (fun u : State => { u with
        appr := s.appr, form := s.form, seq := s.seq, link := s.link, line := s.line, plan := s.plan }) frameW :).trans
        (congrArg (fun u : State => { u with appr := s.appr, form := s.form, plan := s.plan }) frame :)
    · exact ((effect.mono (by simp)).trans
        ((State.Effect.of_same (s := s1) (t := v) rfl rfl).trans (effectW.mono (by simp)))).trans
        (.of_same rfl rfl)
    · exact effectW.raises.operations rfl event
    · exact effect.raises.trans (.of_link (steadyW same :))
    · obtain ⟨stale, event⟩ := reversedW h
      exact ⟨stale, event⟩
    · have seqV : v.seq = s.seq := quiet others
      rw [seqV] at seqW
      refine seqW.trans (if_congr Iff.rfl rfl (congrFun ?_ s.seq))
      exact State.retested_congr (congrArg Plan.stops planW :) rfl rfl rfl
    · obtain ⟨m, -, ends, like⟩ := left hn
      exact Notice.later_of_endsAt like ends stop
    · obtain ⟨m, hm, -, like⟩ := left hn
      exact ⟨m, hm, like⟩
  · have same : s1.takeStage c st (decide (s.coachCalls.getLast? = some c)) = s1 := if_neg here
    show s.Reaches c st (s1.takeStage c st _)
    rw [same]
    refine ⟨?_, ?_, ?_, ?_, effect.mono (by simp), event, fun _ => effect.raises, fun h => absurd (congrArg Formation.lead form) h, fun others => ?_,
      fun n hn stop => ?_, fun n hn => ?_⟩
    · exact (congrArg (fun u : State => { u with appr := s.appr, form := s.form, plan := s.plan }) frame :)
    · rw [appr, if_neg here]
    · rw [form, State.formAt, if_neg here]
    · rw [plan, if_neg fun h => here h.1]
    · rw [State.seqTurned, if_pos (congrArg Formation.lead form), quiet others]
    · obtain ⟨m, -, ends, like⟩ := stays hn
      exact Notice.later_of_endsAt like ends stop
    · obtain ⟨m, hm, -, like⟩ := stays hn
      exact ⟨m, hm, like⟩

/-- Marking door maps stale after it (R68). -/
theorem State.reachStage_reaches (c : Nat) (st : Stage) (s : State) :
    s.Reaches c st (s.reachStage c st) ∧ (s.reachStage c st).StaleAt fun x => decide (x.kind = .doorMap) := by
  rw [State.reachStage_eq]
  obtain ⟨frame, appr, form, plan, effect, event, steady, reversed, seq, later, held⟩ := State.takeStage_reaches c st s
  refine ⟨⟨frame, appr, form, plan, effect.trans (State.effect_staleWhere _ _), event, fun same =>
    (steady same).trans (.of_link rfl), fun h => ?_, seq, later, held⟩,
    State.staleAt_staleWhere _ _⟩
  obtain ⟨stale, event⟩ := reversed h
  exact ⟨stale.staleWhere _, event⟩

end Sys2Proof.Machine
end

section
/-!
What the departure of C does (R29, R67, R112), and how segment lists given to every seat are handed on (R98, R99).
-/
namespace Sys2Proof.Machine

/-! ### The seats that lose a segment (R99) -/

theorem State.seat?_of_mem {s : State} (once : (s.table.seats.map Seat.number).Nodup) {x : Seat}
    (hx : x ∈ s.table.seats) : s.seat? x.number = some x := by
  cases found : s.seat? x.number with
  | none => exact absurd rfl (of_decide_eq_false (Bool.eq_false_iff.mpr (List.find?_eq_none.mp found x hx)))
  | some y =>
    have hy : y ∈ s.table.seats := List.mem_of_find?_eq_some found
    have number : y.number = x.number := 
      of_decide_eq_true (List.find?_some (p := fun z : Seat => decide (z.number = x.number)) found)
    exact congrArg some (List.inj_on_of_nodup_map once hy hx number)

/-- Where seat numbers are distinct the seats handed on are those whose list differs (R93, R99). -/
theorem State.relisted_eq {s : State} (f : Seat → List Segment) (once : (s.table.seats.map Seat.number).Nodup) :
    State.relisted s (s.relist f)
      = (s.table.seats.filter fun x => decide (f x ≠ x.segments)).map fun x => (x.number, x.bay) := by
  have seats : (s.relist f).table.seats = s.table.seats.map fun x => { x with segments := f x } := rfl
  rw [State.relisted, seats, List.filter_map, List.map_map]
  refine congrArg (List.map fun x : Seat => (x.number, x.bay)) (List.filter_congr fun x hx => ?_)
  have self : s.seat? ({ x with segments := f x } : Seat).number = some x := State.seat?_of_mem once hx
  rw [Function.comp_apply, self]
  simp only [Option.map_some, ne_eq, Option.some.injEq]
  exact decide_eq_decide.mpr (not_congr eq_comm)

/-- Segment lists kept in part, and the seats that lose one handed on (R98, R99). -/
theorem State.keeps_relistAndHand (f : Seat → List Segment) (s : State)
    (fewer : ∀ x ∈ s.table.seats, (f x).length ≤ x.segments.length) : s.Keeps f (s.relistAndHand f) := by
  refine ⟨?_, fun once => ?_⟩
  · rw [State.relistAndHand_table, State.relist_keeping f s fewer]
  · have handed := State.handedOn_relistAndHand f s
    rw [State.relisted_eq f once, List.map_map, List.map_map] at handed
    exact handed

/-- Last displays, seat by seat, are those of before (R111). -/
def State.SameDisplays (s t : State) : Prop :=
  ∀ x ∈ t.table.seats, ∃ z ∈ s.table.seats, z.number = x.number ∧ z.lastDisplay = x.lastDisplay

theorem State.sameDisplays_of_table {s t : State} (table : t.table = s.table) : s.SameDisplays t :=
  fun x hx => ⟨x, table ▸ hx, rfl, rfl⟩

theorem State.SameDisplays.trans {s t u : State} (h : s.SameDisplays t) (k : t.SameDisplays u) : s.SameDisplays u := by
  intro x hx
  obtain ⟨y, hy, number, display⟩ := k x hx
  obtain ⟨z, hz, number2, display2⟩ := h y hy
  exact ⟨z, hz, number2.trans number, display2.trans display⟩

theorem State.sameDisplays_relistAndHand (f : Seat → List Segment) (s : State) :
    s.SameDisplays (s.relistAndHand f) := by
  intro x hx
  rw [State.relistAndHand_table] at hx
  obtain ⟨z, hz, rfl⟩ := List.mem_map.mp hx
  exact ⟨z, hz, rfl, rfl⟩

/-! ### C departs (R67) -/

theorem State.giveC_facts (next : Option Nat) (s : State) :
    let t := s.giveC next
    { t with appr := s.appr, form := s.form, link := s.link, line := s.line } = s
    ∧ t.appr = { s.appr with current := next, stage := next.map fun _ => .cruise, departureRun := 0 }
    ∧ t.form = { s.form with arrival := none }
    ∧ s.Effect [0x01] t ∧ t.StaleAt (fun x => decide (x.kind = .doorMap) || decide (x.kind = .banner))
    ∧ (∀ d, next = some d → .stage d .cruise false ∈ t.link.operations.events)
    ∧ (next = none → t.link = s.link) := by
  let v : State := { s with
    appr := { s.appr with current := next, stage := next.map fun _ => .cruise, departureRun := 0 }
    form := { s.form with arrival := none } }
  have first : s.Effect [0x01] v := .of_same rfl rfl
  cases next with
  | none =>
    exact ⟨rfl, rfl, rfl, first.trans ((State.effect_staleWhere _ v).trans (State.effect_staleWhere _ _)),
      v.staleAt_both, nofun, fun _ => rfl⟩
  | some d =>
    refine ⟨rfl, rfl, rfl, first.trans ((State.effect_raise rfl v).trans ((State.effect_staleWhere _ _).trans
      (State.effect_staleWhere _ _))), State.staleAt_both _, fun e same => ?_, nofun⟩
    obtain rfl := Option.some.inj same
    exact State.raise_mem_operations v _ rfl

/-- The segments that a departure leaves a seat (R112). -/
def State.unexpired (s : State) (c : Nat) (x : Seat) : List Segment :=
  x.segments.filter fun g => g.stranded || match s.eff g.toStop with
    | some e => decide (c < e)
    | none => true

/-- What the departure of C leaves, u being the state after it (R29, R67, R112). -/
structure State.Departs (s : State) (c : Nat) (passed : Bool) (u : State) : Prop where
  frame : { u with
    appr := s.appr, form := s.form, seq := s.seq, link := s.link, line := s.line, table := s.table
    holds := s.holds, plan := s.plan } = s
  appr : u.appr = { s.appr with
    current := s.nextCall c, stage := (s.nextCall c).map fun _ => .cruise, last := some c, passed := passed
    departureRun := 0 }
  form : u.form = { s.form with arrival := none }
  plan : u.plan = { s.plan with state := if s.nextCall c = none then .ended else s.plan.state }
  effect : s.Effect [0x01, 0x07, 0x10] u
  shown : u.StaleAt fun x => decide (x.kind = .doorMap) || decide (x.kind = .banner)
  given : ∀ d, s.nextCall c = some d → .stage d .cruise false ∈ u.link.operations.events
  gone : s.nextCall c = none → .stage c .departed passed ∈ u.link.operations.events
  seq : (∀ n ∈ s.seq.all, n.stop ≠ some c) → u.seq = s.seq
  keeps : s.Keeps (s.unexpired c) u
  handed : ∃ nums bays, s.HandedOn nums bays u
  displays : s.SameDisplays u

/-- What is handed on stays so through events of other kinds. -/
theorem State.HandedOn.raises {s t u : State} {codes nums : List Nat} {bays : List Nat} (h : s.HandedOn nums bays t)
    (holds : u.holds = t.holds) (raises : t.Raises codes u) (other : codes.contains 0x10 = false) :
    s.HandedOn nums bays u := by
  obtain ⟨ports, marks, unreported, raised⟩ := h
  refine ⟨fun p => ?_, fun b hb => ?_, fun b hb => ?_, fun fresh => ?_⟩
  · rw [holds]
    exact ports p
  · rw [holds]
    exact marks b hb
  · rw [holds]
    exact unreported b hb
  · rw [holds]
    exact raises.content other (raised fresh)

theorem State.Keeps.raises {s t u : State} {codes : List Nat} {kept : Seat → List Segment} (h : s.Keeps kept t)
    (table : u.table.undisplayed = t.table.undisplayed) (holds : u.holds = t.holds) (raises : t.Raises codes u)
    (other : codes.contains 0x10 = false) : s.Keeps kept u :=
  ⟨table.trans h.1, fun once => (h.2 once).raises holds raises other⟩

/-- Handing on goes by the holds and the marks of before. -/
theorem State.handedOn_of_holds {s t u : State} {nums bays : List Nat} (same : t.holds = s.holds)
    (h : t.HandedOn nums bays u) : s.HandedOn nums bays u := by
  unfold State.HandedOn State.Marked at h ⊢
  rw [same] at h
  exact h

theorem State.depart_departs (c : Nat) (passed : Bool) (s : State) : s.Departs c passed (s.depart c passed) := by
  let s1 : State := { s with appr := { s.appr with last := some c, passed := passed } }
  let s2 := (s1.raise (.stage c .departed passed)).endNotices (Notice.endsAt c .departed)
  let s3 := s2.expire c
  let s4 := s3.giveC (s3.nextCall c)
  have step : (s1.raise (.stage c .departed passed)).NoticeStep s2 := State.endNotices_notice _ _
  have frame2 : { s2 with seq := s.seq, link := s.link, line := s.line } = s1 :=
    (congrArg (fun u : State => { u with link := s.link }) step.frame :)
  have event2 : .stage c .departed passed ∈ s2.link.operations.events :=
    step.raises.operations rfl (State.raise_mem_operations _ _ rfl)
  have effect2 : s.Effect [0x01, 0x07] s2 := (State.Effect.of_same (s := s) (t := s1) rfl rfl).trans
    ((State.effect_raise rfl _).trans (step.effect.mono (by simp)))
  have kept : s2.unexpired c = s.unexpired c := (congrArg (fun u : State => u.unexpired c) frame2 :)
  have table2 : s2.table = s.table := (congrArg State.table frame2 :)
  have holds2 : s2.holds = s.holds := (congrArg State.holds frame2 :)
  have frame3 : { s3 with table := s2.table, link := s2.link, holds := s2.holds } = s2 := State.relistAndHand_frame _ s2
  have effect3 : s2.Effect [0x10] s3 := State.effect_relistAndHand _ s2
  have next : s3.nextCall c = s.nextCall c := (congrArg (fun u : State => u.nextCall c) frame3 :).trans
    (congrArg (fun u : State => u.nextCall c) frame2 :)
  obtain ⟨frame4, appr4, form4, effect4, shown4, given4, none4⟩ := s3.giveC_facts (s3.nextCall c)
  rw [next] at frame4 appr4 form4 effect4 shown4 given4 none4
  let s5 := s3.giveC (s.nextCall c)
  have plan4 : s5.plan = s.plan := (congrArg State.plan frame4 :).trans
    ((congrArg State.plan frame3 :).trans (congrArg State.plan frame2 :))
  have t_eq : s.depart c passed
      = { s5 with plan := { s.plan with state := if s.nextCall c = none then .ended else s.plan.state } } := by
    have shape : s.depart c passed = (match s3.nextCall c with
        | some _ => s3.giveC (s3.nextCall c)
        | none => { s3.giveC (s3.nextCall c) with
            plan := { (s3.giveC (s3.nextCall c)).plan with state := .ended } }) := rfl
    rw [shape, next]
    change s5.plan = s.plan at plan4
    cases given : s.nextCall c with
    | some d =>
      have same : s3.giveC (some d) = s5 := by rw [← given]
      rw [if_neg (Option.some_ne_none d)]
      exact same.trans (congrArg (fun p : Plan => { s5 with plan := p }) plan4)
    | none =>
      have same : s3.giveC none = s5 := by rw [← given]
      rw [if_pos rfl]
      show ({ s3.giveC none with plan := { (s3.giveC none).plan with state := .ended } } : State) = _
      rw [same]
      exact congrArg (fun p : Plan => { s5 with plan := { p with state := .ended } }) plan4
  have appr3 : s3.appr = s1.appr := (congrArg State.appr frame3 :).trans (congrArg State.appr frame2 :)
  have form3 : s3.form = s.form := (congrArg State.form frame3 :).trans (congrArg State.form frame2 :)
  have table4 : s5.table = s3.table := (congrArg State.table frame4 :)
  have holds4 : s5.holds = s3.holds := (congrArg State.holds frame4 :)
  have keeps3 : s2.Keeps (s2.unexpired c) s3 := State.keeps_relistAndHand _ s2 fun x _ => List.length_filter_le _ _
  have keeps4 : s2.Keeps (s2.unexpired c) s5 :=
    keeps3.raises (congrArg SeatTable.undisplayed table4) holds4 effect4.raises rfl
  have displays : s.SameDisplays s5 := (State.sameDisplays_of_table table2).trans
    ((State.sameDisplays_relistAndHand _ s2).trans (State.sameDisplays_of_table table4))
  let keeps (u : State) : State := { u with
    appr := s.appr, form := s.form, seq := s.seq, link := s.link, line := s.line, table := s.table, holds := s.holds }
  have whole : keeps s5 = s := (congrArg keeps frame4 :).trans
    ((congrArg keeps frame3 :).trans (congrArg keeps frame2 :))
  rw [t_eq]
  refine ⟨?_, ?_, ?_, rfl, ?_, shown4, given4, fun last => ?_, fun others => ?_, ?_, ?_, displays⟩
  · exact (congrArg (fun u : State => { u with plan := s.plan }) whole :)
  · exact appr4.trans (congrArg (fun a : Approach => { a with
      current := s.nextCall c, stage := (s.nextCall c).map fun _ => .cruise, departureRun := 0 }) appr3 :)
  · exact form4.trans (congrArg (fun f : Formation => { f with arrival := none }) form3)
  · exact (effect2.mono (by simp)).trans ((effect3.mono (by simp)).trans ((effect4.mono (by simp)).trans
      (.of_same rfl rfl)))
  · have link : s5.link = s3.link := none4 last
    show _ ∈ s5.link.operations.events
    rw [link]
    exact effect3.raises.operations rfl event2
  · have quiet : s2.seq = s.seq := State.endNotices_none (s := s1.raise (.stage c .departed passed))
      fun n hn => Notice.endsAt_of_stop (others n hn)
    exact (congrArg State.seq frame4 :).trans ((congrArg State.seq frame3 :).trans quiet)
  · refine ⟨keeps4.1.trans (by rw [kept, table2]), fun once => State.handedOn_of_holds holds2 ?_⟩
    have lost := keeps4.2 (by rw [table2]; exact once)
    rw [kept, table2] at lost
    exact lost
  · have handed : s2.HandedOn _ _ s5 :=
      (State.handedOn_relistAndHand _ s2).raises (codes := [0x01]) holds4 effect4.raises rfl
    exact ⟨_, _, State.handedOn_of_holds holds2 handed⟩

end Sys2Proof.Machine
end

section
/-!
The passes over the stage table: what every row keeps, and where they end for a C that S has not left behind (R63,
R64).
-/
namespace Sys2Proof.Machine

/-! ### What every row keeps -/

section Congr
variable {s t : State}

/-- The portion goes by the formation (R76). -/
theorem State.portion_congr (active : t.form.active = s.form.active) (unit : t.unitId = s.unitId) :
    t.portion = s.portion := by
  have only : t.portion = State.portion { s with
      form := { s.form with active := t.form.active }, unitId := t.unitId } := rfl
  rw [only, active, unit]

theorem Plan.calls_congr {p q : Plan} (stops : p.stops = q.stops) (po : Portion) : p.calls po = q.calls po := by
  have only : p.calls po = Plan.calls { q with stops := p.stops } po := rfl
  rw [only, stops]

/-- The calling stops of the coach's route go by the stops and the formation (R22, R76). -/
theorem State.coachCalls_congr (stops : t.plan.stops = s.plan.stops) (active : t.form.active = s.form.active)
    (unit : t.unitId = s.unitId) : t.coachCalls = s.coachCalls := by
  unfold State.coachCalls
  rw [State.portion_congr active unit]
  cases s.portion with
  | none => rfl
  | some po => exact Plan.calls_congr stops po

end Congr

/-- What the rows of an evaluation leave of the state b in which it began: stops, thresholds and all but the parts that
stages and departures touch; panels and events show what changed (R67, R68, R86). -/
structure State.Progress (b u : State) : Prop where
  frame : { u with
    appr := b.appr, form := b.form, seq := b.seq, link := b.link, line := b.line, table := b.table
    holds := b.holds, plan := b.plan } = b
  stops : u.plan.stops = b.plan.stops
  appr : { u.appr with
    current := b.appr.current, last := b.appr.last, stage := b.appr.stage, passed := b.appr.passed
    departureRun := b.appr.departureRun } = b.appr
  form : { u.form with lead := b.form.lead, arrival := b.form.arrival } = b.form
  effect : b.Effect [0x01, 0x05, 0x07, 0x10] u
  displays : b.SameDisplays u
  maps : u.appr.current ≠ b.appr.current ∨ u.appr.stage ≠ b.appr.stage →
    u.StaleAt fun x => decide (x.kind = .doorMap)
  banners : u.appr.current ≠ b.appr.current → u.StaleAt fun x => decide (x.kind = .banner)
  reversed : u.form.lead ≠ b.form.lead → u.StaleAt (fun _ => true) ∧ u.reversalEvent ∈ u.link.operations.events

section Progress
variable {b u v : State} {c : Nat} {st : Stage} {passed : Bool}

theorem State.Progress.refl (b : State) : b.Progress b :=
  ⟨rfl, rfl, rfl, rfl, .refl _ b, State.sameDisplays_of_table rfl, fun h => h.elim (absurd rfl) (absurd rfl), absurd rfl,
    absurd rfl⟩

theorem State.Progress.unitId (h : b.Progress u) : u.unitId = b.unitId := (congrArg State.unitId h.frame :)

theorem State.Progress.odo (h : b.Progress u) : u.odo = b.odo := (congrArg State.odo h.frame :)

theorem State.Progress.active (h : b.Progress u) : u.form.active = b.form.active :=
  (congrArg Formation.active h.form :)

/-- The portion and its route are those of the beginning (R22, R76). -/
theorem State.Progress.portion (h : b.Progress u) : u.portion = b.portion := State.portion_congr h.active h.unitId

theorem State.Progress.attached (h : b.Progress u) : u.attached = b.attached := by
  have only : u.attached = State.attached { b with
      form := { b.form with active := u.form.active }, unitId := u.unitId } := rfl
  rw [only, h.active, h.unitId]

theorem State.Progress.coachCalls (h : b.Progress u) : u.coachCalls = b.coachCalls :=
  State.coachCalls_congr h.stops h.active h.unitId

theorem State.Progress.lineAt (h : b.Progress u) (c : Nat) : u.plan.lineAt c = b.plan.lineAt c := by
  have only : u.plan.lineAt c = Plan.lineAt { b.plan with stops := u.plan.stops } c := rfl
  rw [only, h.stops]

theorem State.Progress.nextCall (h : b.Progress u) (c : Nat) : u.nextCall c = b.nextCall c := by
  rw [State.nextCall, h.coachCalls, State.nextCall]

/-- C reaches a stage. -/
theorem State.Progress.reaches (h : b.Progress u) (k : u.Reaches c st v)
    (maps : v.StaleAt fun x => decide (x.kind = .doorMap)) : b.Progress v := by
  have current : v.appr.current = u.appr.current := (congrArg Approach.current k.appr :)
  have form : v.form.active = u.form.active := by
    rw [k.form, State.formAt]
    split <;> rfl
  refine ⟨?_, ?_, ?_, ?_, h.effect.trans (k.effect.mono (by simp)), ?_, fun _ => maps, fun moved => ?_, fun turned => ?_⟩
  · exact (congrArg (fun x : State => { x with
      appr := b.appr, form := b.form, seq := b.seq, link := b.link, line := b.line, table := b.table
      holds := b.holds, plan := b.plan }) k.frame :).trans h.frame
  · rw [k.plan]
    exact h.stops
  · rw [k.appr]
    exact h.appr
  · rw [k.form, State.formAt]
    refine Eq.trans ?_ h.form
    split <;> rfl
  · exact h.displays.trans (State.sameDisplays_of_table (congrArg State.table k.frame :))
  · rw [current] at moved
    exact k.effect.stale _ (h.banners moved)
  · by_cases here : v.form.lead = u.form.lead
    · rw [here] at turned
      obtain ⟨stale, event⟩ := h.reversed turned
      refine ⟨k.effect.stale _ stale, ?_⟩
      rw [State.reversalEvent_congr form here (congrArg State.unitId k.frame :)]
      exact (k.steady here).operations rfl event
    · exact k.reversed here

/-- C departs. -/
theorem State.Progress.departs (h : b.Progress u) (k : u.Departs c passed v) : b.Progress v := by
  refine ⟨?_, ?_, ?_, ?_, h.effect.trans (k.effect.mono (by simp)), h.displays.trans k.displays,
    fun _ => k.shown.mono fun x name => Bool.or_eq_true_iff.mpr (.inl name),
    fun _ => k.shown.mono fun x name => Bool.or_eq_true_iff.mpr (.inr name), fun turned => ?_⟩
  · exact (congrArg (fun x : State => { x with
      appr := b.appr, form := b.form, seq := b.seq, link := b.link, line := b.line, table := b.table
      holds := b.holds, plan := b.plan }) k.frame :).trans h.frame
  · rw [k.plan]
    exact h.stops
  · rw [k.appr]
    exact h.appr
  · rw [k.form]
    exact h.form
  · have lead : v.form.lead = u.form.lead := (congrArg Formation.lead k.form :)
    rw [lead] at turned
    obtain ⟨stale, event⟩ := h.reversed turned
    refine ⟨k.effect.stale _ stale, ?_⟩
    rw [State.reversalEvent_congr (congrArg Formation.active k.form :) lead (congrArg State.unitId k.frame :)]
    exact k.effect.raises.operations rfl event

end Progress

/-! ### The passes -/

/-- An evaluation under way that began in the state b. -/
structure Evaluation.From (b : State) (e : Evaluation) : Prop where
  progress : b.Progress e.st
  still : e.moved = false → e.st = b ∧ e.reached = none

theorem Evaluation.from_start (b : State) : Evaluation.From b ⟨b, none, false⟩ := ⟨.refl b, fun _ => ⟨rfl, rfl⟩⟩

theorem Evaluation.From.apply {b : State} {e : Evaluation} (h : e.From b) (c : Nat) (row : Stage × Bool) :
    (e.apply c row).From b := by
  unfold Evaluation.apply
  split
  · exact ⟨h.progress.departs (State.depart_departs c row.2 e.st), nofun⟩
  · obtain ⟨reaches, maps⟩ := State.reachStage_reaches c row.1 e.st
    exact ⟨h.progress.reaches reaches maps, nofun⟩

theorem Evaluation.From.passes {b : State} (act : Option Nat) (n : Nat) {e : Evaluation} (h : e.From b) :
    (passes act n e).From b := by
  induction n generalizing e with
  | zero => exact h
  | succ n ih =>
    unfold Sys2Proof.Machine.passes
    split
    next c row _ _ =>
      dsimp only
      split
      · exact ih (h.apply c row)
      · exact h.apply c row
    · exact h

end Sys2Proof.Machine
end

section
/-!
Where the passes of an evaluation end for a C that S has not left behind (R63, R64, R66).
-/
namespace Sys2Proof.Machine

/-! ### One stage reached after another -/

/-- Where the table leaves C goes by odometer, stops, thresholds and standstill (R64). -/
theorem State.stageEnd_congr {s t : State} (odo : t.odo = s.odo) (stops : t.plan.stops = s.plan.stops)
    (appr : { t.appr with stage := s.appr.stage, departureRun := s.appr.departureRun, current := s.appr.current
                          last := s.appr.last, passed := s.appr.passed, eta := s.appr.eta } = s.appr) :
    t.stageEnd = s.stageEnd := by
  have only : t.stageEnd = State.stageEnd { s with
      odo := t.odo, plan := { s.plan with stops := t.plan.stops }
      appr := { t.appr with stage := s.appr.stage, departureRun := s.appr.departureRun, current := s.appr.current
                            last := s.appr.last, passed := s.appr.passed, eta := s.appr.eta } } := rfl
  rw [only, odo, stops, appr]

theorem Stage.eq_atPlatform {st : Stage} (four : st.code = 4) : st = .atPlatform := by
  cases st <;> simp [Stage.code] at four ⊢

/-- The passes never lead back (R64). -/
theorem State.stageEnd_ge (s : State) (c : Nat) {st : Stage} (most : st.code ≤ 4) :
    st.code ≤ (s.stageEnd c st).code := by
  rw [State.stageEnd, State.stageAfter_eq]
  cases st with
  | departed => exact absurd most (by decide)
  | atPlatform => exact le_rfl
  | _ => simp only [reduceCtorEq, false_or, true_or, if_true, if_false]; split_ifs <;> decide

section Chain
variable {s u v : State} {c : Nat} {st st2 : Stage}

theorem State.formAt_other (h : st ≠ .atPlatform) : s.formAt c st = s.form := if_neg h

theorem State.Reaches.odo (h : s.Reaches c st u) : u.odo = s.odo := (congrArg State.odo h.frame :)

theorem State.Reaches.stops (h : s.Reaches c st u) : u.plan.stops = s.plan.stops :=
  (congrArg Plan.stops h.plan :)

theorem State.Reaches.current (h : s.Reaches c st u) : u.appr.current = s.appr.current :=
  (congrArg Approach.current h.appr :)

theorem State.Reaches.stage (h : s.Reaches c st u) : u.appr.stage = some st := (congrArg Approach.stage h.appr :)

theorem State.Reaches.active (h : s.Reaches c st u) : u.form.active = s.form.active := by
  rw [h.form, State.formAt]
  split <;> rfl

theorem State.Reaches.coachCalls (h : s.Reaches c st u) : u.coachCalls = s.coachCalls :=
  State.coachCalls_congr h.stops h.active (congrArg State.unitId h.frame :)

theorem State.Reaches.stageEnd (h : s.Reaches c st u) : u.stageEnd = s.stageEnd :=
  State.stageEnd_congr h.odo h.stops (by rw [h.appr])

/-- A stage reached by way of an earlier one below AT_PLATFORM is reached. -/
theorem State.Reaches.trans (h : s.Reaches c st u) (k : u.Reaches c st2 v) (below : st ≠ .atPlatform) :
    s.Reaches c st2 v := by
  have form : u.form = s.form := h.form.trans (State.formAt_other below)
  have plan : u.plan = s.plan := by rw [h.plan, if_neg fun both => below both.1]
  have lead : u.form.lead = s.form.lead := congrArg Formation.lead form
  refine ⟨?_, ?_, ?_, ?_, h.effect.trans k.effect, k.event, fun same => ?_, fun turned => ?_, fun others => ?_, k.later,
    fun n hn => ?_⟩
  · exact (congrArg (fun x : State => { x with
      appr := s.appr, form := s.form, seq := s.seq, link := s.link, line := s.line, plan := s.plan }) k.frame :).trans
      h.frame
  · rw [k.appr, h.appr, if_neg below]
  · rw [k.form, State.formAt, State.formAt, form, plan]
  · rw [k.plan, h.coachCalls, plan]
  · exact (h.steady lead).trans (k.steady (same.trans lead.symm))
  · exact k.reversed fun same => turned (same.trans lead)
  · have seq : u.seq = s.seq := (h.seq others).trans (if_pos lead)
    rw [k.seq (by rw [seq]; exact others), State.seqTurned, State.seqTurned, lead, seq]
  · obtain ⟨m, hm, like⟩ := k.held n hn
    obtain ⟨l, hl, like2⟩ := h.held m hm
    exact ⟨l, hl, like.trans like2⟩

/-- Once at AT_PLATFORM with S near, C stays until the next window (R64, R66). -/
theorem State.Reaches.stays (h : s.Reaches c .atPlatform u) (current : s.appr.current = some c)
    (near : s.odo.position ≤ s.plan.lineAt c + 400) (act : Bool) : u.stageRow act = none := by
  have line : u.plan.lineAt c = s.plan.lineAt c := by
    have only : u.plan.lineAt c = Plan.lineAt { s.plan with stops := u.plan.stops } c := rfl
    rw [only, h.stops]
  refine State.stageRow_stays (h.current.trans current) h.stage act rfl ?_ ?_
  · rw [h.odo, line]
    exact near
  · rw [h.appr]
    exact Nat.zero_ne_add_one 2

end Chain

/-! ### The passes (R64) -/

section Passes
variable {c : Nat} {st : Stage} {act : Option Nat} {n : Nat} {e : Evaluation}

theorem passes_stop (none_ : e.st.stageRow (e.st.appr.current.isSome && act == e.st.appr.current) = none) :
    passes act n e = e := by
  cases n with
  | zero => rfl
  | succ n =>
    unfold passes
    rw [none_]
    cases e.st.appr.current <;> rfl

theorem passes_row {row : Stage × Bool} (current : e.st.appr.current = some c)
    (applies : e.st.stageRow (act == some c) = some row) :
    passes act (n + 1) e
      = if (e.apply c row).st.plan.state = .running then passes act n (e.apply c row) else e.apply c row := by
  have row_ : e.st.stageRow (e.st.appr.current.isSome && act == e.st.appr.current) = some row := by
    rw [current]
    exact applies
  conv_lhs => unfold passes
  rw [row_, current]

/-- An evaluation that has brought C from the state u to a stage. -/
structure Evaluation.At (u : State) (c : Nat) (st : Stage) (e : Evaluation) : Prop where
  reaches : u.Reaches c st e.st
  reached : e.reached = some st
  moved : e.moved = true

theorem Evaluation.apply_at (e : Evaluation) (c : Nat) {st : Stage} (other : st ≠ .departed) :
    (e.apply c (st, false)).At e.st c st := by
  unfold Evaluation.apply
  rw [if_neg other]
  exact ⟨(State.reachStage_reaches c st e.st).1, rfl, rfl⟩

/-- C at AT_PLATFORM ends the passes, whether or not its plan has ended. -/
theorem passes_arrived (current : e.st.appr.current = some c) (near : e.st.odo.position ≤ e.st.plan.lineAt c + 400)
    (applies : e.st.stageRow (act == some c) = some (.atPlatform, false)) :
    (passes act (n + 1) e).At e.st c .atPlatform := by
  have arrived : (e.apply c (.atPlatform, false)).At e.st c .atPlatform := e.apply_at c nofun
  rw [passes_row current applies]
  split
  · rw [passes_stop (arrived.reaches.stays current near _)]
    exact arrived
  · exact arrived

theorem State.Reaches.near {s u : State} (h : s.Reaches c st u) (near : s.odo.position ≤ s.plan.lineAt c + 400) :
    u.odo.position ≤ u.plan.lineAt c + 400 := by
  have line : u.plan.lineAt c = s.plan.lineAt c := by
    have only : u.plan.lineAt c = Plan.lineAt { s.plan with stops := u.plan.stops } c := rfl
    rw [only, h.stops]
  rw [h.odo, line]
  exact near

theorem State.Reaches.running {s u : State} (h : s.Reaches c st u) (below : st ≠ .atPlatform)
    (running : s.plan.state = .running) : u.plan.state = .running := by
  rw [h.plan, if_neg fun both => below both.1]
  exact running

/-- Without door activation the passes bring C to where the table leaves it (R64). -/
theorem passes_near (other : (act == some c) = false) (current : e.st.appr.current = some c)
    (stage : e.st.appr.stage = some st) (near : e.st.odo.position ≤ e.st.plan.lineAt c + 400)
    (running : e.st.plan.state = .running) (below : st.code < 4) (fuel : 4 ≤ n + st.code) :
    (e.st.stageEnd c st = st → passes act n e = e)
    ∧ (e.st.stageEnd c st ≠ st → (passes act n e).At e.st c (e.st.stageEnd c st)) := by
  induction n generalizing e st with
  | zero => exact absurd fuel (by omega)
  | succ n ih =>
    have row := State.stageRow_near current stage near below
    have next := State.stageEnd_next (s := e.st) (c := c) below
    cases found : e.st.nextStage c st with
    | none =>
      rw [found] at row next
      have none_ : e.st.stageRow (e.st.appr.current.isSome && act == e.st.appr.current) = none := by
        rw [current, Option.isSome_some, Bool.true_and, other]
        exact row
      exact ⟨fun _ => passes_stop none_, fun moves => absurd next moves⟩
    | some st2 =>
      rw [found] at row next
      obtain ⟨later, most, ends⟩ := next
      have applies : e.st.stageRow (act == some c) = some (st2, false) := by
        rw [other]
        exact row
      have reached : (e.apply c (st2, false)).At e.st c st2 := e.apply_at c fun gone => by
        rw [gone] at most
        exact absurd most (by decide)
      by_cases here : st2 = .atPlatform
      · subst here
        have whole : e.st.stageEnd c st = .atPlatform := ends.symm
        rw [whole]
        exact ⟨fun same => absurd later (by rw [same]; exact lt_irrefl _), fun _ => passes_arrived current near applies⟩
      · have still := reached.reaches.running here running
        have lower : st2.code < 4 := lt_of_le_of_ne most fun four => here (Stage.eq_atPlatform four)
        obtain ⟨same, moves⟩ := ih (e := e.apply c (st2, false)) (st := st2)
          (reached.reaches.current.trans current) reached.reaches.stage (reached.reaches.near near) still lower
          (by omega)
        rw [reached.reaches.stageEnd, ends] at same moves
        rw [passes_row current applies, if_pos still]
        refine ⟨fun back => ?_, fun _ => ?_⟩
        · have least := e.st.stageEnd_ge c most
          rw [ends, back] at least
          omega
        · by_cases first_ : e.st.stageEnd c st = st2
          · rw [same first_, first_]
            exact reached
          · obtain ⟨reaches, last, moved⟩ := moves first_
            exact ⟨reached.reaches.trans reaches here, last, moved⟩

/-- With door activation the passes bring C to AT_PLATFORM (R63, R64). -/
theorem passes_door (current : e.st.appr.current = some c)
    (stage : e.st.appr.stage = some st) (near : e.st.odo.position ≤ e.st.plan.lineAt c + 400)
    (running : e.st.plan.state = .running)
    (opens : st = .approach ∨ st = .berthing ∨ ((st = .cruise ∨ st = .announce) ∧ e.st.odo.mode = .hold)) :
    (passes (some c) (n + 2) e).At e.st c .atPlatform := by
  have self : (some c == some c) = true := beq_self_eq_true _
  rcases State.stageRow_door current stage near opens with row | ⟨-, row⟩
  · exact passes_arrived current near (by rw [self]; exact row)
  · have reached : (e.apply c (.berthing, false)).At e.st c .berthing := e.apply_at c nofun
    have still := reached.reaches.running nofun running
    rw [passes_row current (by rw [self]; exact row), if_pos still]
    have row2 : (e.apply c (.berthing, false)).st.stageRow (some c == some c) = some (.atPlatform, false) := by
      rw [self]
      rcases State.stageRow_door (reached.reaches.current.trans current) reached.reaches.stage
        (reached.reaches.near near) (.inr (.inl rfl)) with row | ⟨same, -⟩
      · exact row
      · nomatch same
    obtain ⟨reaches, last, moved⟩ := passes_arrived (n := n) (act := some c) (reached.reaches.current.trans current)
      (reached.reaches.near near) row2
    exact ⟨reached.reaches.trans reaches nofun, last, moved⟩

end Passes
end Sys2Proof.Machine
end

section
/-!
The end of an evaluation: the notices of the last stage, the end of the journey, the ETA minutes and the displays
(R30, R62, R111, R148, R149).
-/
namespace Sys2Proof.Machine

/-! ### Every segment removed at the end of the journey (R30) -/

theorem SeatTable.keeping_nil_undisplayed (tb : SeatTable) :
    (tb.keeping fun _ => []).undisplayed = tb.undisplayed.keeping fun _ => [] := by
  unfold SeatTable.keeping SeatTable.undisplayed
  simp only [List.map_map]
  rfl

/-- What each seat kept counts no more once nothing is kept (R98). -/
theorem SeatTable.keeping_keeping_nil {tb : SeatTable} {f : Seat → List Segment}
    (fewer : ∀ x ∈ tb.seats, (f x).length ≤ x.segments.length) :
    (tb.keeping f).keeping (fun _ => []) = tb.keeping fun _ => [] := by
  have split := sum_lengths_split f fewer
  unfold SeatTable.keeping
  simp only [List.map_map, Function.comp_def, List.length_nil, Nat.sub_zero, SeatTable.mk.injEq, true_and]
  omega

/-- Since s seats have lost segments at most, and seats were handed on (R98, R99). -/
structure State.Sheds (s x : State) : Prop where
  handed : ∃ nums bays, s.HandedOn nums bays x
  fewer : ∃ f : Seat → List Segment, (∀ z ∈ s.table.seats, (f z).length ≤ z.segments.length)
    ∧ x.table.undisplayed = (s.table.keeping f).undisplayed

section Sheds
variable {s t u x : State} {codes : List Nat}

theorem State.Sheds.raises (h : s.Sheds t) (table : u.table.undisplayed = t.table.undisplayed)
    (holds : u.holds = t.holds) (raises : t.Raises codes u) (other : codes.contains 0x10 = false) : s.Sheds u := by
  obtain ⟨⟨nums, bays, handed⟩, f, fewer, kept⟩ := h
  exact ⟨⟨nums, bays, handed.raises holds raises other⟩, f, fewer, table.trans kept⟩

theorem State.handedOn_self (s : State) : s.HandedOn [] [] s := by
  refine ⟨fun p => ?_, fun b _ => (Bool.or_false _).symm, fun b _ => (Bool.or_false _).symm,
    fun ⟨_, _, named, _⟩ => absurd named nofun⟩
  cases s.holds.get p <;> rfl

theorem SeatTable.keeping_self (tb : SeatTable) : tb.keeping Seat.segments = tb := by
  obtain ⟨seats, free⟩ := tb
  simp [SeatTable.keeping]

theorem State.sheds_self (s : State) : s.Sheds s :=
  ⟨⟨[], [], s.handedOn_self⟩, Seat.segments, fun _ _ => le_rfl, by rw [SeatTable.keeping_self]⟩

theorem State.JourneyEnded.raises (h : s.JourneyEnded t) (table : u.table.undisplayed = t.table.undisplayed)
    (holds : u.holds = t.holds) (raises : t.Raises codes u) (marks : codes.contains 0x10 = false)
    (ended : codes.contains 0x0D = false) : s.JourneyEnded u := by
  obtain ⟨emptied, broken, ⟨set, unreported, raised⟩, operations, content⟩ := h
  refine ⟨table.trans emptied, fun p => ?_, ⟨fun b hb => ?_, fun b hb => ?_, fun fresh => ?_⟩,
    raises.operations ended operations, raises.content ended content⟩
  · rw [holds]
    exact broken p
  · rw [holds]
    exact set b hb
  · rw [holds]
    exact unreported b hb
  · rw [holds]
    exact raises.content marks (raised fresh)

/-- Every segment removed, every hold broken and every mark set (R30). -/
def State.vacated (x : State) : State := x.clearSegments.breakAndMarkAll

theorem State.vacated_facts (x : State) :
    { x.vacated with table := x.table, link := x.link, holds := x.holds } = x
    ∧ x.Effect [0x10] x.vacated ∧ x.SameDisplays x.vacated
    ∧ ∀ s : State, s.Sheds x → x.vacated.table.undisplayed = (s.table.keeping fun _ => []).undisplayed
      ∧ s.HoldsBroken x.vacated ∧ s.Marked (fun _ => true) x.vacated := by
  have cleared := State.relistAndHand_frame (fun _ => []) x
  have broken := State.breakAndMarkAll_frame x.clearSegments
  have table : x.vacated.table = x.clearSegments.table := (congrArg State.table broken :)
  refine ⟨?_, (State.effect_relistAndHand _ x).trans (State.effect_breakAndMarkAll _), ?_, fun s sheds => ?_⟩
  · exact (congrArg (fun u : State => { u with table := x.table, link := x.link, holds := x.holds }) broken :).trans
      cleared
  · exact (State.sameDisplays_relistAndHand (fun _ => []) x).trans (State.sameDisplays_of_table table)
  · obtain ⟨⟨nums, bays, handed⟩, f, fewer, kept⟩ := sheds
    have relisted : s.HandedOn nums bays (x.relist fun _ => []) := handed
    have handed2 : s.HandedOn _ _ x.clearSegments := relisted.handSeats (State.relisted x (x.relist fun _ => []))
    obtain ⟨holds, marks, -⟩ := handed2.breakAndMarkAll
    refine ⟨?_, holds, marks⟩
    have table1 : x.clearSegments.table = x.table.keeping fun _ => [] :=
      (State.relistAndHand_table _ x).trans (State.relist_keeping _ x fun _ _ => Nat.zero_le _)
    rw [table, table1, SeatTable.keeping_nil_undisplayed, kept, ← SeatTable.keeping_nil_undisplayed,
      SeatTable.keeping_keeping_nil fewer]

end Sheds

/-! ### The end of the journey (R30, R149) -/

theorem Notice.limited_eq : Notice.limited = Notice.inEnded := by
  funext n
  obtain ⟨cls, tag, kind, stop, items, repeats, dwell, mask, validity, cycles, lang⟩ := n
  cases cls <;> cases validity <;> rfl

/-- FINAL_STOP of a stop (R149). -/
def State.finalStop (x : State) (c : Nat) : Notice :=
  x.journeyPost .finalStop c [.phrase 12, .stopName c, .phrase 13] (.limit 60000)

section EndJourney
variable {x : State} {c : Nat}

theorem State.postFinalStop_facts (c : Nat) (x : State) :
    x.NoticeStep (x.postFinalStop c)
    ∧ (x.attached = true → (x.postFinalStop c).seq = (x.seq.mapNotices Notice.inEnded).arrive (x.finalStop c)) := by
  let y : State := { x with seq := x.seq.mapNotices Notice.limited }
  have first : x.NoticeStep y := x.noticeStep_seq _
  refine ⟨first.trans (State.postJourney_notice _ y).1, fun attached => ?_⟩
  have posted : y.journeyNotice .finalStop c [.phrase 12, .stopName c, .phrase 13] (.limit 60000) = x.finalStop c :=
    y.journeyNotice_eq _ _ _ _
  have seq := State.postJourney_seq (s := y)
    (n := y.journeyNotice .finalStop c [.phrase 12, .stopName c, .phrase 13] (.limit 60000)) attached rfl
  rw [← Notice.limited_eq]
  exact seq.trans (congrArg (Sequencer.arrive y.seq) posted)

/-- The stop whose FINAL_STOP the end of the journey posts: C, or without one L (R149). -/
def State.finalCall (x : State) : Option Nat := x.appr.current.or x.appr.last

theorem State.endJourney_eq (x : State) : x.endJourney
    = ((match x.finalCall with
      | some c => x.vacated.postFinalStop c
      | none => x.vacated).raise .journeyEnd) := by
  have appr : x.vacated.appr = x.appr := (congrArg State.appr x.vacated_facts.1 :)
  have shape : x.endJourney = (match x.vacated.appr.current, x.vacated.appr.last with
      | some c, _ => x.vacated.postFinalStop c
      | none, some l => x.vacated.postFinalStop l
      | none, none => x.vacated).raise .journeyEnd := rfl
  rw [shape, appr, State.finalCall]
  cases x.appr.current with
  | some c => rfl
  | none => cases x.appr.last <;> rfl

theorem State.endJourney_facts (x : State) :
    { x.endJourney with table := x.table, link := x.link, holds := x.holds, seq := x.seq, line := x.line } = x
    ∧ x.Effect [0x07, 0x0D, 0x10] x.endJourney ∧ x.SameDisplays x.endJourney
    ∧ (∀ s : State, s.Sheds x → s.JourneyEnded x.endJourney)
    ∧ (∀ c, x.finalCall = some c → x.attached = true →
      x.endJourney.seq = (x.seq.mapNotices Notice.inEnded).arrive (x.finalStop c)) := by
  obtain ⟨frame, effect, displays, ended⟩ := x.vacated_facts
  have attached : x.vacated.attached = x.attached :=
    State.attached_congr (congrArg State.form frame :) (congrArg State.unitId frame :)
  have posts : ∃ y, x.endJourney = y.raise .journeyEnd ∧ x.vacated.NoticeStep y
      ∧ ∀ c, x.finalCall = some c → x.attached = true →
        y.seq = (x.seq.mapNotices Notice.inEnded).arrive (x.finalStop c) := by
    have shape := x.endJourney_eq
    cases call : x.finalCall with
    | none =>
      rw [call] at shape
      exact ⟨x.vacated, shape, .refl _, nofun⟩
    | some c =>
      rw [call] at shape
      obtain ⟨step, seq⟩ := x.vacated.postFinalStop_facts c
      refine ⟨x.vacated.postFinalStop c, shape, step, fun d same at_ => ?_⟩
      obtain rfl := Option.some.inj same
      have before : x.vacated.seq = x.seq := (congrArg State.seq frame :)
      have posted : x.vacated.finalStop c = x.finalStop c :=
        State.journeyPost_congr effect.unmarked .finalStop c [.phrase 12, .stopName c, .phrase 13] (.limit 60000)
      rw [seq (attached.trans at_), before, posted]
  obtain ⟨y, shape, step, seq⟩ := posts
  have tail : x.vacated.Raises [0x07] y := step.raises
  rw [shape]
  refine ⟨?_, ?_, ?_, fun s sheds => ?_, seq⟩
  · exact (congrArg (fun u : State => { u with
      table := x.table, link := x.link, holds := x.holds, seq := x.seq, line := x.line }) step.frame :).trans
      (congrArg (fun u : State => { u with seq := x.seq, line := x.line }) frame :)
  · exact (effect.mono (by simp)).trans ((step.effect.mono (by simp)).trans (State.effect_raise rfl y))
  · exact displays.trans (State.sameDisplays_of_table (congrArg State.table step.frame :))
  · obtain ⟨table, broken, marked⟩ := ended s sheds
    have holds : y.holds = x.vacated.holds := (congrArg State.holds step.frame :)
    obtain ⟨set, unreported, raised⟩ := marked
    have kept : y.table = x.vacated.table := (congrArg State.table step.frame :)
    refine ⟨(congrArg SeatTable.undisplayed kept).trans table, fun p => ?_, ⟨fun b hb => ?_, fun b hb => ?_, fun fresh => ?_⟩,
      State.raise_mem_operations y _ rfl, State.raise_mem_content y _ rfl⟩
    · exact (congrArg (fun h : Holds => h.get p) holds).trans (broken p)
    · exact (congrArg (fun h : Holds => h.marks.getLsbD b) holds).trans (set b hb)
    · exact (congrArg (fun h : Holds => h.unreported.getLsbD b) holds).trans (unreported b hb)
    · have marks : Event.marks (y.raise .journeyEnd).holds.unreported = .marks x.vacated.holds.unreported :=
        congrArg (fun h : Holds => Event.marks h.unreported) holds
      rw [marks]
      exact (State.raises_raise (codes := [0x0D]) rfl y).content rfl (tail.content rfl (raised fresh))

end EndJourney
end Sys2Proof.Machine
end

section
/-!
What the conclusion of an evaluation adds to its rows (R30, R62, R111, R148, R149).
-/
namespace Sys2Proof.Machine

/-- The evaluation ends with C, or without one L, at a stage whose notices it posts, if any (R148, R149). -/
def Evaluation.Stands (e : Evaluation) (c : Nat) (st : Stage) : Prop :=
  (e.st.appr.current = some c ∧ e.reached = some st)
  ∨ (e.reached = none ∧ e.st.finalCall = some c ∧ e.st.stagePosts c st = [])

/-- The notices of the last stage that C reached (R148). -/
def Evaluation.posted (e : Evaluation) : State :=
  match e.st.appr.current, e.reached with
  | some c, some st => e.st.postStage c st
  | _, _ => e.st

/-- The end of the journey, where the plan has ended (R30). -/
def Evaluation.closed (e : Evaluation) : State :=
  if e.st.plan.state = .ended then e.posted.endJourney else e.posted

/-- The ETA minutes formed (R62). -/
def Evaluation.timed (e : Evaluation) : State := e.closed.formEta

theorem Evaluation.conclude_eq (e : Evaluation) :
    e.conclude = if e.moved then e.timed.reformAll else e.timed := rfl

section Conclude
variable (e : Evaluation)

theorem Evaluation.posted_facts : e.st.NoticeStep e.posted
    ∧ (e.reached = none → e.posted = e.st)
    ∧ (∀ c st, e.Stands c st → e.st.attached = true →
      e.posted.seq = (e.st.stagePosts c st).foldl Sequencer.arrive e.st.seq) := by
  have plain (none_ : e.reached = none) : e.posted = e.st := by
    unfold Evaluation.posted
    rw [none_]
    cases e.st.appr.current <;> rfl
  refine ⟨?_, plain, fun c st stands attached => ?_⟩
  · unfold Evaluation.posted
    split
    · exact (State.postStage_notice _ _ _).1
    · exact .refl _
  · rcases stands with ⟨current, reached⟩ | ⟨none_, -, nothing⟩
    · have shape : e.posted = e.st.postStage c st := by
        unfold Evaluation.posted
        rw [current, reached]
      rw [shape]
      exact (State.postStage_notice c st e.st).2.2 attached
    · rw [plain none_, nothing]
      rfl

theorem Evaluation.Stands.finalCall {e : Evaluation} {c : Nat} {st : Stage} (h : e.Stands c st) :
    e.st.finalCall = some c := by
  rcases h with ⟨current, -⟩ | ⟨-, call, -⟩
  · rw [State.finalCall, current]
    rfl
  · exact call

/-- Posting and closing change no plan, stage or formation. -/
theorem Evaluation.closed_facts :
    { e.closed with table := e.st.table, link := e.st.link, holds := e.st.holds, seq := e.st.seq, line := e.st.line } = e.st
    ∧ e.st.Effect [0x07, 0x0D, 0x10] e.closed ∧ e.st.SameDisplays e.closed
    ∧ (e.st.plan.state = .ended → ∀ s : State, s.Sheds e.st → s.JourneyEnded e.closed)
    ∧ (e.st.plan.state ≠ .ended → e.st.NoticeStep e.closed)
    ∧ (e.st.plan.state ≠ .ended → e.reached = none → e.closed = e.st)
    ∧ (∀ c st, e.Stands c st → e.st.attached = true → e.closed.seq =
      if e.st.plan.state = .ended then
        (((e.st.stagePosts c st).foldl Sequencer.arrive e.st.seq).mapNotices Notice.inEnded).arrive (e.st.finalStop c)
      else (e.st.stagePosts c st).foldl Sequencer.arrive e.st.seq) := by
  obtain ⟨step, plain, posts⟩ := e.posted_facts
  by_cases ended : e.st.plan.state = .ended
  · have shape : e.closed = e.posted.endJourney := if_pos ended
    obtain ⟨frame, effect, displays, journey, seq⟩ := e.posted.endJourney_facts
    rw [shape]
    refine ⟨?_, (step.effect.mono (by simp)).trans effect, ?_, fun _ s sheds => journey s ?_, absurd ended, absurd ended,
      fun c st stands attached => ?_⟩
    · exact (congrArg (fun u : State => { u with
        table := e.st.table, link := e.st.link, holds := e.st.holds, seq := e.st.seq, line := e.st.line }) frame :).trans
        (congrArg (fun u : State => { u with table := e.st.table, holds := e.st.holds }) step.frame :)
    · exact (State.sameDisplays_of_table (congrArg State.table step.frame :)).trans displays
    · exact sheds.raises (congrArg (fun u : State => u.table.undisplayed) step.frame :)
        (congrArg State.holds step.frame :) step.raises rfl
    · have call : e.posted.finalCall = some c := by
        have appr : e.posted.appr = e.st.appr := (congrArg State.appr step.frame :)
        rw [State.finalCall, appr]
        exact stands.finalCall
      have at_ : e.posted.attached = true :=
        (State.attached_congr (congrArg State.form step.frame :) (congrArg State.unitId step.frame :)).trans attached
      have stop : e.posted.finalStop c = e.st.finalStop c :=
        State.journeyPost_congr step.unmarked .finalStop c [.phrase 12, .stopName c, .phrase 13] (.limit 60000)
      rw [seq c call at_, posts c st stands attached, stop, if_pos ended]
  · have shape : e.closed = e.posted := if_neg ended
    rw [shape]
    refine ⟨?_, step.effect.mono (by simp), ?_, fun h => absurd h ended, fun _ => step, fun _ => plain,
      fun c st stands attached => ?_⟩
    · exact (congrArg (fun u : State => { u with table := e.st.table, holds := e.st.holds }) step.frame :)
    · exact State.sameDisplays_of_table (congrArg State.table step.frame :)
    · rw [if_neg ended]
      exact posts c st stands attached

theorem State.minutesOfC_congr {s t : State} (odo : t.odo = s.odo) (stops : t.plan.stops = s.plan.stops)
    (current : t.appr.current = s.appr.current) (stage : t.appr.stage = s.appr.stage) :
    t.minutesOfC = s.minutesOfC := by
  have only : t.minutesOfC = State.minutesOfC { s with
      odo := t.odo, plan := { s.plan with stops := t.plan.stops }
      appr := { s.appr with current := t.appr.current, stage := t.appr.stage } } := rfl
  rw [only, odo, stops, current, stage]

theorem State.formEta_facts (x : State) :
    { x.formEta with appr := x.appr, line := x.line } = x
    ∧ x.formEta.appr = { x.appr with eta := x.minutesOfC } ∧ x.Effect [] x.formEta
    ∧ (x.minutesOfC ≠ x.appr.eta → x.formEta.StaleAt fun z => decide (z.kind = .banner)) := by
  rw [← State.etaNow_eq]
  have first : x.Effect [] { x with appr := { x.appr with eta := x.etaNow } } := .of_same rfl rfl
  unfold State.formEta
  dsimp only
  split
  next same => exact ⟨rfl, rfl, first, fun differs => absurd same.symm differs⟩
  next => exact ⟨rfl, rfl, first.trans (State.effect_staleWhere _ _), fun _ => State.staleAt_staleWhere _ _⟩

/-- Displays once re-formed stay so while the table is as it was and what is stale stays so. -/
theorem State.Reformed.effect {s t u : State} {named : Seat → Bool} {codes : List Nat} (h : s.Reformed named t)
    (table : u.table = t.table) (display : u.display = t.display) (effect : t.Effect codes u) : s.Reformed named u := by
  intro y hy name
  obtain ⟨shown, strips⟩ := h y (table ▸ hy) name
  exact ⟨by rw [display]; exact shown, fun differs => effect.stale _ (strips differs)⟩

/-- What an evaluation leaves of the state at the end of its rows, t being the state after the event. -/
structure Evaluation.Concludes (e : Evaluation) (t : State) : Prop where
  frame : { t with
    appr := e.st.appr, table := e.st.table, link := e.st.link, holds := e.st.holds, seq := e.st.seq
    line := e.st.line } = e.st
  appr : t.appr = { e.st.appr with eta := t.minutesOfC }
  effect : e.st.Effect [0x06, 0x07, 0x09, 0x0D, 0x10] t
  banners : t.appr.eta ≠ e.st.appr.eta → t.StaleAt fun x => decide (x.kind = .banner)
  running : e.st.plan.state ≠ .ended →
    t.table.undisplayed = e.st.table.undisplayed ∧ t.holds = e.st.holds ∧ e.st.Raises [0x06, 0x07, 0x09] t
  ended : e.st.plan.state = .ended → ∀ s : State, s.Sheds e.st → s.JourneyEnded t
  reformed : e.moved = true → ∀ s : State, s.SameDisplays e.st → s.Reformed (fun _ => true) t
  still : e.moved = false → e.reached = none → e.st.plan.state ≠ .ended → t.table = e.st.table ∧ t.seq = e.st.seq
  posted : ∀ c st, e.Stands c st → e.st.attached = true → t.seq = t.seqPosted c st e.st.seq

theorem Evaluation.Concludes.unitId {e : Evaluation} {t : State} (h : e.Concludes t) : t.unitId = e.st.unitId :=
  (congrArg State.unitId h.frame :)

theorem State.stagePosts_congr {s t : State} (plan : t.plan = s.plan) (form : t.form = s.form)
    (current : t.appr.current = s.appr.current) (unit : t.unitId = s.unitId)
    (line : t.line.unmarked = s.line.unmarked) : t.stagePosts = s.stagePosts := by
  have rotation : t.line.rotation = s.line.rotation := (congrArg PanelLine.rotation line :)
  have only : t.stagePosts = State.stagePosts { s with
      plan := t.plan, form := t.form, appr := { s.appr with current := t.appr.current }, unitId := t.unitId
      line := { s.line with rotation := t.line.rotation } } := rfl
  rw [only, plan, form, current, unit, rotation]

theorem Evaluation.conclude_concludes (before : State) : e.Concludes (e.conclude.settle before) := by
  obtain ⟨frame1, effect1, displays1, ended, open_, plain, posts⟩ := e.closed_facts
  obtain ⟨frame2, appr2, effect2, banners⟩ := e.closed.formEta_facts
  change { e.timed with appr := e.closed.appr, line := e.closed.line } = e.closed at frame2
  change e.timed.appr = _ at appr2
  change e.closed.Effect [] e.timed at effect2
  change _ → e.timed.StaleAt _ at banners
  have link2 : e.timed.link = e.closed.link := (congrArg State.link frame2 :)
  have last : e.timed.Effect [] e.conclude ∧ { e.conclude with table := e.timed.table, line := e.timed.line } = e.timed
      ∧ e.conclude.table.undisplayed = e.timed.table.undisplayed ∧ (e.moved = false → e.conclude = e.timed) := by
    rw [Evaluation.conclude_eq]
    by_cases moved : e.moved = true
    · rw [if_pos moved]
      exact ⟨State.effect_reform _ _, rfl, SeatTable.undisplayed_reform _ _, fun h => absurd (moved.symm.trans h) nofun⟩
    · rw [if_neg moved]
      exact ⟨.refl _ _, rfl, rfl, fun _ => rfl⟩
  obtain ⟨effect3, frame3, table3, still3⟩ := last
  let t := e.conclude.settle before
  have frame4 : { t with link := e.conclude.link, line := e.conclude.line } = e.conclude :=
    State.settle_frame e.conclude before
  have effect4 : e.conclude.Effect [0x06, 0x09] t := State.effect_settle _ _
  have tail : e.closed.Effect [0x06, 0x09] t :=
    (effect2.mono (by simp)).trans ((effect3.mono (by simp)).trans effect4)
  have appr1 : e.closed.appr = e.st.appr := (congrArg State.appr frame1 :)
  have appr4 : t.appr = e.timed.appr := (congrArg State.appr frame4 :).trans (congrArg State.appr frame3 :)
  have appr : t.appr = { e.st.appr with eta := e.closed.minutesOfC } := by rw [appr4, appr2, appr1]
  have odo : t.odo = e.closed.odo := (congrArg State.odo frame4 :).trans
    ((congrArg State.odo frame3 :).trans (congrArg State.odo frame2 :))
  have plan3 : t.plan = e.closed.plan := (congrArg State.plan frame4 :).trans
    ((congrArg State.plan frame3 :).trans (congrArg State.plan frame2 :))
  have minutes : t.minutesOfC = e.closed.minutesOfC := State.minutesOfC_congr odo (congrArg Plan.stops plan3)
    (by rw [appr, appr1]) (by rw [appr, appr1])
  have holds : t.holds = e.closed.holds := (congrArg State.holds frame4 :).trans
    ((congrArg State.holds frame3 :).trans (congrArg State.holds frame2 :))
  have seq : t.seq = e.closed.seq := (congrArg State.seq frame4 :).trans
    ((congrArg State.seq frame3 :).trans (congrArg State.seq frame2 :))
  have tableT : t.table.undisplayed = e.closed.table.undisplayed :=
    (congrArg (fun u : State => u.table.undisplayed) frame4 :).trans
      (table3.trans (congrArg (fun u : State => u.table.undisplayed) frame2 :))
  have plan : t.plan = e.st.plan := plan3.trans (congrArg State.plan frame1 :)
  have form : t.form = e.st.form := (congrArg State.form frame4 :).trans ((congrArg State.form frame3 :).trans
    ((congrArg State.form frame2 :).trans (congrArg State.form frame1 :)))
  have unit : t.unitId = e.st.unitId := (congrArg State.unitId frame4 :).trans ((congrArg State.unitId frame3 :).trans
    ((congrArg State.unitId frame2 :).trans (congrArg State.unitId frame1 :)))
  have whole : e.st.Effect [0x06, 0x07, 0x09, 0x0D, 0x10] t := (effect1.mono (by simp)).trans (tail.mono (by simp))
  let keeps (u : State) : State := { u with
    appr := e.st.appr, table := e.st.table, link := e.st.link, holds := e.st.holds, seq := e.st.seq
    line := e.st.line }
  refine ⟨?_, ?_, whole, fun differs => ?_, fun running => ⟨?_, ?_, ?_⟩, fun finished s sheds => ?_, fun moved s same => ?_,
    fun quiet none_ running => ?_, fun c st stands attached => ?_⟩
  · exact (congrArg keeps frame4 :).trans ((congrArg keeps frame3 :).trans
      ((congrArg keeps frame2 :).trans (congrArg (fun u : State => { u with appr := e.st.appr }) frame1 :)))
  · show t.appr = _
    rw [appr, minutes]
  · have eta : t.appr.eta = e.closed.minutesOfC := congrArg Approach.eta appr
    refine effect4.stale _ (effect3.stale _ (banners fun same => differs ?_))
    show t.appr.eta = _
    rw [eta, same, appr1]
  · exact tableT.trans (congrArg (fun u : State => u.table.undisplayed) (open_ running).frame :)
  · exact holds.trans (congrArg State.holds (open_ running).frame :)
  · exact ((open_ running).raises.mono (by simp)).trans (tail.raises.mono (by simp))
  · exact (ended finished s sheds).raises tableT holds tail.raises rfl rfl
  · have shape : e.conclude = e.timed.reformAll := if_pos moved
    have displays : s.SameDisplays e.timed :=
      (same.trans displays1).trans (State.sameDisplays_of_table (congrArg State.table frame2 :))
    have reformed : s.Reformed (fun _ => true) e.conclude := by
      rw [shape]
      exact State.reformed_of_reform fun x hx _ => .inr (displays x hx)
    exact reformed.effect (congrArg State.table frame4 :) (congrArg State.display frame4 :) effect4
  · have same : e.closed = e.st := plain running none_
    refine ⟨?_, seq.trans (congrArg State.seq same)⟩
    exact (congrArg State.table frame4 :).trans ((congrArg State.table (still3 quiet)).trans
      ((congrArg State.table frame2 :).trans (congrArg State.table same)))
  · have stop : t.finalStop c = e.st.finalStop c :=
      State.journeyPost_congr whole.unmarked .finalStop c [.phrase 12, .stopName c, .phrase 13] (.limit 60000)
    have stage : t.stagePosts = e.st.stagePosts :=
      State.stagePosts_congr plan form (congrArg Approach.current appr :) unit whole.unmarked
    have shape : t.seqPosted c st e.st.seq = if t.plan.state = .ended then
        (((t.stagePosts c st).foldl Sequencer.arrive e.st.seq).mapNotices Notice.inEnded).arrive (t.finalStop c)
      else (t.stagePosts c st).foldl Sequencer.arrive e.st.seq := rfl
    show t.seq = t.seqPosted c st e.st.seq
    rw [shape, stop, stage, plan, seq]
    exact posts c st stands attached

end Conclude
end Sys2Proof.Machine
end

section
/-!
An evaluation of the stage of C without door activation, whole (R61 to R68).
-/
namespace Sys2Proof.Machine

/-! ### C at the stage at which the rows leave it -/

/-- C stands at a stage, reached or given, u being the state after it (R67, R68). -/
structure State.Lands (s : State) (c : Nat) (st : Stage) (u : State) : Prop where
  frame : { u with appr := s.appr, form := s.form, seq := s.seq, link := s.link, line := s.line, plan := s.plan } = s
  appr : u.appr = { s.appr with
    stage := some st, departureRun := if st = .atPlatform then 0 else s.appr.departureRun }
  form : u.form = s.formAt c st
  plan : u.plan = { s.plan with
    state := if st = .atPlatform ∧ s.coachCalls.getLast? = some c then .ended else s.plan.state }
  effect : s.Effect [0x01, 0x05, 0x07] u
  event : .stage c st false ∈ u.link.operations.events
  seq : (∀ n ∈ s.seq.all, n.stop ≠ some c) → u.seq = s.seqTurned u
  held : ∀ n ∈ u.seq.all, ∃ m ∈ s.seq.all, n.Like m

theorem State.Reaches.lands {s u : State} {c : Nat} {st : Stage} (h : s.Reaches c st u) : s.Lands c st u :=
  ⟨h.frame, h.appr, h.form, h.plan, h.effect, h.event, h.seq, h.held⟩

/-- A C just given stands at CRUISE. -/
theorem State.lands_cruise {s : State} {c : Nat} (stage : s.appr.stage = some .cruise)
    (event : .stage c .cruise false ∈ s.link.operations.events) : s.Lands c .cruise s := by
  refine ⟨rfl, ?_, (State.formAt_other (st := .cruise) nofun).symm, ?_, .refl _ s, event, fun _ => (if_pos rfl).symm,
    fun n hn => ⟨n, hn, .refl n⟩⟩
  · rw [if_neg (show ¬ Stage.cruise = .atPlatform from nofun), ← stage]
  · rw [if_neg fun both => nomatch both.1]

theorem State.stagePosts_cruise (s : State) (c : Nat) : s.stagePosts c .cruise = [] := by
  unfold State.stagePosts
  cases s.plan.stops[c]? <;> rfl

theorem State.stagePosts_departed (s : State) (c : Nat) : s.stagePosts c .departed = [] := by
  unfold State.stagePosts
  cases s.plan.stops[c]? <;> rfl

/-- A notice that a stage posts is for that stop and awaits a later stage (R146). -/
theorem State.stagePosts_later {s : State} {c : Nat} {st : Stage} {n : Notice} (h : n ∈ s.stagePosts c st) :
    n.stop = some c ∧ ∃ v, n.validity = .stage v ∧ st.code < v.code := by
  unfold State.stagePosts at h
  split at h
  case h_1 => exact absurd h List.not_mem_nil
  case h_2 r =>
    dsimp only at h
    split at h
    next announce =>
      rw [List.mem_singleton.mp h, announce]
      exact ⟨rfl, .atPlatform, rfl, by decide⟩
    · split at h
      next approach =>
        rw [approach]
        have departs {m : Notice} (stop : m.stop = some c) (validity : m.validity = .stage .departed) :
            m.stop = some c ∧ ∃ v, m.validity = .stage v ∧ Stage.approach.code < v.code :=
          ⟨stop, .departed, validity, by decide⟩
        rcases List.mem_append.mp h with first | divide
        · rcases List.mem_cons.mp first with rfl | short
          · exact departs rfl rfl
          · split at short
            · rw [List.mem_singleton.mp short]
              exact departs rfl rfl
            · exact absurd short List.not_mem_nil
        · split at divide
          · rw [List.mem_singleton.mp divide]
            exact departs rfl rfl
          · exact absurd divide List.not_mem_nil
      · split at h
        next connects =>
          rw [List.mem_singleton.mp h, connects.1]
          exact ⟨rfl, .departed, rfl, by decide⟩
        · exact absurd h List.not_mem_nil

/-- Arrivals one after another (R148). -/
theorem Sequencer.foldl_arrive_like {l : List Notice} {q : Sequencer} {n : Notice}
    (hn : n ∈ (l.foldl Sequencer.arrive q).all) : (∃ p ∈ l, n.Like p) ∨ ∃ m ∈ q.all, n.Like m := by
  induction l generalizing q with
  | nil => exact .inr ⟨n, hn, .refl n⟩
  | cons p l ih =>
    rcases ih hn with ⟨m, hm, like⟩ | ⟨m, hm, like⟩
    · exact .inl ⟨m, List.mem_cons_of_mem p hm, like⟩
    · rcases Sequencer.arrive_like hm with new | ⟨k, hk, like2⟩
      · exact .inl ⟨p, List.mem_cons_self, like.trans new⟩
      · exact .inr ⟨k, hk, like.trans like2⟩

/-- What an evaluation that ends with C at a stage leaves of the state s in which C began (R61 to R68). -/
structure State.Comes (s : State) (c : Nat) (st : Stage) (t : State) : Prop where
  appr : t.appr = { s.appr with
    stage := some st, departureRun := if st = .atPlatform then 0 else s.appr.departureRun, eta := t.minutesOfC }
  form : t.form = s.formAt c st
  plan : t.plan = { s.plan with
    state := if st = .atPlatform ∧ s.coachCalls.getLast? = some c then .ended else s.plan.state }
  event : .stage c st false ∈ t.link.operations.events
  seq : (∀ n ∈ s.seq.all, n.stop ≠ some c) → t.seq = t.seqPosted c st (s.seqTurned t)
  running : t.plan.state ≠ .ended → t.table.undisplayed = s.table.undisplayed ∧ t.holds = s.holds
    ∧ s.Raises [0x01, 0x05, 0x06, 0x07, 0x09] t
  ended : t.plan.state = .ended → ∀ a : State, a.Sheds s → a.JourneyEnded t
  held : t.plan.state ≠ .ended → ∀ n ∈ t.seq.all, n.stop = some c ∨ ∃ m ∈ s.seq.all, n.Like m

section Conclude
variable {s t : State} {c : Nat} {st : Stage} {e : Evaluation}

theorem Evaluation.Concludes.plan (h : e.Concludes t) : t.plan = e.st.plan := (congrArg State.plan h.frame :)

theorem Evaluation.Concludes.form (h : e.Concludes t) : t.form = e.st.form := (congrArg State.form h.frame :)

theorem Evaluation.Concludes.odo (h : e.Concludes t) : t.odo = e.st.odo := (congrArg State.odo h.frame :)

theorem Evaluation.Concludes.current (h : e.Concludes t) : t.appr.current = e.st.appr.current :=
  (congrArg Approach.current h.appr :)

theorem Evaluation.Concludes.stage (h : e.Concludes t) : t.appr.stage = e.st.appr.stage :=
  (congrArg Approach.stage h.appr :)

theorem Evaluation.Concludes.retested (h : e.Concludes t) : t.retested = e.st.retested :=
  State.retested_congr (congrArg Plan.stops h.plan) h.form h.current h.unitId

theorem Evaluation.Concludes.seqTurned (h : e.Concludes t) (a : State) : a.seqTurned t = a.seqTurned e.st := by
  rw [State.seqTurned, State.seqTurned, h.form, h.retested]

/-- While the plan has not ended the notices are those of before and those of the stage (R148). -/
theorem Evaluation.Concludes.held (h : e.Concludes t) (stands : e.Stands c st) (attached : e.st.attached = true)
    (running : t.plan.state ≠ .ended) {n : Notice} (hn : n ∈ t.seq.all) :
    (n.stop = some c ∧ ∃ v, n.validity = .stage v ∧ st.code < v.code) ∨ ∃ m ∈ e.st.seq.all, n.Like m := by
  rw [h.posted c st stands attached, State.seqPosted, if_neg running] at hn
  rcases Sequencer.foldl_arrive_like hn with ⟨p, posted, stop, validity⟩ | held
  · obtain ⟨stop2, later⟩ := State.stagePosts_later posted
    exact .inl ⟨stop.trans stop2, validity.symm ▸ later⟩
  · exact .inr held

theorem State.comes_of_lands (lands : s.Lands c st e.st) (stands : e.Stands c st) (attached : e.st.attached = true)
    (h : e.Concludes t) : s.Comes c st t := by
  have table : e.st.table = s.table := (congrArg State.table lands.frame :)
  have holds : e.st.holds = s.holds := (congrArg State.holds lands.frame :)
  refine ⟨?_, h.form.trans lands.form, h.plan.trans lands.plan, h.effect.raises.operations rfl lands.event,
    fun others => ?_, fun running => ?_, fun ended a sheds => ?_,
    fun running n hn => ?_⟩
  · exact h.appr.trans (congrArg (fun x : Approach => { x with eta := t.minutesOfC }) lands.appr)
  · rw [h.posted c st stands attached, lands.seq others, h.seqTurned]
  · rw [h.plan] at running
    obtain ⟨table2, holds2, raises⟩ := h.running running
    exact ⟨table2.trans (congrArg SeatTable.undisplayed table), holds2.trans holds,
      (lands.effect.raises.mono (by simp)).trans (raises.mono (by simp))⟩
  · rw [h.plan] at ended
    exact h.ended ended a (sheds.raises (congrArg SeatTable.undisplayed table) holds lands.effect.raises rfl)
  · rcases h.held stands attached running hn with ⟨stop, -⟩ | ⟨m, hm, like⟩
    · exact .inl stop
    · obtain ⟨l, hl, like2⟩ := lands.held m hm
      exact .inr ⟨l, hl, like.trans like2⟩

end Conclude

/-- Where the table leaves C is no other stage after the evaluation than before it. -/
theorem State.Comes.stageEnd {s t : State} {c : Nat} {st : Stage} (h : s.Comes c st t) (odo : t.odo = s.odo) :
    t.stageEnd = s.stageEnd :=
  State.stageEnd_congr odo (congrArg Plan.stops h.plan :) (by rw [h.appr])

/-! ### What panels and seats show of it (R62, R68, R86, R111) -/

theorem State.stageShown_of_from {b t : State} {e : Evaluation} (rows : e.From b) (h : e.Concludes t) :
    b.StageShown t := by
  obtain ⟨progress, still⟩ := rows
  have eta : e.st.appr.eta = b.appr.eta := (congrArg Approach.eta progress.appr :)
  refine ⟨(congrArg Approach.eta h.appr :), fun differs => ?_, fun differs => ?_, fun turned => ?_⟩
  · by_cases minutes : t.appr.eta = e.st.appr.eta
    · rw [minutes, eta, h.current] at differs
      exact h.effect.stale _ (progress.banners (differs.resolve_left fun h => h rfl))
    · exact h.banners minutes
  · rw [h.current, h.stage] at differs
    refine ⟨h.effect.stale _ (progress.maps differs), h.reformed ?_ b progress.displays⟩
    refine Bool.of_not_eq_false fun quiet => ?_
    rw [(still quiet).1] at differs
    exact differs.elim (absurd rfl) (absurd rfl)
  · rw [h.form] at turned
    obtain ⟨stale, event⟩ := progress.reversed turned
    refine ⟨h.effect.stale _ stale, ?_⟩
    have same : t.reversalEvent = e.st.reversalEvent := State.reversalEvent_congr
      (congrArg Formation.active h.form) (congrArg Formation.lead h.form) h.unitId
    show t.reversalEvent ∈ _
    rw [same]
    exact h.effect.raises.operations rfl event

/-! ### The evaluation -/

/-- The evaluation at its beginning. -/
def State.evaluation (b : State) : Evaluation := ⟨b, none, false⟩

/-- The evaluation at the end of its rows. -/
def State.evaluated (b : State) (act : Option Nat) : Evaluation := passes act b.passFuel b.evaluation

theorem State.evaluated_from (b : State) (act : Option Nat) : (b.evaluated act).From b :=
  (Evaluation.from_start b).passes act b.passFuel

theorem State.evaluate_concludes {b : State} (evaluates : b.evaluates = true) (act : Option Nat) (before : State) :
    (b.evaluated act).Concludes ((b.evaluate act).settle before) := by
  have shape : b.evaluate act = (b.evaluated act).conclude := if_pos evaluates
  rw [shape]
  exact (b.evaluated act).conclude_concludes before

theorem State.passFuel_ge (b : State) : ∃ n, b.passFuel = n + 6 :=
  ⟨6 * b.plan.stops.length, by rw [State.passFuel, Nat.mul_add]⟩

theorem State.evaluates_iff {b : State} : b.evaluates = true ↔ b.plan.state = .running ∧ b.link.rest = .awake
    ∧ b.appr.current.isSome = true ∧ b.hasRoute = true := by
  rw [State.evaluates]
  simp only [Bool.and_eq_true, decide_eq_true_eq, and_assoc]

section Base
variable {b t : State} {c : Nat} {st : Stage} {passed : Bool} {act : Option Nat}

/-- C with S near moves on by the table, or nothing happens (R64). -/
theorem State.evaluated_near (running : b.plan.state = .running) (other : (act == some c) = false)
    (current : b.appr.current = some c) (stage : b.appr.stage = some st)
    (near : b.odo.position ≤ b.plan.lineAt c + 400) (below : st.code < 4) :
    (b.stageEnd c st = st → b.evaluated act = b.evaluation)
    ∧ (b.stageEnd c st ≠ st → (b.evaluated act).At b c (b.stageEnd c st)) := by
  obtain ⟨n, fuel⟩ := b.passFuel_ge
  unfold State.evaluated
  rw [fuel]
  exact passes_near (e := b.evaluation) other current stage near running below (by omega)

/-- C at AT_PLATFORM with S near stays while the departure run is not 3 (R64, R66). -/
theorem State.evaluated_stays (current : b.appr.current = some c) (stage : b.appr.stage = some .atPlatform)
    (near : b.odo.position ≤ b.plan.lineAt c + 400) (run : b.appr.departureRun ≠ 3) :
    b.evaluated act = b.evaluation :=
  passes_stop (State.stageRow_stays current stage _ rfl near run)

/-- What a departure leads to: the next calling stop at its stage, or the end of the journey (R64, R67). -/
theorem State.evaluated_departs (running : b.plan.state = .running) (current : b.appr.current = some c)
    (row : b.stageRow (act == some c) = some (.departed, passed)) (other : ∀ d, c < d → (act == some d) = false) :
    let v := b.depart c passed
    (b.nextCall c = none → b.evaluated act = ⟨v, none, true⟩)
    ∧ ∀ d, b.nextCall c = some d → b.odo.position ≤ b.plan.lineAt d + 400 →
      v.Lands d (v.stageEnd d .cruise) (b.evaluated act).st
      ∧ (b.evaluated act).Stands d (v.stageEnd d .cruise) := by
  intro v
  obtain ⟨n, fuel⟩ := b.passFuel_ge
  have departs : b.Departs c passed v := State.depart_departs c passed b
  have applied : b.evaluation.apply c (.departed, passed) = ⟨v, none, true⟩ := if_pos rfl
  have first := passes_row (e := b.evaluation) (n := n + 5) current row
  rw [applied, ← fuel] at first
  change b.evaluated act = _ at first
  refine ⟨fun none_ => first.trans (if_neg ?_), fun d some_ near => ?_⟩
  · show ¬ v.plan.state = .running
    rw [departs.plan, if_pos none_]
    nofun
  · have run : v.plan.state = .running := by
      rw [departs.plan, if_neg (by rw [some_]; nofun)]
      exact running
    have currentV : v.appr.current = some d := by rw [departs.appr, some_]
    have stageV : v.appr.stage = some .cruise := by rw [departs.appr, some_]; rfl
    have nearV : v.odo.position ≤ v.plan.lineAt d + 400 := by
      have odo : v.odo = b.odo := (congrArg State.odo departs.frame :)
      have line : v.plan.lineAt d = b.plan.lineAt d := by
        have only : v.plan.lineAt d = Plan.lineAt { b.plan with stops := v.plan.stops } d := rfl
        rw [only, departs.plan]
      rw [odo, line]
      exact near
    have beyond : c < d := of_decide_eq_true (List.find?_some (p := fun x => decide (c < x)) some_)
    obtain ⟨stays, moves⟩ := passes_near (e := ⟨v, none, true⟩) (n := n + 5) (other d beyond) currentV stageV nearV run
      (by decide) (by omega)
    rw [first, if_pos run]
    by_cases still : v.stageEnd d .cruise = .cruise
    · rw [stays still, still]
      refine ⟨State.lands_cruise stageV (departs.given d some_), .inr ⟨rfl, ?_, State.stagePosts_cruise v d⟩⟩
      rw [State.finalCall, currentV]
      rfl
    · obtain ⟨reaches, reached, -⟩ := moves still
      exact ⟨reaches.lands, .inl ⟨reaches.current.trans currentV, reached⟩⟩

end Base
end Sys2Proof.Machine
end

section
/-!
An evaluation described from the state in which it begins, and from the one before the event (R61 to R68).
-/
namespace Sys2Proof.Machine

section Evaluate
variable {b t : State} {c d : Nat} {st : Stage} {passed : Bool} {e : Evaluation}

/-- C has come to a later stage (R67, R68, R150). -/
theorem State.cameTo_of_at (running : b.plan.state = .running) (route : b.hasRoute = true)
    (current : b.appr.current = some c) (reached : e.At b c st) (rows : e.From b) (h : e.Concludes t) :
    b.CameTo c st t := by
  obtain ⟨reaches, last, moved⟩ := reached
  have attached : e.st.attached = true := rows.progress.attached.trans (State.attached_of_hasRoute route)
  have stands : e.Stands c st := .inl ⟨reaches.current.trans current, last⟩
  obtain ⟨appr, form, plan, event, seq, open_, ended, -⟩ := State.comes_of_lands reaches.lands stands attached h
  have state : t.plan.state = if st = .atPlatform ∧ b.coachCalls.getLast? = some c then .ended else .running := by
    rw [plan, running]
  refine ⟨(congrArg Approach.current appr :).trans current, (congrArg Approach.stage appr :),
    (congrArg Approach.last appr :), (congrArg Approach.passed appr :), state, form, event, fun here => ?_,
    fun still n hn stop => ?_, seq, fun still => ?_, fun done => ended done b b.sheds_self⟩
  · rw [appr]
    exact if_pos here
  · rcases h.held stands attached (by rw [still]; nofun) hn with ⟨-, v, validity, later⟩ | ⟨m, hm, like⟩
    · rw [validity]
      exact later
    · rw [like.2]
      exact reaches.later m hm (like.1.symm.trans stop)
  · obtain ⟨table, holds, -⟩ := open_ (by rw [still]; nofun)
    exact ⟨table, holds⟩

/-- Nothing has happened but that the minutes are formed. -/
theorem State.stood_of_still (running : b.plan.state = .running) (same : e = b.evaluation) (h : e.Concludes t) :
    t.plan = b.plan ∧ t.form = b.form ∧ t.table = b.table ∧ t.holds = b.holds ∧ t.seq = b.seq
    ∧ t.appr = { b.appr with eta := t.appr.eta } := by
  subst same
  have going : b.plan.state ≠ .ended := by rw [running]; nofun
  obtain ⟨table, seq⟩ := h.still rfl rfl going
  refine ⟨h.plan, h.form, table, (h.running going).2.1, seq, ?_⟩
  have eta : t.appr.eta = t.minutesOfC := (congrArg Approach.eta h.appr :)
  rw [eta]
  exact h.appr

theorem State.departs_sheds {v : State} (k : b.Departs c passed v) : b.Sheds v :=
  ⟨k.handed, b.unexpired c, fun _ _ => List.length_filter_le _ _, k.keeps.1⟩

/-- C has departed (R67, R68, R112). -/
theorem State.departedFrom_of_row (running : b.plan.state = .running) (route : b.hasRoute = true)
    (current : b.appr.current = some c) (row : b.stageRow false = some (.departed, passed))
    (h : (b.evaluated none).Concludes t) : b.DepartedFrom c passed t := by
  let v := b.depart c passed
  have departs : b.Departs c passed v := State.depart_departs c passed b
  have attached : (b.evaluated none).st.attached = true :=
    (b.evaluated_from none).progress.attached.trans (State.attached_of_hasRoute route)
  obtain ⟨last, goes⟩ := State.evaluated_departs (act := none) running current row fun _ _ => rfl
  unfold State.DepartedFrom
  cases next : b.nextCall c with
  | some d =>
    dsimp only
    intro near
    have odo : t.odo = b.odo := h.odo.trans (b.evaluated_from none).progress.odo
    obtain ⟨lands, stands⟩ := goes d next (odo ▸ near)
    have comes := State.comes_of_lands lands stands attached h
    have odoV : v.odo = b.odo := (congrArg State.odo departs.frame :)
    have ends : t.stageEnd = v.stageEnd := comes.stageEnd (odo.trans odoV.symm)
    have st1 : v.stageEnd d .cruise = t.stageAfter d .cruise := by
      rw [← ends]
      exact if_neg nofun
    rw [show b.depart c passed = v from rfl, st1] at comes
    have appr : v.appr = _ := departs.appr
    rw [next] at appr
    have stateV : v.plan.state = .running := by
      rw [departs.plan, if_neg (by rw [next]; nofun)]
      exact running
    have calls : v.coachCalls = b.coachCalls := State.coachCalls_congr (congrArg Plan.stops departs.plan :)
      (congrArg Formation.active departs.form :) (congrArg State.unitId departs.frame :)
    have stage : t.appr.stage = some (t.stageAfter d .cruise) := (congrArg Approach.stage comes.appr :)
    refine ⟨?_, stage, ?_, ?_, ?_, ?_, ?_, comes.event, fun others => ?_, fun still => ?_, fun done =>
      comes.ended done b (State.departs_sheds departs)⟩
    · exact (congrArg Approach.current comes.appr :).trans (congrArg Approach.current appr :)
    · exact (congrArg Approach.last comes.appr :).trans (congrArg Approach.last appr :)
    · exact (congrArg Approach.passed comes.appr :).trans (congrArg Approach.passed appr :)
    · have run : v.appr.departureRun = 0 := (congrArg Approach.departureRun appr :)
      rw [comes.appr, run]
      exact ite_self 0
    · rw [stage, comes.plan, calls, stateV]
      simp only [Option.some.injEq]
    · have only : v.formAt d (t.stageAfter d .cruise)
          = State.formAt { b with form := v.form, plan := { b.plan with stops := v.plan.stops } } d
            (t.stageAfter d .cruise) := rfl
      rw [comes.form, only, departs.form, departs.plan]
    · have seq : v.seq = b.seq := departs.seq fun n hn => (others n hn).1
      have lead : v.form.lead = b.form.lead := (congrArg Formation.lead departs.form :)
      have turned : v.seqTurned t = b.seqTurned t := by
        rw [State.seqTurned, State.seqTurned, lead, seq]
      rw [comes.seq fun n hn => (others n (seq ▸ hn)).2, turned]
    · obtain ⟨table, holds, raises⟩ := comes.running (by rw [still]; nofun)
      exact departs.keeps.raises table holds raises rfl
  | none =>
    have e_eq := last next
    rw [e_eq] at h attached
    have plan : t.plan = { b.plan with state := .ended } := h.plan.trans (departs.plan.trans (by rw [if_pos next]))
    have appr : v.appr = _ := departs.appr
    rw [next] at appr
    have stands : Evaluation.Stands ⟨v, none, true⟩ c .departed := by
      refine .inr ⟨rfl, ?_, State.stagePosts_departed v c⟩
      show v.finalCall = some c
      rw [State.finalCall, appr]
      rfl
    refine ⟨?_, ?_, ?_, ?_, (congrArg Plan.state plan :), h.form.trans departs.form, ?_, fun others => ?_, ?_⟩
    · exact h.current.trans (congrArg Approach.current appr :)
    · exact h.stage.trans (congrArg Approach.stage appr :)
    · exact (congrArg Approach.last h.appr :).trans (congrArg Approach.last appr :)
    · exact (congrArg Approach.passed h.appr :).trans (congrArg Approach.passed appr :)
    · exact h.effect.raises.operations rfl (departs.gone next)
    · rw [h.posted c .departed stands attached]
      exact congrArg (t.seqPosted c .departed) (departs.seq others)
    · exact h.ended ((congrArg Plan.state (h.plan.symm.trans plan) :)) b (State.departs_sheds departs)

end Evaluate
end Sys2Proof.Machine
end

section
/-!
An evaluation without door activation, from the state in which it begins and from the one before the event.
-/
namespace Sys2Proof.Machine

theorem Evaluation.Concludes.stageEnd {b t : State} {e : Evaluation} (h : e.Concludes t) (rows : e.From b) :
    t.stageEnd = b.stageEnd := by
  refine State.stageEnd_congr (h.odo.trans rows.progress.odo) ?_ ?_
  · exact (congrArg Plan.stops h.plan).trans rows.progress.stops
  · exact (congrArg (fun a : Approach => { a with
      stage := b.appr.stage, departureRun := b.appr.departureRun, current := b.appr.current, last := b.appr.last
      passed := b.appr.passed, eta := b.appr.eta }) h.appr :).trans
      (congrArg (fun a : Approach => { a with eta := b.appr.eta }) rows.progress.appr :)

/-- The evaluation of a state, described from that state (R61 to R68). -/
theorem State.evaluate_evaluated (b before : State) :
    b.Evaluated b.appr.departureRun ((b.evaluate none).settle before) := by
  unfold State.Evaluated
  cases current : b.appr.current with
  | none => exact trivial
  | some c =>
    cases stage : b.appr.stage with
    | none => exact trivial
    | some st =>
      dsimp only
      intro running awake route here
      have evaluates : b.evaluates = true :=
        State.evaluates_iff.mpr ⟨running, awake, by rw [current]; rfl, route⟩
      have h := State.evaluate_concludes evaluates none before
      have rows := b.evaluated_from none
      generalize (b.evaluate none).settle before = t at h
      have odo : t.odo = b.odo := h.odo.trans rows.progress.odo
      have ends : (if st = .atPlatform then st else t.stageAfter c st) = b.stageEnd c st :=
        congrFun (congrFun (h.stageEnd rows) c) st
      refine ⟨State.stageShown_of_from rows h, ?_, fun leaves => ?_⟩
      · rw [ends, odo]
        intro near stays
        have whole : (b.stageEnd c st = st → b.evaluated none = b.evaluation)
            ∧ (b.stageEnd c st ≠ st → (b.evaluated none).At b c (b.stageEnd c st)) := by
          by_cases arrived : st = .atPlatform
          · subst arrived
            exact ⟨fun _ => State.evaluated_stays current stage near fun run => stays ⟨rfl, run⟩,
              fun moves => absurd (if_pos rfl) moves⟩
          · have below : st.code < 4 := by
              cases st with
              | atPlatform => exact absurd rfl arrived
              | departed => exact absurd rfl here
              | _ => decide
            exact State.evaluated_near running rfl current stage near below
        refine ⟨fun moves => State.cameTo_of_at running route current (whole.2 moves) rows h, fun same => ?_⟩
        obtain ⟨plan, form, table, holds, seq, appr⟩ := State.stood_of_still running (whole.1 same) h
        have standstill : t.appr.standstill = b.appr.standstill := (congrArg Approach.standstill appr :)
        refine ⟨plan, form, table, holds, seq, ?_⟩
        rw [standstill]
        exact appr
      · rw [odo] at leaves
        refine State.departedFrom_of_row running route current ?_ h
        by_cases arrived : st = .atPlatform
        · subst arrived
          refine State.stageRow_leaves current stage false rfl ?_
          exact leaves.imp id And.right
        · have below : st.code < 4 := by
            cases st with
            | atPlatform => exact absurd rfl arrived
            | departed => exact absurd rfl here
            | _ => decide
          rw [decide_eq_true below]
          exact State.stageRow_beyond current stage false below (leaves.resolve_right fun h => arrived h.1)

/-! ### From the state before the event -/

/-- The evaluation begins in b, the event having changed odometer, standstill, departure run, door line and pending
events at most. -/
structure State.Leads (s b : State) : Prop where
  frame : { b with odo := s.odo, appr := s.appr, link := s.link, doorLine := s.doorLine } = s
  appr : { b.appr with
    standstill := s.appr.standstill, departureRun := s.appr.departureRun } = s.appr
  rest : b.link.rest = s.link.rest

section Leads
variable {s b t : State} {run : Nat}

/-- What is described from b is described from the state before the event. -/
theorem State.Leads.evaluated (h : s.Leads b) (k : b.Evaluated run t) : s.Evaluated run t := by
  have only : b.Evaluated run t = State.Evaluated { b with
      odo := s.odo, doorLine := s.doorLine, link := { s.link with rest := b.link.rest }
      appr := { b.appr with
        standstill := s.appr.standstill, departureRun := s.appr.departureRun } } run t := rfl
  rw [only, h.appr, h.rest] at k
  have whole := h.frame
  rw [← whole]
  exact k

end Leads

/-- An answer changes nothing that an evaluation is described by. -/
theorem State.Evaluated.answer {s t : State} {run : Nat} (h : s.Evaluated run t) (p : Port) (k : Byte) (st : Status)
    (body : List Byte) : s.Evaluated run (t.answer p k st body) := by
  let u := t.answer p k st body
  have only : s.Evaluated run u = s.Evaluated run { t with link := { t.link with
      operations := { t.link.operations with events := u.link.operations.events }
      content := { t.link.content with events := u.link.content.events } } } := rfl
  have ops : u.link.operations.events = t.link.operations.events := State.answer_events t p .operations k st body
  have content : u.link.content.events = t.link.content.events := State.answer_events t p .content k st body
  show s.Evaluated run u
  rw [only, ops, content]
  exact h

/-! ### What an evaluation leaves in any case -/

/-- The codes of the entries that an evaluation and the end of its event may raise. -/
def evaluationCodes : List Nat := [0x01, 0x05, 0x06, 0x07, 0x09, 0x0D, 0x10]

/-- The state after an evaluation and the end of its event. -/
theorem State.evaluate_leaves (b before : State) (act : Option Nat) :
    let t := (b.evaluate act).settle before
    t.odo = b.odo ∧ t.plan.stops = b.plan.stops ∧ t.appr.standstill = b.appr.standstill
    ∧ t.appr.doorTaken = b.appr.doorTaken ∧ b.Raises evaluationCodes t
    ∧ { t with
        odo := b.odo, plan := b.plan, appr := b.appr, form := b.form, seq := b.seq, link := b.link, line := b.line
        table := b.table, holds := b.holds } = b := by
  intro t
  by_cases evaluates : b.evaluates = true
  · have h := State.evaluate_concludes evaluates act before
    have rows := b.evaluated_from act
    have appr (a : Approach) : { t.appr with
        current := a.current, last := a.last, stage := a.stage, passed := a.passed, departureRun := a.departureRun
        eta := a.eta } = { b.appr with
        current := a.current, last := a.last, stage := a.stage, passed := a.passed, departureRun := a.departureRun
        eta := a.eta } :=
      (congrArg (fun x : Approach => { x with
        current := a.current, last := a.last, stage := a.stage, passed := a.passed, departureRun := a.departureRun
        eta := a.eta }) h.appr :).trans
      (congrArg (fun x : Approach => { x with
        current := a.current, last := a.last, stage := a.stage, passed := a.passed, departureRun := a.departureRun
        eta := a.eta }) rows.progress.appr :)
    refine ⟨h.odo.trans rows.progress.odo, (congrArg Plan.stops h.plan).trans rows.progress.stops,
      (congrArg Approach.standstill (appr b.appr) :), (congrArg Approach.doorTaken (appr b.appr) :), ?_, ?_⟩
    · exact (rows.progress.effect.raises.mono (by simp [evaluationCodes])).trans
        (h.effect.raises.mono (by simp [evaluationCodes]))
    · let keeps (u : State) : State := { u with
        odo := b.odo, plan := b.plan, appr := b.appr, form := b.form, seq := b.seq, link := b.link, line := b.line
        table := b.table, holds := b.holds }
      exact (congrArg keeps h.frame :).trans (congrArg keeps rows.progress.frame :)
  · have same : b.evaluate act = b := if_neg evaluates
    have frame : { t with link := b.link, line := b.line } = b := by
      have framed := State.settle_frame b before
      show { (b.evaluate act).settle before with link := b.link, line := b.line } = b
      rw [same]
      exact framed
    refine ⟨(congrArg State.odo frame :), (congrArg (fun u : State => u.plan.stops) frame :),
      (congrArg (fun u : State => u.appr.standstill) frame :), (congrArg (fun u : State => u.appr.doorTaken) frame :),
      ?_, ?_⟩
    · show b.Raises evaluationCodes ((b.evaluate act).settle before)
      rw [same]
      exact (b.raises_settle before).mono (by simp [evaluationCodes])
    · exact (congrArg (fun u : State => { u with
        odo := b.odo, plan := b.plan, appr := b.appr, form := b.form, seq := b.seq, table := b.table
        holds := b.holds }) frame :)

end Sys2Proof.Machine
end

section
/-!
Proofs of the statements about Motion Report, the reported speed going stale, and Position Fix (R51 to R56).
-/
namespace Sys2Proof.Machine

/-! ### A mode given and standstill judged (R51, R54) -/

section Judged
variable (m : Mode) (s : State)

/-- The mode given, and standstill judged whether or not it changes. -/
def State.judged : State := (s.setMode m).judgeStandstill

theorem State.judged_frame : { s.judged m with link := s.link } = { s with
    odo := { s.odo with mode := m }
    appr := { s.appr with standstill := standstillOf { s.odo with mode := m } } } := State.judge_setMode m s

theorem State.judged_raises : s.Raises [0x02] (s.judged m) := (s.raises_setMode m).trans (.of_link rfl)

variable {m s}

theorem State.judged_event (differs : m ≠ s.odo.mode) : .mode m ∈ (s.judged m).link.operations.events := by
  show _ ∈ (s.setMode m).link.operations.events
  rw [State.setMode_link, if_neg fun same => differs same.symm]
  exact State.raise_mem_operations s _ rfl

/-- A mode given under a condition. -/
theorem State.judged_ite {P : Prop} [Decidable P] :
    (if P then s.setMode m else s).judgeStandstill = s.judged (if P then m else s.odo.mode) := by
  by_cases given : P
  · simp only [if_pos given]
    rfl
  · have same : s.setMode s.odo.mode = s := if_pos rfl
    simp only [if_neg given, State.judged, same]

end Judged

/-! ### An evaluation at the end of an event (R63) -/

section Event
variable {s b : State} {m : Mode}

/-- Once the mode is given the evaluation begins, for an event that has changed the Odometer. -/
theorem State.leads_judged {v : State} (odo : { v with odo := s.odo, link := s.link } = s) (rest : v.link.rest = s.link.rest) :
    s.Leads (v.judged m) := by
  have frame := State.judged_frame m v
  have appr : v.appr = s.appr := (congrArg State.appr odo :)
  refine ⟨?_, ?_, ?_⟩
  · exact (congrArg (fun u : State => { u with
      odo := s.odo, appr := s.appr, link := s.link, doorLine := s.doorLine }) frame :).trans
      (congrArg (fun u : State => { u with appr := s.appr, doorLine := s.doorLine }) odo :)
  · exact (congrArg (fun u : State => { u.appr with
      standstill := s.appr.standstill, departureRun := s.appr.departureRun }) frame :).trans
      (congrArg (fun a : Approach => { a with
        standstill := s.appr.standstill, departureRun := s.appr.departureRun }) appr :)
  · exact (State.judged_raises m v).rest.trans rest

/-- The parts that an evaluation at the end of an event leaves. -/
theorem State.Leads.untouched (h : s.Leads b) (before : State) :
    let t := (b.evaluate none).settle before
    t.odo = b.odo ∧ t.appr.standstill = b.appr.standstill ∧ b.Raises evaluationCodes t
    ∧ t.plan.stops = s.plan.stops ∧ t.clock = s.clock ∧ t.store = s.store ∧ t.bright = s.bright := by
  intro t
  obtain ⟨odo, stops, standstill, -, raises, rest⟩ := b.evaluate_leaves before none
  exact ⟨odo, standstill, raises, stops.trans (congrArg (fun u : State => u.plan.stops) h.frame :),
    (congrArg State.clock rest :).trans (congrArg State.clock h.frame :),
    (congrArg State.store rest :).trans (congrArg State.store h.frame :),
    (congrArg State.bright rest :).trans (congrArg State.bright h.frame :)⟩

/-- An evaluation that ends a request (R63). -/
theorem State.Leads.request {p : Port} {k : Byte} {payload body : List Byte} {st : Status} {codes : List Nat}
    (h : (s.enter p k payload).Leads b) (raises : (s.enter p k payload).Raises codes b) (before : State) :
    let t := (b.evaluate none).settle before
    s.Evaluated b.appr.departureRun (t.answer p k st body)
    ∧ s.Answers p k payload st body (t.answer p k st body)
    ∧ s.RaisesOnly (codes ++ evaluationCodes) (t.answer p k st body) := by
  intro t
  have leads : s.Leads b :=
    ⟨(congrArg (fun x : State => { x with link := s.link }) h.frame :), h.appr,
      h.rest.trans (by cases p <;> rfl)⟩
  obtain ⟨-, -, -, -, raised, -⟩ := b.evaluate_leaves before none
  have whole : (s.enter p k payload).Raises (codes ++ evaluationCodes) t :=
    (raises.mono fun c hc => List.mem_append_left _ hc).trans (raised.mono fun c hc => List.mem_append_right _ hc)
  exact ⟨(leads.evaluated (b.evaluate_evaluated before)).answer p k st body, whole.answers, whole.answered⟩

end Event

/-! ### Motion Report (R51, R52) -/

/-- The Odometer with a reported speed stored (R52). -/
def Odometer.reporting (o : Odometer) (r : Nat) : Odometer :=
  { o with reported := min 4000 r, fresh := true, freshLeft := 10000 }

/-- The mode after a Motion Report (R51). -/
def Odometer.reportedMode (o : Odometer) : Mode :=
  if o.mode = .hold ∧ o.channel = .failed then .deadReckon else o.mode

theorem State.reportMotion_eq (r : Nat) (u : State) : u.reportMotion r
    = (({ u with odo := u.odo.reporting r }.judged u.odo.reportedMode).evaluate none).settle u :=
  congrArg (fun b : State => (b.evaluate none).settle u)
    (State.judged_ite (s := { u with odo := u.odo.reporting r }) (m := .deadReckon)
      (P := u.odo.mode = .hold ∧ u.odo.channel = .failed))

theorem standstillOf_reporting (o : Odometer) (r : Nat) (m : Mode) :
    standstillOf { o.reporting r with mode := m } = match m with
      | .wheel | .guarded => decide (10 ≤ o.zeroRun)
      | .deadReckon | .hold => decide (r = 0) := by
  have zero : (min 4000 r = 0) = (r = 0) := propext (by omega)
  cases m with
  | wheel => rfl
  | guarded => rfl
  | deadReckon =>
    show decide (min 4000 r = 0) = _
    simp only [zero]
  | hold =>
    show (decide (min 4000 r = 0) || !true) = _
    simp only [zero, Bool.not_true, Bool.or_false]

theorem motionReport_spec {s : State} {r : Nat} (short : r < 65536) (takes : s.Takes .operations 0x22 (be 2 r)) :
    ∃ t, exec (.motionReport .operations (be 2 r)) s = .next t
      ∧ t.odo = { s.odo with
          reported := min 4000 r
          fresh := true
          freshLeft := 10000
          mode := if s.odo.mode = .hold ∧ s.odo.channel = .failed then .deadReckon else s.odo.mode }
      ∧ t.appr.standstill = (match t.odo.mode with
          | .wheel | .guarded => decide (10 ≤ s.odo.zeroRun)
          | .deadReckon | .hold => decide (r = 0))
      ∧ (t.odo.mode ≠ s.odo.mode → .mode .deadReckon ∈ t.link.operations.events)
      ∧ s.Evaluated s.appr.departureRun t
      ∧ s.Answers .operations 0x22 (be 2 r) .done (be 1 t.odo.mode.code ++ flag t.appr.standstill) t
      ∧ t.plan.stops = s.plan.stops ∧ t.clock = s.clock ∧ t.store = s.store ∧ t.bright = s.bright := by
  let u := s.enter .operations 0x22 (be 2 r)
  let v : State := { u with odo := u.odo.reporting r }
  let b := v.judged u.odo.reportedMode
  have frame : { b with link := u.link } = _ := State.judged_frame u.odo.reportedMode v
  have raises : u.Raises [0x02] b := (State.Raises.of_link rfl : u.Raises [0x02] v).trans (v.judged_raises _)
  have leads : u.Leads b := State.leads_judged (s := u) (v := v) rfl rfl
  have odoB : b.odo = { s.odo.reporting r with mode := s.odo.reportedMode } := (congrArg State.odo frame :)
  have runB : b.appr.departureRun = s.appr.departureRun := (congrArg (fun x : State => x.appr.departureRun) frame :)
  have standB : b.appr.standstill = _ := (congrArg (fun x : State => x.appr.standstill) frame :)
  have event : s.odo.reportedMode ≠ s.odo.mode → .mode s.odo.reportedMode ∈ b.link.operations.events :=
    State.judged_event (s := v)
  have read : u16 (be 2 r) 0 = r := u16_be_two_end short
  have block : motionReportBlock (be 2 r) u = done (u.reportMotion r)
      (be 1 (u.reportMotion r).odo.mode.code ++ flag (u.reportMotion r).appr.standstill) := by
    rw [motionReportBlock, read]
    exact if_neg (not_not_intro rfl)
  have t_eq : u.reportMotion r = (b.evaluate none).settle u := State.reportMotion_eq r u
  obtain ⟨odo, standstill, raised, stops, clock, store, bright⟩ := leads.untouched u
  obtain ⟨evaluated, answers, -⟩ := leads.request (st := .done)
    (body := be 1 (u.reportMotion r).odo.mode.code ++ flag (u.reportMotion r).appr.standstill) raises u
  rw [runB] at evaluated
  rw [← t_eq] at odo standstill raised stops clock store bright evaluated answers
  have mode : (u.reportMotion r).odo.mode = s.odo.reportedMode := by rw [odo, odoB]
  refine ⟨_, congrArg Host.Outcome.next (serve_reply takes.1 takes.2 block), odo.trans odoB, ?_, fun differs => ?_,
    evaluated, answers, stops, clock, store, bright⟩
  · show (u.reportMotion r).appr.standstill = _
    rw [standstill, standB]
    refine (standstillOf_reporting s.odo r s.odo.reportedMode).trans ?_
    exact congrArg (fun m : Mode => match m with
      | .wheel | .guarded => decide (10 ≤ s.odo.zeroRun)
      | .deadReckon | .hold => decide (r = 0)) mode.symm
  · have differs : s.odo.reportedMode ≠ s.odo.mode := mode ▸ differs
    have given : s.odo.reportedMode = .deadReckon := by
      unfold Odometer.reportedMode at differs ⊢
      split
      · rfl
      next plain => rw [if_neg plain] at differs; exact absurd rfl differs
    have pending := raised.operations rfl (event differs)
    rw [given] at pending
    exact (State.answer_events (u.reportMotion r) .operations .operations _ _ _).symm ▸ pending

/-! ### The reported speed goes stale (R53) -/

/-- Settles O27: a report gives the mode, standstill and an evaluation; a stale speed gives no evaluation. -/
theorem reportedSpeedFreshAndStale : Obligations.ReportedSpeedFreshAndStale := by
  refine ⟨fun s r short takes => motionReport_spec short takes, fun s powered awake fresh => ?_⟩
  let v : State := { s with odo := { s.odo with fresh := false, freshLeft := 0 } }
  let m : Mode := if s.odo.mode = .deadReckon then .hold else s.odo.mode
  let t := v.judged m
  have frame : { t with link := s.link } = _ := State.judged_frame m v
  have run : exec .speedStale s = .next t := by
    refine (live_next powered).trans (congrArg Host.Outcome.next ?_)
    have stale : s.speedStale = (if v.odo.mode = .deadReckon then v.setMode .hold else v).judgeStandstill := if_pos awake
    rw [if_pos fresh, stale]
    exact State.judged_ite
  have odo : t.odo = { s.odo with fresh := false, freshLeft := 0, mode := m } := (congrArg State.odo frame :)
  have appr : t.appr = { s.appr with standstill := standstillOf { s.odo with fresh := false, freshLeft := 0, mode := m } } :=
    (congrArg State.appr frame :)
  have raises : s.Raises [0x02] t := (State.Raises.of_link rfl : s.Raises [0x02] v).trans (v.judged_raises m)
  refine ⟨t, run, odo, ?_, fun dead => ?_, fun other => ?_, raises.only, ?_⟩
  · have mode : t.odo.mode = m := congrArg Odometer.mode odo
    have never : m ≠ .deadReckon := by
      by_cases dead : s.odo.mode = .deadReckon
      · exact fun same => nomatch (if_pos dead : m = .hold).symm.trans same
      · exact fun same => dead ((if_neg dead : m = s.odo.mode).symm.trans same)
    rw [mode, appr]
    clear_value m
    cases m with
    | hold => exact congrArg (fun b : Bool => { s.appr with standstill := b }) (Bool.or_true _)
    | deadReckon => exact absurd rfl never
    | _ => rfl
  · have given : m = .hold := if_pos dead
    have event : .mode m ∈ t.link.operations.events :=
      State.judged_event (s := v) (by rw [given]; exact fun same => nomatch same.trans dead)
    exact given ▸ event
  · have same : m = s.odo.mode := if_neg other
    have link : t.link = v.link := by
      show (v.setMode m).link = v.link
      rw [State.setMode_link, if_pos same.symm]
    exact link
  · exact (congrArg (fun x : State => { x with odo := s.odo, appr := s.appr }) frame :)

end Sys2Proof.Machine
end

section
/-!
Proof of the statement about Position Fix (R55, R56).
-/
namespace Sys2Proof.Machine

theorem State.setMode_judged {s : State} {m : Mode} (differs : s.odo.mode ≠ m) : s.setMode m = s.judged m := by
  unfold State.judged State.setMode
  rw [if_neg differs]
  rfl

/-- The Odometer after an accepted fix (R51, R56). -/
def Odometer.fixed (o : Odometer) (position : Nat) : Odometer :=
  { o with
    position := position
    remainder := 0
    sinceFix := 0
    mode := if o.mode = .hold ∧ o.channel = .healthy then .wheel else o.mode
    exemption := o.exemption || decide (o.mode = .hold ∧ o.channel = .healthy) }

/-- S set, with FIX_JUMP for a jump beyond the tolerance (R56). -/
def State.jumped (f a : Nat) (s : State) : State :=
  let s1 := { s with odo := { s.odo with position := s.fixedPosition f a, remainder := 0, sinceFix := 0 } }
  if (s.tolerance : Int) < (s.jump f a).natAbs then s1.raise (.fixJump (s.jump f a)) else s1

/-- The mode given by the fix (R51). -/
def State.readmitted (s : State) : State :=
  if s.odo.mode = .hold ∧ s.odo.channel = .healthy then
    { s with odo := { s.odo with exemption := true } }.setMode .wheel
  else s

theorem State.applyFix_eq (f a : Nat) (s : State) :
    s.applyFix f a = ((s.jumped f a).readmitted.evaluate none).settle s := rfl

section Fix
variable (f a : Nat) (s : State)

theorem State.jumped_facts :
    { s.jumped f a with link := s.link } = { s with odo := { s.odo with
      position := s.fixedPosition f a, remainder := 0, sinceFix := 0 } }
    ∧ s.Raises [0x03] (s.jumped f a)
    ∧ ((s.tolerance : Int) < (s.jump f a).natAbs → .fixJump (s.jump f a) ∈ (s.jumped f a).link.operations.events)
    ∧ (¬ (s.tolerance : Int) < (s.jump f a).natAbs → (s.jumped f a).link = s.link) := by
  let v : State := { s with odo := { s.odo with position := s.fixedPosition f a, remainder := 0, sinceFix := 0 } }
  unfold State.jumped
  dsimp only
  split
  next beyond =>
    exact ⟨rfl, (State.Raises.of_link rfl : s.Raises [0x03] v).trans (v.raises_raise rfl),
      fun _ => State.raise_mem_operations _ _ rfl, fun within => absurd beyond within⟩
  next within => exact ⟨rfl, .of_link rfl, fun beyond => absurd beyond within, fun _ => rfl⟩

theorem State.readmitted_facts :
    s.readmitted.odo = { s.odo with
      mode := if s.odo.mode = .hold ∧ s.odo.channel = .healthy then .wheel else s.odo.mode
      exemption := s.odo.exemption || decide (s.odo.mode = .hold ∧ s.odo.channel = .healthy) }
    ∧ { s.readmitted with odo := s.odo, appr := s.appr, link := s.link } = s
    ∧ { s.readmitted.appr with standstill := s.appr.standstill } = s.appr
    ∧ s.Raises [0x02] s.readmitted
    ∧ (s.readmitted.odo.mode ≠ s.odo.mode → .mode .wheel ∈ s.readmitted.link.operations.events) := by
  by_cases back : s.odo.mode = .hold ∧ s.odo.channel = .healthy
  · let v : State := { s with odo := { s.odo with exemption := true } }
    have shape : s.readmitted = v.judged .wheel :=
      (if_pos back).trans (State.setMode_judged (s := v) (by
        show s.odo.mode ≠ .wheel
        rw [back.1]
        nofun))
    have frame : { v.judged .wheel with link := v.link } = _ := State.judged_frame .wheel v
    rw [shape, if_pos back, decide_eq_true back, Bool.or_true]
    refine ⟨(congrArg State.odo frame :), ?_, ?_, (State.Raises.of_link rfl : s.Raises [0x02] v).trans (v.judged_raises _),
      fun differs => State.judged_event (s := v) fun same => differs ?_⟩
    · exact (congrArg (fun u : State => { u with odo := s.odo, appr := s.appr }) frame :)
    · exact (congrArg (fun u : State => { u.appr with standstill := s.appr.standstill }) frame :)
    · exact (congrArg (fun u : State => u.odo.mode) frame :).trans same
  · have shape : s.readmitted = s := if_neg back
    rw [shape, if_neg back, decide_eq_false back, Bool.or_false]
    exact ⟨rfl, rfl, rfl, .of_link rfl, absurd rfl⟩

end Fix

/-- Settles O28: the evaluation begins once S is set and the mode given. -/
theorem positionFixMovesS : Obligations.PositionFixMovesS := by
  intro s f age x y po hf hage running portion first last low high takes fixed jump tolerance
  let payload := be 4 f ++ be 2 age
  let u := s.enter .operations 0x23 payload
  let v := u.jumped f age
  let b := v.readmitted
  obtain ⟨frameV, raisesV, jumpV, withinV⟩ := State.jumped_facts f age u
  obtain ⟨odoB, frameB, apprB, raisesB, modeB⟩ := v.readmitted_facts
  have odoV : v.odo = _ := (congrArg State.odo frameV :)
  have apprV : v.appr = s.appr := (congrArg State.appr frameV :)
  have odo : b.odo = s.odo.fixed fixed := by
    rw [odoB, odoV]
    rfl
  have runB : b.appr.departureRun = s.appr.departureRun :=
    (congrArg Approach.departureRun apprB :).trans (congrArg Approach.departureRun apprV)
  have leads : u.Leads b := by
    refine ⟨?_, ?_, raisesB.rest.trans raisesV.rest⟩
    · exact (congrArg (fun w : State => { w with
        odo := u.odo, appr := u.appr, link := u.link, doorLine := u.doorLine }) frameB :).trans
        (congrArg (fun w : State => { w with odo := u.odo, appr := u.appr, doorLine := u.doorLine }) frameV :)
    · exact (congrArg (fun w : Approach => { w with
        standstill := u.appr.standstill, departureRun := u.appr.departureRun }) apprB :).trans
        (congrArg (fun w : Approach => { w with
          standstill := u.appr.standstill, departureRun := u.appr.departureRun }) apprV :)
  have readF : u32 payload 0 = f := u32_be_four f _ (by omega)
  have readAge : u16 payload 4 = age := (u16_skip (be_length 4 f) (be 2 age) 0).trans (u16_be_two_end hage)
  have online : u.onLine f = true := by
    have route : u.coachRoute = s.plan.route po := by
      have same : u.portion = some po := portion
      rw [State.coachRoute, same]
      rfl
    rw [State.onLine, route, first, last]
    exact Bool.and_eq_true_iff.mpr ⟨decide_eq_true low, decide_eq_true high⟩
  have block : positionFixBlock payload u = done (u.applyFix f age) (be 4 fixed ++ beInt 4 jump ++ be 4 tolerance
      ++ be 1 (u.applyFix f age).odo.mode.code) := by
    have form : payload.length = 6 ∧ u32 payload 0 ≤ 4000000 := ⟨rfl, readF ▸ hf⟩
    rw [positionFixBlock, if_neg (not_not_intro form), if_neg (show ¬ u.plan.state ≠ .running from not_not_intro running), readF, readAge,
      if_neg (not_not_intro online)]
    rfl
  obtain ⟨odoT, -, raised, stops, clock, store, bright⟩ := leads.untouched u
  have t_eq : u.applyFix f age = (b.evaluate none).settle u := State.applyFix_eq f age u
  obtain ⟨evaluated, answers, only⟩ := leads.request (st := .done) (body := be 4 fixed ++ beInt 4 jump
    ++ be 4 tolerance ++ be 1 (u.applyFix f age).odo.mode.code) ((raisesV.mono (by simp)).trans
      (raisesB.mono (by simp)) : u.Raises [0x02, 0x03] b) u
  rw [runB] at evaluated
  rw [← t_eq] at odoT raised stops clock store bright evaluated answers
  refine ⟨_, congrArg Host.Outcome.next (serve_reply takes.1 takes.2 block), odoT.trans odo, fun beyond => ?_,
    fun differs => ?_, evaluated, fun within => ?_, answers, stops, clock, store, bright⟩
  · have event := raised.operations rfl (raisesB.operations rfl (jumpV (Int.ofNat_lt.mpr beyond)))
    exact (State.answer_events (u.applyFix f age) .operations .operations _ _ _).symm ▸ event
  · have modeT : (u.applyFix f age).odo.mode = b.odo.mode := congrArg Odometer.mode odoT
    have modeV : v.odo.mode = s.odo.mode := (congrArg Odometer.mode odoV :)
    have event := raised.operations rfl (modeB (by rw [modeV, ← modeT]; exact differs))
    exact (State.answer_events (u.applyFix f age) .operations .operations _ _ _).symm ▸ event
  · have link : v.link = u.link := withinV fun beyond => absurd (Int.ofNat_lt.mp beyond) (Nat.not_lt.mpr within)
    obtain ⟨-, -, only⟩ := leads.request (st := .done) (body := be 4 fixed ++ beInt 4 jump
      ++ be 4 tolerance ++ be 1 (u.applyFix f age).odo.mode.code)
      ((State.Raises.of_link link).trans raisesB : u.Raises [0x02] b) u
    rw [← t_eq] at only
    exact only.mono (by simp [evaluationCodes])

end Sys2Proof.Machine
end

section
/-!
Proof of the statement about changes of the door release line (R63 to R66).
-/
namespace Sys2Proof.Machine

/-! ### A door activation for a C that has been left behind (R64) -/

/-- An activation for one stop counts no more once C lies beyond it. -/
theorem passes_behind {c n : Nat} {e : Evaluation} (beyond : ∀ d, e.st.appr.current = some d → c < d) :
    passes (some c) n e = passes none n e := by
  induction n generalizing e with
  | zero => rfl
  | succ n ih =>
    cases current : e.st.appr.current with
    | none =>
      have stops (act : Option Nat) : e.st.stageRow (e.st.appr.current.isSome && act == e.st.appr.current) = none := by
        unfold State.stageRow
        rw [current]
      rw [passes_stop (stops _), passes_stop (stops _)]
    | some d =>
      have after := beyond d current
      have other : (some c == some d) = false := beq_false_of_ne fun same => by
        rw [Option.some.inj same] at after
        exact lt_irrefl d after
      cases row : e.st.stageRow false with
      | none =>
        rw [passes_stop (by rw [current, other]; exact row), passes_stop (by rw [current]; exact row)]
      | some r =>
        have rest : passes (some c) n (e.apply d r) = passes none n (e.apply d r) := by
          refine ih fun d2 found => ?_
          unfold Evaluation.apply at found
          split at found
          · have departs := State.depart_departs d r.2 e.st
            have next : e.st.nextCall d = some d2 := (congrArg Approach.current departs.appr :).symm.trans found
            exact after.trans (of_decide_eq_true (List.find?_some (p := fun x => decide (d < x)) next))
          · have reaches := (State.reachStage_reaches d r.1 e.st).1
            exact beyond d2 (reaches.current.symm.trans found)
        rw [passes_row current (by rw [other]; exact row), passes_row current (act := none) (by exact row), rest]

/-- At AT_PLATFORM a door activation for C changes no evaluation (R64, R65). -/
theorem State.evaluate_at_platform {b : State} {c : Nat} (current : b.appr.current = some c) (stage : b.appr.stage = some .atPlatform) :
    b.evaluate (some c) = b.evaluate none := by
  have same : b.evaluated (some c) = b.evaluated none := by
    by_cases leaves : b.plan.lineAt c + 400 < b.odo.position ∨ b.appr.departureRun = 3
    · obtain ⟨n, fuel⟩ := b.passFuel_ge
      have row (act : Bool) : b.stageRow act = some (.departed, false) :=
        State.stageRow_leaves current stage act rfl leaves
      have behind : passes (some c) (n + 5) (b.evaluation.apply c (.departed, false))
          = passes none (n + 5) (b.evaluation.apply c (.departed, false)) := by
        refine passes_behind fun d found => ?_
        have departs := State.depart_departs c false b
        have next : b.nextCall c = some d := (congrArg Approach.current departs.appr :).symm.trans found
        exact of_decide_eq_true (List.find?_some (p := fun x => decide (c < x)) next)
      unfold State.evaluated
      rw [fuel, passes_row (e := b.evaluation) (n := n + 5) current (row _),
        passes_row (e := b.evaluation) (n := n + 5) current (row _), behind]
    · have near : b.odo.position ≤ b.plan.lineAt c + 400 := Nat.le_of_not_lt fun h => leaves (.inl h)
      have run : b.appr.departureRun ≠ 3 := fun h => leaves (.inr h)
      rw [State.evaluated_stays current stage near run, State.evaluated_stays current stage near run]
  have shape (act : Option Nat) : b.evaluate act = if b.evaluates then (b.evaluated act).conclude else b := rfl
  rw [shape, shape, same]

/-! ### The change recorded (R65) -/

section Noted
variable {s b t : State} {c : Nat} {st : Stage}

/-- The change of the line recorded. -/
def State.doorNoted (active : Bool) (s : State) : State :=
  { s with doorLine := active, appr := { s.appr with doorTaken := active } }

theorem State.noteActivation_facts (s : State) :
    { s.noteActivation with
      link := s.link
      appr := { s.noteActivation.appr with departureRun := s.appr.departureRun } } = s
    ∧ s.Raises [0x04] s.noteActivation := by
  unfold State.noteActivation
  split
  · split
    · split
      · exact ⟨rfl, State.raises_raise rfl s⟩
      · split
        · exact ⟨rfl, .of_link rfl⟩
        · exact ⟨rfl, .of_link rfl⟩
    · exact ⟨rfl, .of_link rfl⟩
  · exact ⟨rfl, .of_link rfl⟩

/-- Where no evaluation is made nothing is described (R63). -/
theorem State.evaluated_of_not_evaluates (h : ¬ s.evaluates = true) (run : Nat) (t : State) : s.Evaluated run t := by
  unfold State.Evaluated
  split
  next c st current _ =>
    intro running awake route
    exact absurd (State.evaluates_iff.mpr ⟨running, awake, by rw [current]; rfl, route⟩) h
  · trivial

/-- Without standstill no stage at AT_PLATFORM or later comes of the distance, time and speed (R64). -/
theorem State.stageEnd_moving (moving : b.appr.standstill = false) (below : st.code < 4) :
    (b.stageEnd c st).isBelow = true := by
  have away : b.arrivesAt c = false := by rw [State.arrivesAt, moving, Bool.false_and]
  have apart : st ≠ .atPlatform := fun same => by
    rw [same] at below
    exact absurd below (by decide)
  rw [State.stageEnd, if_neg apart, State.stageAfter_eq, away]
  simp only [Bool.false_eq_true, if_false]
  split_ifs <;> rfl

/-- What a change of the line leaves in every case (R63, R65). -/
theorem State.doorNoted_leaves {active : Bool} {act : Option Nat}
    (frame : { b with
      link := s.link, appr := { b.appr with departureRun := s.appr.departureRun } } = s.doorNoted active)
    (raises : s.Raises [0x04] b) :
    let t := (b.evaluate act).settle s
    t.doorLine = active ∧ t.appr.doorTaken = active
    ∧ t.odo = s.odo ∧ t.plan.stops = s.plan.stops ∧ t.clock = s.clock ∧ t.store = s.store
    ∧ t.bright = s.bright ∧ t.link.quiet = s.link.quiet := by
  intro t
  obtain ⟨odo, stops, -, door, raised, rest⟩ := b.evaluate_leaves s act
  refine ⟨?_, ?_, ?_, ?_, ?_, ?_, ?_, raised.quiet.trans raises.quiet⟩
  · exact (congrArg State.doorLine rest :).trans (congrArg State.doorLine frame :)
  · exact door.trans (congrArg (fun u : State => u.appr.doorTaken) frame :)
  · exact odo.trans (congrArg State.odo frame :)
  · exact stops.trans (congrArg (fun u : State => u.plan.stops) frame :)
  · exact (congrArg State.clock rest :).trans (congrArg State.clock frame :)
  · exact (congrArg State.store rest :).trans (congrArg State.store frame :)
  · exact (congrArg State.bright rest :).trans (congrArg State.bright frame :)

end Noted

/-! ### The cases of an activation (R65) -/

section Activation
variable {s : State} {c : Nat} {st : Stage}

theorem State.settle_doorNoted (active : Bool) (s : State) : (s.doorNoted active).settle s = s.doorNoted active := by
  exact (State.settle_eq_settleLevel (s := s.doorNoted active) (before := s) rfl rfl rfl).trans (if_pos rfl)

theorem State.doorChange_active (s : State) : s.doorChange true
    = ((s.doorNoted true).noteActivation.evaluate (s.doorNoted true).activationFor).settle s := rfl

theorem State.doorChange_inactive (s : State) : s.doorChange false = ((s.doorNoted false).evaluate none).settle s := rfl

variable {v : State}

theorem State.noteActivation_atPlatform (evaluates : v.evaluates = true) (stage : v.appr.stage = some .atPlatform) :
    v.noteActivation = { v with appr := { v.appr with departureRun := 0 } } ∧ v.activationFor = v.appr.current := by
  have scheduled : v.unscheduled = false := by
    rw [State.unscheduled, stage, decide_eq_false (by nofun), decide_eq_false (by nofun), Bool.or_false, Bool.and_false,
      Bool.false_and]
  refine ⟨?_, if_neg (Bool.eq_false_iff.mp scheduled)⟩
  unfold State.noteActivation
  rw [if_pos evaluates, stage]
  exact (if_neg (Bool.eq_false_iff.mp scheduled)).trans (if_pos rfl)

theorem State.noteActivation_opens (evaluates : v.evaluates = true) (stage : v.appr.stage = some st)
    (opens : st = .approach ∨ st = .berthing ∨ ((st = .cruise ∨ st = .announce) ∧ v.odo.mode = .hold)) :
    v.noteActivation = v ∧ v.activationFor = v.appr.current := by
  have scheduled : v.unscheduled = false := by
    rw [State.unscheduled, stage]
    rcases opens with rfl | rfl | ⟨-, hold⟩
    · simp
    · simp
    · simp [hold]
  have below : st ≠ .atPlatform := by
    rintro rfl
    rcases opens with same | same | ⟨same | same, -⟩ <;> nomatch same
  refine ⟨?_, if_neg (Bool.eq_false_iff.mp scheduled)⟩
  unfold State.noteActivation
  rw [if_pos evaluates, stage]
  exact (if_neg (Bool.eq_false_iff.mp scheduled)).trans (if_neg below)

theorem State.noteActivation_unscheduled (evaluates : v.evaluates = true) (stage : v.appr.stage = some st)
    (early : st = .cruise ∨ st = .announce) (moving : v.odo.mode ≠ .hold) :
    v.noteActivation = v.raise (.doorUnscheduled v.appr.current st) ∧ v.activationFor = none := by
  have unscheduled : v.unscheduled = true := by
    rw [State.unscheduled, evaluates, stage, decide_eq_true moving]
    rcases early with rfl | rfl <;> rfl
  refine ⟨?_, if_pos unscheduled⟩
  unfold State.noteActivation
  rw [if_pos evaluates, stage]
  exact if_pos unscheduled

end Activation

/-- Settles O29: an activation by the stage of C when the evaluation begins. -/
theorem doorLineChanges : Obligations.DoorLineChanges := by
  intro s active powered awake differs
  let v := s.doorNoted active
  have exec_ : exec (.doorReleaseChange active) s = .next (s.doorChange active) := by
    have shape : s.doorRelease active = s.doorChange active := by
      unfold State.doorRelease
      rw [if_neg (not_not_intro powered), if_neg differs, if_pos awake]
    exact congrArg Host.Outcome.next shape
  have evaluates_ : v.evaluates = s.evaluates := rfl
  cases active with
  | false =>
    have leads : State.Leads { s with appr := { s.appr with doorTaken := false } } v := ⟨rfl, rfl, rfl⟩
    obtain ⟨line, door, odo, stops, clock, store, bright, quiet⟩ :=
      State.doorNoted_leaves (s := s) (b := v) (act := none) rfl (.of_link rfl)
    refine ⟨_, exec_, line, door, odo, stops, clock, store, bright, quiet, fun still => ?_, fun _ => ?_, nofun⟩
    · have none_ : ¬ v.evaluates = true := fun h => still (State.evaluates_iff.mp h).1
      have same : v.evaluate none = v := if_neg none_
      rw [State.doorChange_inactive]
      exact (congrArg (fun u : State => u.settle s) same).trans (s.settle_doorNoted false)
    · exact leads.evaluated (v.evaluate_evaluated s)
  | true =>
    let b := v.noteActivation
    obtain ⟨frame, raises⟩ := v.noteActivation_facts
    have raises : s.Raises [0x04] b := (State.Raises.of_link rfl : s.Raises [0x04] v).trans raises
    obtain ⟨line, door, odo, stops, clock, store, bright, quiet⟩ :=
      State.doorNoted_leaves (s := s) (b := b) (act := v.activationFor) frame raises
    have shape : s.doorChange true = (b.evaluate v.activationFor).settle s := s.doorChange_active
    rw [shape] at exec_
    have rests : ¬ s.evaluates = true → (b.evaluate v.activationFor).settle s = v := by
      intro none_
      have same : b = v := if_neg none_
      have stays : b.evaluate v.activationFor = v := by
        rw [same]
        exact if_neg none_
      rw [stays]
      exact s.settle_doorNoted true
    refine ⟨_, exec_, line, door, odo, stops, clock, store, bright, quiet, fun still => ?_, fun here => ?_,
      fun running route _ c st current stage => ⟨fun opens near => ?_, fun early moving => ?_⟩⟩
    · exact rests fun h => still (State.evaluates_iff.mp h).1
    · have stage : s.appr.stage = some .atPlatform := here.resolve_left nofun
      by_cases evaluates : s.evaluates = true
      · obtain ⟨shape, act⟩ := State.noteActivation_atPlatform (v := v) evaluates stage
        obtain ⟨-, -, some_, -⟩ := State.evaluates_iff.mp evaluates
        obtain ⟨c, current⟩ := Option.isSome_iff_exists.mp some_
        have act : v.activationFor = some c := act.trans current
        have shape : b = { v with appr := { v.appr with departureRun := 0 } } := shape
        have leads : State.Leads { s with appr := { s.appr with doorTaken := true } } b := by
          rw [shape]
          exact ⟨rfl, rfl, rfl⟩
        have same : b.evaluate (some c) = b.evaluate none :=
          State.evaluate_at_platform (by rw [shape]; exact current) (by rw [shape]; exact stage)
        have run : b.appr.departureRun = 0 := by rw [shape]
        have evaluated := leads.evaluated (b.evaluate_evaluated s)
        rw [run] at evaluated
        rw [act, same]
        exact evaluated
      · exact State.evaluated_of_not_evaluates (s := { s with appr := { s.appr with doorTaken := true } }) evaluates _ _
    · have evaluates : v.evaluates = true := State.evaluates_iff.mpr ⟨running, awake, by
        show s.appr.current.isSome = true
        rw [current]
        rfl, route⟩
      obtain ⟨shape, act⟩ := State.noteActivation_opens (v := v) evaluates stage opens
      have act : v.activationFor = some c := act.trans current
      have shape : b = v := shape
      have h := State.evaluate_concludes evaluates (some c) s
      have rows := v.evaluated_from (some c)
      obtain ⟨n, fuel⟩ := v.passFuel_ge
      have arrived : (v.evaluated (some c)).At v c .atPlatform := by
        unfold State.evaluated
        rw [fuel]
        exact passes_door (e := v.evaluation) (n := n + 4) current stage near running opens
      rw [act, shape]
      have came := State.cameTo_of_at (b := v) running route current arrived rows h
      have shown := State.stageShown_of_from rows h
      exact ⟨came, shown⟩
    · have evaluates : v.evaluates = true := State.evaluates_iff.mpr ⟨running, awake, by
        show s.appr.current.isSome = true
        rw [current]
        rfl, route⟩
      obtain ⟨shape, act⟩ := State.noteActivation_unscheduled (v := v) evaluates stage early moving
      have shape : b = v.raise (.doorUnscheduled (some c) st) :=
        shape.trans (congrArg (fun o => v.raise (.doorUnscheduled o st)) current)
      have event : .doorUnscheduled (some c) st ∈ b.link.operations.events := by
        rw [shape]
        exact State.raise_mem_operations v _ rfl
      rw [act]
      obtain ⟨-, -, -, -, raised, -⟩ := b.evaluate_leaves s none
      refine ⟨raised.operations rfl event, fun rolling near => ?_⟩
      have evaluatesB : b.evaluates = true := by
        rw [shape]
        exact evaluates
      have h := State.evaluate_concludes evaluatesB none s
      have below : st.code < 4 := by rcases early with rfl | rfl <;> decide
      have currentB : b.appr.current = some c := by
        rw [shape]
        exact current
      have stageB : b.appr.stage = some st := by
        rw [shape]
        exact stage
      obtain ⟨stays, moves⟩ := State.evaluated_near (b := b) (act := none) (by rw [shape]; exact running) rfl currentB
        stageB (by rw [shape]; exact near) below
      by_cases same : b.stageEnd c st = st
      · rw [stays same] at h
        refine ⟨h.current.trans currentB, ?_⟩
        rw [h.stage.trans stageB]
        exact Stage.isBelow_iff.mpr below
      · obtain ⟨reaches, -, -⟩ := moves same
        refine ⟨h.current.trans (reaches.current.trans currentB), ?_⟩
        rw [h.stage.trans reaches.stage]
        exact State.stageEnd_moving (by rw [shape]; exact rolling) below

end Sys2Proof.Machine
end

section
/-!
Proof of the statement about the end of an odometer window (R43 to R51, R54).
-/
namespace Sys2Proof.Machine

/-! ### The Odometer's work, mode by mode (R44 to R51) -/

/-- The Odometer at the end of a window, in the order of R43. -/
def Odometer.windowed (o : Odometer) : Odometer :=
  let x := o.countZero.transition
  ({ x.2 with exemption := false, mode := x.1 } : Odometer).accumulate.keepSpeed

/-- The Odometer with a window's travel and speed kept and the count begun again (R43, R45, R46, R54). -/
def Odometer.closed (o : Odometer) (increment v : Nat) : Odometer :=
  { o with
    position := min 4000000 (o.position + (o.remainder + increment) / 1000000)
    remainder :=
      if 4000000 < o.position + (o.remainder + increment) / 1000000 then 0
      else (o.remainder + increment) % 1000000
    sinceFix := min 4000000 (o.sinceFix
      + (min 4000000 (o.position + (o.remainder + increment) / 1000000) - o.position))
    speed := v
    prevSpeed := v
    zeroRun := if o.count = 0 then min 4095 (o.zeroRun + 1) else 0
    count := 0
    windowMs := 0
    exemption := false }

section Modes
variable {o : Odometer}

theorem absDiff_gt {x y d : Nat} : d < absDiff x y ↔ x + d < y ∨ y + d < x := by
  unfold absDiff
  omega

theorem absDiff_le {x y d : Nat} : absDiff x y ≤ d ↔ x ≤ y + d ∧ y ≤ x + d := by
  unfold absDiff
  omega

/-- A window is suspect by its count, or by the change of speed without the entry exemption (R44). -/
theorem Odometer.suspect_iff : o.suspect = true ↔ o.count = 4095 ∨ (o.exemption = false
    ∧ (o.count * o.travelPerPulse / 200 + 800 < o.prevSpeed ∨ o.prevSpeed + 800 < o.count * o.travelPerPulse / 200)) := by
  unfold Odometer.suspect
  rw [Bool.or_eq_true, decide_eq_true_eq, Bool.and_eq_true, Bool.not_eq_true', decide_eq_true_eq, absDiff_gt]
  rfl

theorem Odometer.agrees_iff : o.agrees = true ↔ o.count * o.travelPerPulse / 200 ≤ o.reported * 1000 / 36
      + (o.reported * 1000 / 36 / 10 + 1000)
    ∧ o.reported * 1000 / 36 ≤ o.count * o.travelPerPulse / 200 + (o.reported * 1000 / 36 / 10 + 1000) := by
  unfold Odometer.agrees
  rw [decide_eq_true_eq, absDiff_le]
  rfl

/-- The failure, disagreement and agreement runs with the window counted in (R48, R50). -/
def Odometer.failures (o : Odometer) : Nat :=
  if o.count = 0 ∧ o.fresh = true ∧ 50 ≤ o.reported then o.failureRun + 1 else 0

def Odometer.disagreements (o : Odometer) : Nat :=
  if o.fresh = true ∧ ¬ o.agrees = true then o.disagreementRun + 1 else 0

def Odometer.agreements (o : Odometer) : Nat :=
  if 200 ≤ o.reported ∧ o.count < 4095 ∧ o.agrees = true ∧ (o.mode = .hold → o.fresh = true) then o.agreementRun + 1
  else 0

theorem Odometer.windowed_of {m : Mode} {x : Odometer} (given : o.countZero.transition = (m, x)) :
    o.windowed = ({ x with exemption := false, mode := m } : Odometer).accumulate.keepSpeed := by
  unfold Odometer.windowed
  rw [given]

theorem Odometer.transition_wheel (wheel : o.mode = .wheel) : o.countZero.transition = o.countZero.endWheel := by
  have mode : o.countZero.mode = .wheel := wheel
  unfold Odometer.transition
  rw [mode]

theorem Odometer.transition_guarded (guarded : o.mode = .guarded) : o.countZero.transition = o.countZero.endGuarded := by
  have mode : o.countZero.mode = .guarded := guarded
  unfold Odometer.transition
  rw [mode]

theorem Odometer.transition_untrusted (untrusted : o.mode = .deadReckon ∨ o.mode = .hold) :
    o.countZero.transition = o.countZero.endUntrusted := by
  have mode : o.countZero.mode = o.mode := rfl
  unfold Odometer.transition
  rw [mode]
  rcases untrusted with m | m <;> rw [m]

theorem Odometer.windowed_wheel (wheel : o.mode = .wheel) (sound : ¬ o.suspect = true) (failures : o.failures < 15)
    (disagreements : o.disagreements < 25) :
    o.windowed = { o.closed (o.count * o.travelPerPulse) (o.count * o.travelPerPulse / 200) with
      failureRun := o.failures, disagreementRun := o.disagreements } := by
  have given : o.countZero.transition = (.wheel, { o.countZero with
      failureRun := o.failures, disagreementRun := o.disagreements }) := by
    rw [Odometer.transition_wheel wheel]
    refine (if_neg sound).trans (if_neg ?_)
    show ¬ (15 ≤ o.failures ∨ 25 ≤ o.disagreements)
    omega
  rw [Odometer.windowed_of given]
  obtain ⟨⟩ := o
  subst wheel
  rfl

theorem Odometer.windowed_wheel_fails (wheel : o.mode = .wheel) (sound : ¬ o.suspect = true)
    (fails : 15 ≤ o.failures ∨ 25 ≤ o.disagreements) :
    o.windowed = { o.closed (o.reported * 1000 / 36 * 200) (o.reported * 1000 / 36) with
      mode := .deadReckon, channel := .failed, suspectRun := 0, failureRun := 0, disagreementRun := 0
      agreementRun := 0 } := by
  have given : o.countZero.transition = (.deadReckon, { o.countZero.clearRuns with channel := .failed }) := by
    rw [Odometer.transition_wheel wheel]
    exact (if_neg sound).trans (if_pos fails)
  rw [Odometer.windowed_of given]
  rfl

theorem Odometer.windowed_wheel_suspect (wheel : o.mode = .wheel) (suspect : o.suspect = true) :
    o.windowed = { o.closed (o.prevSpeed * 200) o.prevSpeed with
      mode := .guarded, suspectRun := 1, failureRun := 0, disagreementRun := 0 } := by
  have given : o.countZero.transition
      = (.guarded, { o.countZero with suspectRun := 1, failureRun := 0, disagreementRun := 0 }) := by
    rw [Odometer.transition_wheel wheel]
    exact if_pos suspect
  rw [Odometer.windowed_of given]
  rfl

theorem Odometer.windowed_guarded (guarded : o.mode = .guarded) (sound : ¬ o.suspect = true) :
    o.windowed = { o.closed (o.count * o.travelPerPulse) (o.count * o.travelPerPulse / 200) with
      mode := .wheel, suspectRun := 0 } := by
  have given : o.countZero.transition = (.wheel, { o.countZero with suspectRun := 0 }) := by
    rw [Odometer.transition_guarded guarded]
    exact if_pos sound
  rw [Odometer.windowed_of given]
  rfl

theorem Odometer.windowed_guarded_suspect (guarded : o.mode = .guarded) (suspect : o.suspect = true)
    (few : o.suspectRun < 9) :
    o.windowed = { o.closed (o.prevSpeed * 200) o.prevSpeed with suspectRun := o.suspectRun + 1 } := by
  have given : o.countZero.transition = (.guarded, { o.countZero with suspectRun := o.suspectRun + 1 }) := by
    rw [Odometer.transition_guarded guarded]
    refine (if_neg (not_not_intro suspect)).trans (if_neg ?_)
    show ¬ 10 ≤ o.suspectRun + 1
    omega
  rw [Odometer.windowed_of given]
  obtain ⟨⟩ := o
  subst guarded
  rfl

theorem Odometer.windowed_guarded_fails (guarded : o.mode = .guarded) (suspect : o.suspect = true)
    (many : 9 ≤ o.suspectRun) :
    o.windowed = { o.closed (if o.fresh then o.reported * 1000 / 36 * 200 else 0)
        (if o.fresh then o.reported * 1000 / 36 else 0) with
      mode := if o.fresh then .deadReckon else .hold
      channel := .failed, suspectRun := 0, failureRun := 0, disagreementRun := 0, agreementRun := 0 } := by
  have given : o.countZero.transition
      = (if o.fresh then .deadReckon else .hold, { o.countZero.clearRuns with channel := .failed }) := by
    rw [Odometer.transition_guarded guarded]
    refine (if_neg (not_not_intro suspect)).trans (if_pos ?_)
    show 10 ≤ o.suspectRun + 1
    omega
  rw [Odometer.windowed_of given]
  cases o.fresh <;> rfl

theorem Odometer.windowed_readmitted (untrusted : o.mode = .deadReckon ∨ o.mode = .hold) (many : 50 ≤ o.agreements) :
    o.windowed = { o.closed (o.count * o.travelPerPulse) (o.count * o.travelPerPulse / 200) with
      mode := .wheel, channel := .healthy, suspectRun := 0, failureRun := 0, disagreementRun := 0
      agreementRun := 0 } := by
  have given : o.countZero.transition = (.wheel, { o.countZero.clearRuns with channel := .healthy }) := by
    rw [Odometer.transition_untrusted untrusted]
    exact if_pos many
  rw [Odometer.windowed_of given]
  rfl

theorem Odometer.windowed_untrusted (untrusted : o.mode = .deadReckon ∨ o.mode = .hold) (few : o.agreements < 50) :
    o.windowed = ({ o.countZero with agreementRun := o.agreements, exemption := false } : Odometer).accumulate.keepSpeed := by
  have given : o.countZero.transition = (o.mode, { o.countZero with agreementRun := o.agreements }) := by
    rw [Odometer.transition_untrusted untrusted]
    exact if_neg (Nat.not_le.mpr few)
  rw [Odometer.windowed_of given]
  rfl

theorem Odometer.windowed_deadReckon (dead : o.mode = .deadReckon) (few : o.agreements < 50) :
    o.windowed = { o.closed (o.reported * 1000 / 36 * 200) (o.reported * 1000 / 36) with
      agreementRun := o.agreements } := by
  rw [Odometer.windowed_untrusted (.inl dead) few]
  obtain ⟨⟩ := o
  subst dead
  rfl

theorem Odometer.windowed_hold (hold : o.mode = .hold) (few : o.agreements < 50) :
    o.windowed = { o.closed 0 0 with agreementRun := o.agreements } := by
  rw [Odometer.windowed_untrusted (.inr hold) few]
  obtain ⟨⟩ := o
  subst hold
  rfl

end Modes

/-! ### The window's end (R43, R66) -/

/-- The transitions name the mode to be given, and leave the one in force (R48 to R50). -/
theorem Odometer.transition_mode (o : Odometer) : o.transition.2.mode = o.mode := by
  have untrusted : o.endUntrusted.2.mode = o.mode := by
    unfold Odometer.endUntrusted
    extract_lets run
    split <;> rfl
  unfold Odometer.transition
  split
  · unfold Odometer.endWheel
    extract_lets failure disagreement
    split
    · rfl
    · split <;> rfl
  · unfold Odometer.endGuarded
    split
    · rfl
    · split <;> rfl
  · exact untrusted
  · exact untrusted

section Window
variable (s : State)

theorem State.computeWindow_facts :
    { s.computeWindow with link := s.link } = { s with
      odo := s.odo.windowed, appr := { s.appr with standstill := standstillOf s.odo.windowed } }
    ∧ s.Raises [0x02] s.computeWindow
    ∧ (s.odo.windowed.mode ≠ s.odo.mode → .mode s.odo.windowed.mode ∈ s.computeWindow.link.operations.events)
    ∧ (s.odo.windowed.mode = s.odo.mode → s.computeWindow.link = s.link) := by
  let x := s.odo.countZero.transition
  let v : State := { s with odo := { x.2 with exemption := false } }
  have shape : s.computeWindow = State.judgeStandstill { v.setMode x.1 with
      odo := (v.setMode x.1).odo.accumulate.keepSpeed } := rfl
  have odo : (v.setMode x.1).odo = { v.odo with mode := x.1 } := State.setMode_odo x.1 v
  have frame := State.setMode_frame x.1 v
  have closed : (v.setMode x.1).odo.accumulate.keepSpeed = s.odo.windowed := by rw [odo]; rfl
  have mode : x.1 = s.odo.windowed.mode := rfl
  have before : v.odo.mode = s.odo.mode := Odometer.transition_mode s.odo.countZero
  rw [shape, closed]
  refine ⟨?_, ?_, fun differs => ?_, fun same => ?_⟩
  · exact (congrArg (fun u : State => { u with
      odo := s.odo.windowed, appr := { u.appr with standstill := standstillOf s.odo.windowed } }) frame :)
  · exact ((State.Raises.of_link rfl : s.Raises [0x02] v).trans (v.raises_setMode x.1)).trans (.of_link rfl)
  · show _ ∈ (v.setMode x.1).link.operations.events
    rw [State.setMode_link, if_neg fun same => differs (mode.symm.trans (same.symm.trans before))]
    exact State.raise_mem_operations v _ rfl
  · show (v.setMode x.1).link = s.link
    rw [State.setMode_link, if_pos (before.trans (same.symm.trans mode.symm))]

theorem State.countDeparture_facts (run : Nat) (evaluates : s.evaluates = true)
    (run_ : (if s.appr.stage ≠ some .atPlatform then s.appr.departureRun
      else if s.appr.doorTaken = false ∧ 1389 < s.odo.speed then min 3 (s.appr.departureRun + 1) else 0) = run) :
    s.countDeparture = { s with appr := { s.appr with departureRun := run } } := by
  subst run_
  unfold State.countDeparture
  by_cases here : s.appr.stage = some .atPlatform
  · rw [evaluates, decide_eq_true here, Bool.true_and, if_pos rfl, if_neg (not_not_intro here)]
    simp only [Bool.not_eq_true]
  · rw [decide_eq_false here, Bool.and_false, if_pos here]
    rfl

theorem State.countDeparture_idle (none_ : ¬ s.evaluates = true) : s.countDeparture = s := by
  unfold State.countDeparture
  rw [Bool.eq_false_iff.mpr none_, Bool.false_and]
  rfl

end Window
end Sys2Proof.Machine
end

section
/-!
Proof of the statement about the end of an odometer window, whole (R43 to R54, R61 to R68).
-/
namespace Sys2Proof.Machine

theorem standstillOf_eq (o : Odometer) : standstillOf o = match o.mode with
    | .wheel | .guarded => decide (10 ≤ o.zeroRun)
    | .deadReckon => decide (o.reported = 0)
    | .hold => decide (o.reported = 0) || !o.fresh := by
  unfold standstillOf
  cases o.mode <;> rfl

/-- Settles O26: the Odometer's work mode by mode, then the departure run and the evaluation. -/
theorem windowEnds : Obligations.WindowEnds := by
  intro s powered awake close n vw vr suspect agree failure disagreement agreement
  let w := s.computeWindow
  let b := w.countDeparture
  let t := (b.evaluate none).settle s
  obtain ⟨frame, raises, event, still⟩ := s.computeWindow_facts
  have run : exec .odometerWindowEnd s = .next t :=
    (live_next powered).trans (congrArg Host.Outcome.next (if_pos awake))
  have odoW : w.odo = s.odo.windowed := (congrArg State.odo frame :)
  have counted : ∃ k, b = { w with appr := { w.appr with departureRun := k } } ∧ (w.evaluates = true →
      k = if s.appr.stage ≠ some .atPlatform then s.appr.departureRun
        else if s.appr.doorTaken = false ∧ 1389 < w.odo.speed then min 3 (s.appr.departureRun + 1) else 0) := by
    by_cases evaluates : w.evaluates = true
    · have apprW : w.appr = { s.appr with standstill := standstillOf s.odo.windowed } := (congrArg State.appr frame :)
      refine ⟨_, w.countDeparture_facts _ evaluates rfl, fun _ => ?_⟩
      rw [apprW]
    · exact ⟨w.appr.departureRun, w.countDeparture_idle evaluates, fun h => absurd h evaluates⟩
  obtain ⟨k, b_eq, k_eq⟩ := counted
  have leads : s.Leads b := by
    rw [b_eq]
    refine ⟨?_, ?_, raises.rest⟩
    · exact (congrArg (fun u : State => { u with odo := s.odo, appr := s.appr, doorLine := s.doorLine }) frame :)
    · exact (congrArg (fun u : State => { u.appr with
        standstill := s.appr.standstill, departureRun := s.appr.departureRun }) frame :)
  have odoB : b.odo = s.odo.windowed := by
    rw [b_eq]
    exact odoW
  have linkB : b.link = w.link := by rw [b_eq]
  obtain ⟨odo, standstill, raised, stops, clock, store, bright⟩ := leads.untouched s
  change t.odo = b.odo at odo
  have odoT : t.odo = s.odo.windowed := odo.trans odoB
  have suspect_ : s.odo.suspect = true ↔ suspect := Odometer.suspect_iff
  have agree_ : s.odo.agrees = true ↔ agree := Odometer.agrees_iff
  have disagreement_ : s.odo.disagreements = disagreement :=
    if_congr (and_congr Iff.rfl (not_congr agree_)) rfl rfl
  have agreement_ : s.odo.agreements = agreement :=
    if_congr (and_congr Iff.rfl (and_congr Iff.rfl (and_congr agree_ Iff.rfl))) rfl rfl
  have failure_ : s.odo.failures = failure := rfl
  rw [← suspect_, ← disagreement_, ← agreement_, ← failure_]
  refine ⟨t, run, fun wheel sound failures disagreements => ?_, fun wheel sound fails => ?_, fun wheel suspect => ?_,
    fun guarded sound => ?_, fun guarded suspect few => ?_, fun guarded suspect many => ?_, fun untrusted many => ?_,
    fun dead few => ?_, fun hold few => ?_, fun differs => ?_, fun same => ?_, ?_, ?_, stops, clock, store, bright⟩
  · exact odoT.trans (Odometer.windowed_wheel wheel sound failures disagreements)
  · exact odoT.trans (Odometer.windowed_wheel_fails wheel sound fails)
  · exact odoT.trans (Odometer.windowed_wheel_suspect wheel suspect)
  · exact odoT.trans (Odometer.windowed_guarded guarded sound)
  · exact odoT.trans (Odometer.windowed_guarded_suspect guarded suspect few)
  · exact odoT.trans (Odometer.windowed_guarded_fails guarded suspect many)
  · exact odoT.trans (Odometer.windowed_readmitted untrusted many)
  · exact odoT.trans (Odometer.windowed_deadReckon dead few)
  · exact odoT.trans (Odometer.windowed_hold hold few)
  · rw [odoT] at differs ⊢
    exact raised.operations rfl (linkB ▸ event differs)
  · rw [odoT] at same
    exact ((State.Raises.of_link (linkB.trans (still same))).trans raised).only
  · have judged : b.appr.standstill = standstillOf s.odo.windowed := by
      rw [b_eq]
      exact (congrArg (fun u : State => u.appr.standstill) frame :)
    rw [odoT]
    exact (standstill.trans judged).trans (standstillOf_eq s.odo.windowed)
  · by_cases evaluates : w.evaluates = true
    · have runB : b.appr.departureRun = k := by rw [b_eq]
      have evaluated := leads.evaluated (b.evaluate_evaluated s)
      rw [runB, k_eq evaluates, odoW, ← odoT] at evaluated
      exact evaluated
    · refine State.evaluated_of_not_evaluates (fun h => evaluates ?_) _ _
      have only : w.evaluates = State.evaluates { s with
          plan := w.plan, form := w.form, unitId := w.unitId, link := { s.link with rest := w.link.rest }
          appr := { s.appr with current := w.appr.current } } := rfl
      have current : w.appr.current = s.appr.current := (congrArg (fun u : State => u.appr.current) frame :)
      have plan : w.plan = s.plan := (congrArg State.plan frame :)
      have form : w.form = s.form := (congrArg State.form frame :)
      have unit : w.unitId = s.unitId := (congrArg State.unitId frame :)
      rw [only, raises.rest, current, plan, form, unit]
      exact h

end Sys2Proof.Machine
end

section
/-!
Set Call's change of the stop table, of the seats and of C (R32, R33, R99, R113).
-/
namespace Sys2Proof.Machine

/-! ### One call state changed (R32) -/

section Plan
variable {pl : Plan} {n m : Nat} {po : Portion} {c : Call} {r : StopRecord}

theorem StopRecord.callOf_withCall (r : StopRecord) (po : Portion) (c : Call) : (r.withCall po c).callOf po = c := by
  cases po <;> rfl

theorem StopRecord.line_withCall (r : StopRecord) (po : Portion) (c : Call) : (r.withCall po c).line = r.line := by
  cases po <;> rfl

theorem StopRecord.event_withCall (r : StopRecord) (po : Portion) (c : Call) : (r.withCall po c).event = r.event := by
  cases po <;> rfl

theorem Plan.setCall_eq (stop : pl.stops[n]? = some r) :
    pl.setCall n po c = { pl with stops := pl.stops.set n (r.withCall po c) } := by
  have same : pl.stops.modify n (fun r => r.withCall po c) = pl.stops.set n (r.withCall po c) := by
    refine List.ext_getElem? fun i => ?_
    rw [List.getElem?_modify, List.getElem?_set]
    by_cases here : n = i
    · subst here
      have inside := (List.getElem?_eq_some_iff.mp stop).1
      rw [stop, if_pos rfl, if_pos inside]
      simp
    · rw [if_neg here]
      simp [here]
  exact congrArg (fun l => { pl with stops := l }) same

theorem Plan.callAt_of_stop (stop : pl.stops[n]? = some r) : pl.callAt po n = r.callOf po := by
  rw [Plan.callAt, stop]

/-- What a field that Set Call leaves is at each stop. -/
theorem Plan.setCall_field {α : Type} (f : StopRecord → α) (same : ∀ r : StopRecord, f (r.withCall po c) = f r) (m : Nat) :
    ((pl.setCall n po c).stops[m]?).map f = (pl.stops[m]?).map f := by
  show ((pl.stops.modify n fun r => r.withCall po c)[m]?).map f = _
  rw [List.getElem?_modify]
  cases pl.stops[m]? with
  | none => rfl
  | some r =>
    show some (f (if n = m then r.withCall po c else r)) = some (f r)
    split
    · rw [same]
    · rfl

theorem Plan.lineAt_setCall (m : Nat) : (pl.setCall n po c).lineAt m = pl.lineAt m := by
  have line (p : Plan) : p.lineAt m = ((p.stops[m]?).map StopRecord.line).getD 0 := by
    unfold Plan.lineAt
    cases p.stops[m]? <;> rfl
  rw [line, line, Plan.setCall_field StopRecord.line fun r => r.line_withCall po c]

theorem Plan.callAt_setCall (stop : pl.stops[n]? = some r) (m : Nat) :
    (pl.setCall n po c).callAt po m = if m = n then c else pl.callAt po m := by
  have at_ : (pl.setCall n po c).stops[m]? = (pl.stops[m]?).map fun r => if n = m then r.withCall po c else r :=
    List.getElem?_modify _ n _ m
  unfold Plan.callAt
  rw [at_]
  by_cases here : m = n
  · subst here
    rw [stop, if_pos rfl]
    simp [StopRecord.callOf_withCall]
  · rw [if_neg here]
    cases pl.stops[m]? with
    | none => rfl
    | some r => simp [Ne.symm here]

/-- A cancellation takes one calling stop away at most. -/
theorem Plan.calls_setCall_length (stop : pl.stops[n]? = some r) :
    (pl.calls po).length ≤ ((pl.setCall n po c).calls po).length + 1 := by
  have once : (pl.calls po).Nodup := (pl.calls_sorted po).imp fun h => Nat.ne_of_lt h
  have sub : pl.calls po ⊆ n :: (pl.setCall n po c).calls po := by
    intro m hm
    by_cases here : m = n
    · rw [here]
      exact List.mem_cons_self
    · refine List.mem_cons_of_mem _ (Plan.mem_calls.mpr ?_)
      rw [Plan.callAt_setCall stop, if_neg here]
      exact Plan.mem_calls.mp hm
  exact (List.subperm_of_subset once sub).length_le

end Plan

/-! ### The checks (R32) -/

/-- The call state that Set Call's last byte names. -/
def callNamed (cancel : Bool) : Call := if cancel then .cancelled else .call

/-- The payload of Set Call. -/
def callPayload (n : Nat) (po : Portion) (cancel : Bool) : List Byte :=
  be 1 n ++ be 1 po.code ++ be 1 (if cancel then 3 else 2)

section Checks
variable {n : Nat} {po : Portion} {cancel : Bool} {r : StopRecord} {s : State}

theorem callPayload_reads (small : n < 48) :
    u8 (callPayload n po cancel) 0 = n ∧ u8 (callPayload n po cancel) 1 = po.code
    ∧ u8 (callPayload n po cancel) 2 = (if cancel then 3 else 2) := by
  have zero : u8 (callPayload n po cancel) 0 = n := by
    unfold callPayload
    rw [List.append_assoc]
    exact u8_be_one n _ (by omega)
  refine ⟨zero, ?_, ?_⟩
  · cases po <;> cases cancel <;> rfl
  · cases po <;> cases cancel <;> rfl

theorem setCallBlock_form (small : n < 48) (stop : s.plan.stops[n]? = some r)
    (state : s.plan.state = .ready ∨ s.plan.state = .running) (known : r.callOf po = .call ∨ r.callOf po = .cancelled) :
    setCallBlock (callPayload n po cancel) s
      = if r.callOf po = callNamed cancel then done s (s.callReply 0)
        else if ¬ s.setCallAllowed n po (callNamed cancel) then refuse s .wrongState
        else done (s.changeCall n po (callNamed cancel))
          ((s.changeCall n po (callNamed cancel)).callReply (s.voidedBy n po (callNamed cancel))) := by
  obtain ⟨read0, read1, read2⟩ := callPayload_reads (po := po) (cancel := cancel) small
  have portion : Portion.ofCode po.code = po := by cases po <;> rfl
  have code : po.code ≤ 2 := by cases po <;> decide
  have call : Call.ofCode (if cancel then 3 else 2) = callNamed cancel := by cases cancel <;> rfl
  have which : (if cancel = true then 3 else 2) = 2 ∨ (if cancel = true then 3 else 2) = 3 := by
    cases cancel
    · exact .inl rfl
    · exact .inr rfl
  have inside := (List.getElem?_eq_some_iff.mp stop).1
  have form : (callPayload n po cancel).length = 3 ∧ u8 (callPayload n po cancel) 0 < 48
      ∧ u8 (callPayload n po cancel) 1 ≤ 2
      ∧ (u8 (callPayload n po cancel) 2 = 2 ∨ u8 (callPayload n po cancel) 2 = 3) := by
    rw [read0, read1, read2]
    exact ⟨rfl, small, code, which⟩
  have planned : ¬ (s.plan.state ≠ .ready ∧ s.plan.state ≠ .running) := fun h => state.elim h.1 h.2
  have known_ : ¬ (r.callOf po ≠ .call ∧ r.callOf po ≠ .cancelled) := fun h => known.elim h.1 h.2
  rw [setCallBlock, if_neg (not_not_intro form)]
  simp only [read0, read1, read2, portion, call]
  rw [if_neg planned, if_neg (Nat.not_le.mpr inside), Plan.callAt_of_stop stop, if_neg known_]

theorem State.setCallAllowed_of (stop : s.plan.stops[n]? = some r) (last : ∀ l, s.appr.last = some l → l < n)
    (apart : ¬ (s.appr.current = some n ∧ s.appr.stage = some .atPlatform))
    (enough : cancel = true → 3 ≤ (s.plan.calls po).length
      ∧ ∀ l, s.appr.last = some l → ∃ m ∈ s.plan.calls po, l < m ∧ m ≠ n)
    (ahead : cancel = false → s.plan.state = .running → s.odo.position < r.line) :
    s.setCallAllowed n po (callNamed cancel) = true := by
  have line : s.plan.lineAt n = r.line := by rw [Plan.lineAt, stop]
  unfold State.setCallAllowed
  simp only [Bool.and_eq_true]
  refine ⟨⟨⟨?_, ?_⟩, ?_⟩, ?_⟩
  · cases l_eq : s.appr.last with
    | none => rfl
    | some l => exact decide_eq_true (last l l_eq)
  · rw [Bool.not_eq_true', Bool.and_eq_false_iff]
    exact (not_and_or.mp apart).imp decide_eq_false decide_eq_false
  · cases cancel with
    | false => rfl
    | true =>
      obtain ⟨three, left⟩ := enough rfl
      have length := Plan.calls_setCall_length (po := po) (c := callNamed true) stop
      refine Bool.or_eq_true_iff.mpr (.inr (Bool.and_eq_true_iff.mpr ⟨decide_eq_true (by omega), ?_⟩))
      cases l_eq : s.appr.last with
      | none => rfl
      | some l =>
        obtain ⟨m, hm, above, other⟩ := left l l_eq
        refine List.any_eq_true.mpr ⟨m, Plan.mem_calls.mpr ?_, decide_eq_true above⟩
        rw [Plan.callAt_setCall stop, if_neg other]
        exact Plan.mem_calls.mp hm
  · cases cancel with
    | true => rfl
    | false =>
      by_cases running : s.plan.state = .running
      · rw [line, decide_eq_true (ahead rfl running), Bool.or_true]
      · rw [decide_eq_true running, Bool.or_true, Bool.true_or]

end Checks
end Sys2Proof.Machine
end

section
/-!
Set Call's steps: the seats voided and handed on, C moved, panels and displays shown (R33, R34, R99, R113).
-/
namespace Sys2Proof.Machine

/-! ### The seats (R99, R113) -/

/-- The state with a call state changed and nothing else. -/
def State.withCall (n : Nat) (po : Portion) (c : Call) (s : State) : State :=
  { s with plan := s.plan.setCall n po c }

/-- The segments that Set Call leaves a seat of this coach's portion (R113). -/
def State.callKept (n : Nat) (po : Portion) (c : Call) (s : State) (x : Seat) : List Segment :=
  if c = .cancelled then (s.withCall n po c).unvoided x else x.segments

/-- The seats of which a list or an effective stop changed (R99, R124). -/
def State.callChanged (n : Nat) (po : Portion) (c : Call) (s : State) : List Seat :=
  s.table.seats.filter fun x => effMoved s (s.withCall n po c) x
    || (decide (c = .cancelled) && decide ((s.withCall n po c).unvoided x ≠ x.segments))

/-- The seats after the change. -/
def State.recalled (n : Nat) (po : Portion) (c : Call) (s : State) : State := (s.withCall n po c).recallSeats s c

section Recalled
variable (n : Nat) (po : Portion) (c : Call) (s : State)

theorem State.callKept_length (x : Seat) : (s.callKept n po c x).length ≤ x.segments.length := by
  unfold State.callKept
  split
  · exact List.length_filter_le _ _
  · exact le_rfl

theorem State.recalled_facts : let w := s.recalled n po c
    { w with table := s.table, link := s.link, holds := s.holds } = s.withCall n po c
    ∧ s.Effect [0x10] w ∧ w.table = s.table.keeping (s.callKept n po c)
    ∧ s.HandedOn ((s.callChanged n po c).map Seat.number) ((s.callChanged n po c).map Seat.bay) w
    ∧ s.SameDisplays w := by
  intro w
  let l := (s.callChanged n po c).map fun x => (x.number, x.bay)
  let s1 : State := { s.withCall n po c with table := s.table.keeping (s.callKept n po c) }
  have given : (if c = .cancelled then (s.withCall n po c).relist (s.withCall n po c).unvoided else s.withCall n po c)
      = s1 := by
    have plain {f : Seat → List Segment} (same : s.callKept n po c = f)
        (fewer : ∀ x ∈ s.table.seats, (f x).length ≤ x.segments.length) :
        (s.withCall n po c).relist f = s1 := by
      have table : ((s.withCall n po c).relist f).table = s.table.keeping (s.callKept n po c) := by
        rw [same]
        exact State.relist_keeping f (s.withCall n po c) fewer
      exact congrArg (fun tb => { s.withCall n po c with table := tb }) table
    by_cases cancels : c = .cancelled
    · rw [if_pos cancels]
      refine plain (funext fun x => if_pos cancels) fun x _ => List.length_filter_le _ _
    · rw [if_neg cancels]
      have same : s.callKept n po c = Seat.segments := funext fun x => if_neg cancels
      have table : s.table.keeping (s.callKept n po c) = s.table := by rw [same, SeatTable.keeping_self]
      exact congrArg (fun tb => { s.withCall n po c with table := tb }) table.symm
  have shape : w = s1.handSeats l := congrArg (State.handSeats l) given
  have frame := State.handSeats_frame l s1
  have table := State.handSeats_table l s1
  have numbers : l.map Prod.fst = (s.callChanged n po c).map Seat.number := by rw [List.map_map]; rfl
  have bays : l.map Prod.snd = (s.callChanged n po c).map Seat.bay := by rw [List.map_map]; rfl
  have handed := State.handedOn_handSeats l s1
  rw [numbers, bays] at handed
  rw [shape]
  refine ⟨?_, ?_, table, State.handedOn_of_holds rfl handed, ?_⟩
  · exact (congrArg (fun u : State => { u with table := s.table }) frame :)
  · exact (State.Effect.of_same (s := s) (t := s1) rfl rfl).trans (State.effect_handSeats l s1)
  · intro x hx
    rw [table] at hx
    obtain ⟨z, hz, rfl⟩ := List.mem_map.mp hx
    exact ⟨z, hz, rfl, rfl⟩

end Recalled

/-! ### C given up for another (R33, R70, R150) -/

/-- C given up, the next one given at CRUISE. -/
def State.handC (c : Nat) (next : Option Nat) (s : State) : State :=
  (s.endNotices (Notice.awaitsStage c)).giveC next

theorem State.handC_facts (c : Nat) (next : Option Nat) (s : State) : let v := s.handC c next
    { v with appr := s.appr, form := s.form, seq := s.seq, link := s.link, line := s.line } = s
    ∧ v.appr = { s.appr with current := next, stage := next.map fun _ => .cruise, departureRun := 0 }
    ∧ v.form = { s.form with arrival := none } ∧ s.Effect [0x01, 0x07] v
    ∧ (∀ d, next = some d → .stage d .cruise false ∈ v.link.operations.events)
    ∧ ((∀ n ∈ s.seq.all, n.stop ≠ some c) → v.seq = s.seq)
    ∧ (∀ n ∈ v.seq.all, n.stop = some c → ∀ w, n.validity ≠ .stage w) := by
  intro v
  let u := s.endNotices (Notice.awaitsStage c)
  have step : s.NoticeStep u := State.endNotices_notice _ s
  obtain ⟨frame, appr, form, effect, -, given, -⟩ := u.giveC_facts next
  have apprU : u.appr = s.appr := (congrArg State.appr step.frame :)
  have formU : u.form = s.form := (congrArg State.form step.frame :)
  have seq : v.seq = u.seq := (congrArg State.seq frame :)
  refine ⟨?_, ?_, ?_, (step.effect.mono (by simp)).trans (effect.mono (by simp)), given, fun others => ?_,
    fun n hn stop w stage => ?_⟩
  · exact (congrArg (fun x : State => { x with
      appr := s.appr, form := s.form, seq := s.seq, link := s.link, line := s.line }) frame :).trans
      (congrArg (fun x : State => { x with appr := s.appr, form := s.form }) step.frame :)
  · exact appr.trans (congrArg (fun a : Approach => { a with
      current := next, stage := next.map fun _ => .cruise, departureRun := 0 }) apprU)
  · exact form.trans (congrArg (fun f : Formation => { f with arrival := none }) formU)
  · exact seq.trans (State.endNotices_none fun n hn => Notice.endsAt_of_stop (others n hn))
  · rw [seq] at hn
    obtain ⟨m, -, stays, like⟩ := State.endNotices_like hn
    have later := Notice.later_of_endsAt like stays stop
    rw [stage] at later
    have most : w.code ≤ 5 := by cases w <;> decide
    have beyond : 5 < w.code := later
    omega

theorem State.moveC_eq {s : State} {c : Nat} (current : s.appr.current = some c) (next : Option Nat) :
    s.moveC next = (s.handC c next).evaluate none := by
  unfold State.moveC
  rw [current]
  rfl

/-! ### Panels and displays (R34, R111) -/

/-- Door maps and banners stale, every display re-formed, the end of the event. -/
def State.callShown (w before : State) : State := (w.staleDoorMaps.staleBanners.reformAll).settle before

/-- Displays once re-formed are found unchanged when they are re-formed again. -/
theorem State.Reformed.again {s w : State} (h : s.Reformed (fun _ => true) w) :
    s.Reformed (fun _ => true) w.reformAll := by
  intro y hy name
  obtain ⟨x, hx, rfl⟩ := List.mem_map.mp hy
  obtain ⟨shown, strips⟩ := h x hx rfl
  rw [if_pos rfl]
  refine ⟨rfl, fun differs => ?_⟩
  refine (State.effect_reform (codes := []) (fun _ => true) w).stale _ (strips fun z hz same => ?_)
  rw [shown]
  exact differs z hz same

section Shown
variable (before w : State)

theorem State.callShown_facts : let t := w.callShown before
    { t with table := w.table, link := w.link, line := w.line } = w
    ∧ w.Effect [0x06, 0x09] t ∧ t.table.undisplayed = w.table.undisplayed
    ∧ t.StaleAt (fun x => decide (x.kind = .doorMap) || decide (x.kind = .banner)) := by
  intro t
  let m := w.staleDoorMaps.staleBanners
  have first : w.Effect [0x06, 0x09] m := (State.effect_staleWhere _ w).trans (State.effect_staleWhere _ _)
  have frame := State.settle_frame m.reformAll before
  have last : m.reformAll.Effect [0x06, 0x09] t := State.effect_settle _ before
  refine ⟨(congrArg (fun u : State => { u with table := w.table, link := w.link, line := w.line }) frame :),
    first.trans ((State.effect_reform _ m).trans last), ?_, ?_⟩
  · exact (congrArg (fun u : State => u.table.undisplayed) frame :).trans (SeatTable.undisplayed_reform m _)
  · exact last.stale _ ((State.effect_reform (codes := []) _ m).stale _ w.staleAt_both)

/-- Displays are re-formed, whether or not an evaluation has done so already. -/
theorem State.callShown_reformed {s : State} (h : s.SameDisplays w ∨ s.Reformed (fun _ => true) w) :
    s.Reformed (fun _ => true) (w.callShown before) := by
  let m := w.staleDoorMaps.staleBanners
  have first : w.Effect [] m := (State.effect_staleWhere _ w).trans (State.effect_staleWhere _ _)
  have frame := State.settle_frame m.reformAll before
  have reformed : s.Reformed (fun _ => true) m.reformAll := by
    rcases h with same | done
    · exact State.reformed_of_reform fun x hx _ => .inr (same x hx)
    · exact State.Reformed.again (done.effect rfl rfl first)
  exact reformed.effect (congrArg State.table frame :) (congrArg State.display frame :) (State.effect_settle _ before)

/-- Nothing but displays and stale flags where level and brightness go by what they did before. -/
theorem State.callShown_link (bright : w.bright = before.bright) (odo : w.odo = before.odo)
    (clock : w.clock = before.clock) (seq : w.seq = before.seq) : (w.callShown before).link = w.link := by
  let m := w.staleDoorMaps.staleBanners.reformAll
  have level : before.level = m.level := congrArg (fun q : Sequencer => levelOf q.active) seq.symm
  have settled : m.settle before = m :=
    (State.settle_eq_settleLevel (s := m) (before := before) bright odo clock).trans (if_pos level)
  exact (congrArg State.link settled :)

end Shown
end Sys2Proof.Machine
end

section
/-!
The new C of a Set Call, evaluated at once (R33), and what the whole change leaves.
-/
namespace Sys2Proof.Machine

/-! ### Through the answer -/

section Answer
variable {s t : State} (p : Port) (k : Byte) (st : Status) (body : List Byte)

theorem State.HandedOn.answer {nums bays : List Nat} (h : s.HandedOn nums bays t) :
    s.HandedOn nums bays (t.answer p k st body) := by
  obtain ⟨holds, marks, unreported, raised⟩ := h
  exact ⟨holds, marks, unreported, fun fresh => (State.answer_events t p .content k st body).symm ▸ raised fresh⟩

theorem State.JourneyEnded.answer (h : s.JourneyEnded t) : s.JourneyEnded (t.answer p k st body) := by
  obtain ⟨table, broken, ⟨set, unreported, raised⟩, operations, content⟩ := h
  exact ⟨table, broken, ⟨set, unreported, fun fresh =>
    (State.answer_events t p .content k st body).symm ▸ raised fresh⟩,
    (State.answer_events t p .operations k st body).symm ▸ operations,
    (State.answer_events t p .content k st body).symm ▸ content⟩

end Answer

/-! ### An evaluation inside an event -/

section Inside
variable {s b : State} {d : Nat}

theorem State.settle_self (s : State) : s.settle s = s :=
  (State.settle_eq_settleLevel (s := s) (before := s) rfl rfl rfl).trans (if_pos rfl)

theorem State.evaluate_concludes_self (evaluates : b.evaluates = true) (act : Option Nat) :
    (b.evaluated act).Concludes (b.evaluate act) := by
  have h := State.evaluate_concludes evaluates act (b.evaluate act)
  rw [State.settle_self] at h
  exact h

theorem State.evaluate_effect (b : State) (act : Option Nat) : b.Effect evaluationCodes (b.evaluate act) := by
  by_cases evaluates : b.evaluates = true
  · have h := State.evaluate_concludes_self evaluates act
    have rows := b.evaluated_from act
    exact (rows.progress.effect.mono (by simp [evaluationCodes])).trans (h.effect.mono (by simp [evaluationCodes]))
  · have same : b.evaluate act = b := if_neg evaluates
    rw [same]
    exact .refl _ b

/-- An evaluation re-forms every display where a row applied, and none elsewhere (R111). -/
theorem State.evaluate_displays (act : Option Nat) (same : s.SameDisplays b) :
    s.SameDisplays (b.evaluate act) ∨ s.Reformed (fun _ => true) (b.evaluate act) := by
  by_cases evaluates : b.evaluates = true
  · have h := State.evaluate_concludes_self evaluates act
    have rows := b.evaluated_from act
    by_cases moved : (b.evaluated act).moved = true
    · exact .inr (h.reformed moved s (same.trans rows.progress.displays))
    · have quiet := Bool.eq_false_iff.mpr moved
      obtain ⟨start, none_⟩ := rows.still quiet
      obtain ⟨running, -⟩ := State.evaluates_iff.mp evaluates
      have going : (b.evaluated act).st.plan.state ≠ .ended := by
        rw [start, running]
        nofun
      have table := (h.still quiet none_ going).1
      rw [start] at table
      exact .inl (same.trans (State.sameDisplays_of_table table))
  · have still : b.evaluate act = b := if_neg evaluates
    rw [still]
    exact .inl same

/-- A C just given, with S near, is evaluated to where the table leaves it (R33, R64). -/
theorem State.comes_given (evaluates : b.evaluates = true) (current : b.appr.current = some d)
    (stage : b.appr.stage = some .cruise) (event : .stage d .cruise false ∈ b.link.operations.events)
    (near : b.odo.position ≤ b.plan.lineAt d + 400) :
    b.Comes d (b.stageEnd d .cruise) (b.evaluate none) := by
  obtain ⟨running, -, -, route⟩ := State.evaluates_iff.mp evaluates
  have h := State.evaluate_concludes_self evaluates none
  have rows := b.evaluated_from none
  have attached : (b.evaluated none).st.attached = true := rows.progress.attached.trans (State.attached_of_hasRoute route)
  obtain ⟨stays, moves⟩ := State.evaluated_near (act := none) running rfl current stage near (by decide)
  by_cases still : b.stageEnd d .cruise = .cruise
  · have same := stays still
    rw [still]
    refine State.comes_of_lands (e := b.evaluated none) ?_ (.inr ⟨?_, ?_, ?_⟩) attached h
    · rw [same]
      exact State.lands_cruise stage event
    · rw [same]
      rfl
    · rw [same, State.finalCall]
      show b.appr.current.or _ = _
      rw [current]
      rfl
    · rw [same]
      exact State.stagePosts_cruise b d
  · obtain ⟨reaches, reached, -⟩ := moves still
    exact State.comes_of_lands reaches.lands (.inl ⟨reaches.current.trans current, reached⟩) attached h

end Inside

/-! ### The change of this coach's portion (R33) -/

/-- What the change leaves before panels and displays are shown. -/
def State.called (n : Nat) (po : Portion) (c : Call) (s : State) : State :=
  match (s.recalled n po c).movedC n c with
  | some next => (s.recalled n po c).moveC next
  | none => s.recalled n po c

section Called
variable {n : Nat} {po : Portion} {c : Call} {s : State}

theorem State.changeCall_own (own : s.portion = some po) : s.changeCall n po c = (s.called n po c).callShown s :=
  if_pos own

theorem State.changeCall_other (other : ¬ s.portion = some po) :
    s.changeCall n po c = (s.withCall n po c).staleDoorMaps := if_neg other

/-- The codes of the entries that Set Call may raise. -/
def callCodes : List Nat := [0x01, 0x05, 0x06, 0x07, 0x09, 0x0D, 0x10]

/-- What the change leaves in every case. -/
theorem State.called_facts : let w := s.called n po c
    w.plan.stops = (s.plan.setCall n po c).stops ∧ s.Effect callCodes w
    ∧ (s.SameDisplays w ∨ s.Reformed (fun _ => true) w)
    ∧ { w with
        plan := s.plan, appr := s.appr, form := s.form, table := s.table, holds := s.holds, seq := s.seq
        link := s.link, line := s.line } = s := by
  intro w
  let r := s.recalled n po c
  obtain ⟨frame, effect, -, -, displays⟩ := s.recalled_facts n po c
  let keeps (u : State) : State := { u with
    plan := s.plan, appr := s.appr, form := s.form, table := s.table, holds := s.holds, seq := s.seq
    link := s.link, line := s.line }
  have plain : r.plan.stops = (s.plan.setCall n po c).stops ∧ s.Effect callCodes r
      ∧ (s.SameDisplays r ∨ s.Reformed (fun _ => true) r) ∧ keeps r = s :=
    ⟨(congrArg (fun u : State => u.plan.stops) frame :), effect.mono (by simp [callCodes]), .inl displays,
      (congrArg keeps frame :)⟩
  have shape : w = (match r.movedC n c with
      | some next => r.moveC next
      | none => r) := rfl
  cases moved : r.movedC n c with
  | none =>
    rw [moved] at shape
    rw [shape]
    exact plain
  | some next =>
    rw [moved] at shape
    obtain ⟨cur, current⟩ : ∃ cur, r.appr.current = some cur := by
      unfold State.movedC at moved
      split at moved
      · nomatch moved
      · cases current : r.appr.current with
        | none =>
          rw [current] at moved
          nomatch moved
        | some cur => exact ⟨cur, rfl⟩
    let v := r.handC cur next
    obtain ⟨frameV, -, -, effectV, -⟩ := r.handC_facts cur next
    have w_eq : w = v.evaluate none := shape.trans (State.moveC_eq current next)
    have displaysV : s.SameDisplays v := displays.trans (State.sameDisplays_of_table (congrArg State.table frameV :))
    obtain ⟨odo, stops, -, -, -, rest⟩ := v.evaluate_leaves (v.evaluate none) none
    rw [State.settle_self] at odo stops rest
    rw [w_eq]
    refine ⟨?_, ?_, State.evaluate_displays none displaysV, ?_⟩
    · exact stops.trans ((congrArg (fun u : State => u.plan.stops) frameV :).trans plain.1)
    · exact (effect.mono (by simp [callCodes])).trans ((effectV.mono (by simp [callCodes])).trans
        (v.evaluate_effect none))
    · have frameR := plain.2.2.2
      have odoV : v.odo = s.odo := (congrArg State.odo frameV :).trans (congrArg State.odo frameR :)
      have given : (v.evaluate none).odo = s.odo := odo.trans odoV
      have first : keeps { v.evaluate none with odo := v.odo } = keeps v := (congrArg keeps rest :)
      have second : keeps v = s := (congrArg keeps frameV :).trans frameR
      have third : keeps (v.evaluate none) = keeps { v.evaluate none with odo := v.odo } :=
        congrArg (fun o => keeps { v.evaluate none with odo := o }) odo
      exact third.trans (first.trans second)

end Called
end Sys2Proof.Machine
end

section
/-!
Proof of the statement about Set Call (R32 to R34, R99, R111, R113, R114, R124, R150).
-/
namespace Sys2Proof.Machine

/-! ### Which segments are voided, which seats change (R99, R113) -/

/-- Whether a segment is voided, after being the state with the call state changed (R113). -/
def State.callVoids (after : State) (own cancel : Bool) (g : Segment) : Bool :=
  own && cancel && !g.stranded
    && match after.eff g.fromStop, after.eff g.toStop with
      | some f, some e => decide (f = e)
      | _, _ => false

section Voided
variable {n : Nat} {po : Portion} {cancel : Bool} {s after : State}
  (effs : (s.withCall n po (callNamed cancel)).eff = after.eff)
include effs

theorem State.callKept_eq (x : Seat) : s.callKept n po (callNamed cancel) x
    = x.segments.filter fun g => !after.callVoids true cancel g := by
  have collapsed (g : Segment) : (s.withCall n po (callNamed cancel)).collapsed g
      = match after.eff g.fromStop, after.eff g.toStop with
        | some f, some e => decide (f = e)
        | _, _ => false := by
    unfold State.collapsed
    rw [effs] <;> cases after.eff g.fromStop <;> cases after.eff g.toStop <;> rfl
  cases cancel with
  | false =>
    have none_ : s.callKept n po (callNamed false) x = x.segments := if_neg nofun
    rw [none_]
    exact (List.filter_eq_self.mpr fun g _ => rfl).symm
  | true =>
    have some_ : s.callKept n po (callNamed true) x = (s.withCall n po (callNamed true)).unvoided x := if_pos rfl
    rw [some_]
    refine List.filter_congr fun g _ => ?_
    rw [State.callVoids, ← collapsed g]
    cases g.stranded <;> cases (s.withCall n po (callNamed true)).collapsed g <;> rfl

theorem State.callChanged_eq : s.callChanged n po (callNamed cancel) = s.table.seats.filter fun x =>
    true && (decide ((x.segments.filter fun g => !after.callVoids true cancel g) ≠ x.segments)
      || x.segments.any fun g => !g.stranded
        && (decide (s.eff g.fromStop ≠ after.eff g.fromStop) || decide (s.eff g.toStop ≠ after.eff g.toStop))) := by
  refine List.filter_congr fun x _ => ?_
  have moved : effMoved s (s.withCall n po (callNamed cancel)) x = x.segments.any fun g => !g.stranded
      && (decide (s.eff g.fromStop ≠ after.eff g.fromStop) || decide (s.eff g.toStop ≠ after.eff g.toStop)) := by
    unfold effMoved
    rw [effs]
  rw [moved, ← State.callKept_eq effs x, Bool.true_and, Bool.or_comm]
  congr 1
  cases cancel with
  | false =>
    have none_ : s.callKept n po (callNamed false) x = x.segments := if_neg nofun
    rw [none_]
    simp [callNamed]
  | true =>
    have some_ : s.callKept n po (callNamed true) x = (s.withCall n po (callNamed true)).unvoided x := if_pos rfl
    rw [some_]
    rfl

theorem State.voidedBy_eq (own : s.portion = some po) : s.voidedBy n po (callNamed cancel)
    = (s.table.seats.map fun x => (x.segments.filter (after.callVoids true cancel)).length).sum := by
  have split : (s.table.seats.map fun x => x.segments.length).sum
      = (s.table.seats.map fun x => (s.callKept n po (callNamed cancel) x).length).sum
        + (s.table.seats.map fun x => (x.segments.filter (after.callVoids true cancel)).length).sum := by
    rw [← List.sum_map_add]
    refine congrArg List.sum (List.map_congr_left fun x _ => ?_)
    rw [State.callKept_eq effs x, Nat.add_comm]
    exact List.length_eq_length_filter_add _
  cases cancel with
  | false =>
    have none_ : s.callKept n po (callNamed false) = Seat.segments := funext fun _ => if_neg nofun
    have zero : s.voidedBy n po (callNamed false) = 0 := if_neg fun both => nomatch both.2
    rw [none_] at split
    rw [zero]
    omega
  | true =>
    have some_ : s.callKept n po (callNamed true) = (s.withCall n po (callNamed true)).unvoided :=
      funext fun _ => if_pos rfl
    have held : segmentsHeld ((s.withCall n po (callNamed true)).relist
        (s.withCall n po (callNamed true)).unvoided).table.seats
        = (s.table.seats.map fun x => (s.callKept n po (callNamed true) x).length).sum := by
      rw [some_, segmentsHeld]
      show (List.map _ (List.map _ _)).sum = _
      rw [List.map_map]
      rfl
    have shape : s.voidedBy n po (callNamed true) = segmentsHeld s.table.seats
        - segmentsHeld ((s.withCall n po (callNamed true)).relist
          (s.withCall n po (callNamed true)).unvoided).table.seats := if_pos ⟨own, rfl⟩
    rw [shape, held, segmentsHeld]
    omega

end Voided

/-! ### Where C goes (R33) -/

/-- C that moves and the next one, if C moves (R33). -/
def State.callMoves (n : Nat) (po : Portion) (cancel : Bool) (s : State) : Option (Nat × Option Nat) :=
  match s.appr.current with
  | some c =>
    if s.plan.state = .running then
      (if cancel = true ∧ n = c then some (c, (s.withCall n po (callNamed cancel)).nextCall c)
      else if cancel = false ∧ n < c then some (c, some n)
      else none)
    else none
  | none => none

section Moves
variable {n c d : Nat} {po : Portion} {cancel : Bool} {s : State} {next : Option Nat} {r : StopRecord}

theorem State.recalled_movedC : (s.recalled n po (callNamed cancel)).movedC n (callNamed cancel)
    = (s.callMoves n po cancel).map Prod.snd := by
  obtain ⟨frame, -⟩ := s.recalled_facts n po (callNamed cancel)
  have state : (s.recalled n po (callNamed cancel)).plan.state = s.plan.state :=
    (congrArg (fun u : State => u.plan.state) frame :)
  have current : (s.recalled n po (callNamed cancel)).appr.current = s.appr.current :=
    (congrArg (fun u : State => u.appr.current) frame :)
  have next : (s.recalled n po (callNamed cancel)).nextCall n = (s.withCall n po (callNamed cancel)).nextCall n :=
    (congrArg (fun u : State => u.nextCall n) frame :)
  unfold State.movedC State.callMoves
  rw [state, current, next]
  by_cases running : s.plan.state = .running
  · rw [if_neg (not_not_intro running)]
    cases s.appr.current with
    | none => rfl
    | some c =>
      dsimp only
      rw [if_pos running]
      cases cancel with
      | true =>
        by_cases here : n = c
        · subst here
          simp [callNamed]
        · simp [callNamed, here]
      | false =>
        by_cases before : n < c
        · simp [callNamed, before]
        · simp [callNamed, before]
  · rw [if_pos running]
    cases s.appr.current with
    | none => rfl
    | some c => simp [running]

theorem State.callMoves_some (moves : s.callMoves n po cancel = some (c, next)) :
    s.appr.current = some c ∧ s.plan.state = .running ∧ ∀ d, next = some d → d ≠ c := by
  unfold State.callMoves at moves
  split at moves
  next cur current =>
    split at moves
    next running =>
      split at moves
      · obtain ⟨rfl, rfl⟩ := Prod.mk.inj (Option.some.inj moves)
        refine ⟨current, running, fun d found => ?_⟩
        exact Nat.ne_of_gt (of_decide_eq_true (List.find?_some (p := fun x => decide (cur < x)) found))
      · split at moves
        next before =>
          obtain ⟨rfl, rfl⟩ := Prod.mk.inj (Option.some.inj moves)
          refine ⟨current, running, fun d found => ?_⟩
          rw [← Option.some.inj found]
          exact Nat.ne_of_lt before.2
        · nomatch moves
    · nomatch moves
  · nomatch moves

theorem State.called_stays (stays : s.callMoves n po cancel = none) :
    s.called n po (callNamed cancel) = s.recalled n po (callNamed cancel) := by
  unfold State.called
  rw [State.recalled_movedC, stays]
  rfl

theorem State.called_moves (moves : s.callMoves n po cancel = some (c, next)) :
    s.called n po (callNamed cancel) = ((s.recalled n po (callNamed cancel)).handC c next).evaluate none := by
  obtain ⟨current, -⟩ := State.callMoves_some moves
  obtain ⟨frame, -⟩ := s.recalled_facts n po (callNamed cancel)
  have currentR : (s.recalled n po (callNamed cancel)).appr.current = some c :=
    (congrArg (fun u : State => u.appr.current) frame :).trans current
  rw [← State.moveC_eq currentR]
  unfold State.called
  rw [State.recalled_movedC, moves]
  rfl

end Moves
end Sys2Proof.Machine
end

section
/-!
Where C goes by a Set Call for this coach's portion (R33): it stays, moves to another stop, or is none.
-/
namespace Sys2Proof.Machine

/-- The notices posted at a stage go by plan, formation, C and the languages of the rotation (R146, R147). -/
theorem State.seqPosted_congr {s t : State} (plan : t.plan = s.plan) (form : t.form = s.form)
    (current : t.appr.current = s.appr.current) (unit : t.unitId = s.unitId)
    (line : t.line.unmarked = s.line.unmarked) : t.seqPosted = s.seqPosted := by
  have rotation : t.line.rotation = s.line.rotation := (congrArg PanelLine.rotation line :)
  have only : t.seqPosted = State.seqPosted { s with
      plan := t.plan, form := t.form, appr := { s.appr with current := t.appr.current }, unitId := t.unitId
      line := { s.line with rotation := t.line.rotation } } := rfl
  rw [only, plan, form, current, unit, rotation]

section Own
variable {n c d : Nat} {po : Portion} {cancel : Bool} {s : State} {next : Option Nat} {r : StopRecord}

/-- C stays: seats, panels and displays alone change. -/
theorem State.callShown_stays (stays : s.callMoves n po cancel = none) :
    let t := (s.called n po (callNamed cancel)).callShown s
    t.plan.state = s.plan.state ∧ t.appr = s.appr ∧ t.form = s.form ∧ t.seq = s.seq ∧ s.Raises [0x10] t := by
  intro t
  obtain ⟨frame, effect, -⟩ := s.recalled_facts n po (callNamed cancel)
  have same := State.called_stays stays
  obtain ⟨frameT, -⟩ := State.callShown_facts s (s.called n po (callNamed cancel))
  have linkT := State.callShown_link s (s.called n po (callNamed cancel))
  rw [same] at frameT linkT
  have link : ((s.recalled n po (callNamed cancel)).callShown s).link = (s.recalled n po (callNamed cancel)).link :=
    linkT (congrArg State.bright frame :) (congrArg State.odo frame :) (congrArg State.clock frame :)
      (congrArg State.seq frame :)
  have t_eq : t = (s.recalled n po (callNamed cancel)).callShown s := congrArg (fun w : State => w.callShown s) same
  rw [t_eq]
  refine ⟨?_, ?_, ?_, ?_, effect.raises.trans (.of_link link)⟩
  · exact (congrArg (fun u : State => u.plan.state) frameT :).trans (congrArg (fun u : State => u.plan.state) frame :)
  · exact (congrArg State.appr frameT :).trans (congrArg State.appr frame :)
  · exact (congrArg State.form frameT :).trans (congrArg State.form frame :)
  · exact (congrArg State.seq frameT :).trans (congrArg State.seq frame :)

/-- The state in which the next C is given. -/
def State.handed (n : Nat) (po : Portion) (cancel : Bool) (c : Nat) (next : Option Nat) (s : State) : State :=
  (s.recalled n po (callNamed cancel)).handC c next

/-- What giving up C leaves of the state before the event. -/
theorem State.handed_facts (n : Nat) (po : Portion) (cancel : Bool) (c : Nat) (next : Option Nat) (s : State) :
    let v := s.handed n po cancel c next
    { v with
      appr := s.appr, form := s.form, seq := s.seq, link := s.link, line := s.line, table := s.table
      holds := s.holds } = s.withCall n po (callNamed cancel)
    ∧ v.appr = { s.appr with current := next, stage := next.map fun _ => .cruise, departureRun := 0 }
    ∧ v.form = { s.form with arrival := none } ∧ s.Effect [0x01, 0x07, 0x10] v
    ∧ v.table = s.table.keeping (s.callKept n po (callNamed cancel))
    ∧ s.HandedOn ((s.callChanged n po (callNamed cancel)).map Seat.number)
        ((s.callChanged n po (callNamed cancel)).map Seat.bay) v
    ∧ (∀ d, next = some d → .stage d .cruise false ∈ v.link.operations.events)
    ∧ ((∀ m ∈ s.seq.all, m.stop ≠ some c) → v.seq = s.seq)
    ∧ (∀ m ∈ v.seq.all, m.stop = some c → ∀ w, m.validity ≠ .stage w) := by
  intro v
  obtain ⟨frame, effect, table, handed, -⟩ := s.recalled_facts n po (callNamed cancel)
  obtain ⟨frameV, apprV, formV, effectV, given, quiet, ended⟩ :=
    (s.recalled n po (callNamed cancel)).handC_facts c next
  have seqR : (s.recalled n po (callNamed cancel)).seq = s.seq := (congrArg State.seq frame :)
  have apprR : (s.recalled n po (callNamed cancel)).appr = s.appr := (congrArg State.appr frame :)
  have formR : (s.recalled n po (callNamed cancel)).form = s.form := (congrArg State.form frame :)
  rw [seqR] at quiet
  rw [apprR] at apprV
  rw [formR] at formV
  refine ⟨?_, apprV, formV, (effect.mono (by simp)).trans (effectV.mono (by simp)), ?_, ?_, given, quiet, ended⟩
  · exact (congrArg (fun u : State => { u with
      appr := s.appr, form := s.form, seq := s.seq, link := s.link, line := s.line, table := s.table
      holds := s.holds }) frameV :).trans
      (congrArg (fun u : State => { u with appr := s.appr, form := s.form, seq := s.seq, line := s.line }) frame :)
  · exact (congrArg State.table frameV :).trans table
  · exact handed.raises (congrArg State.holds frameV :) effectV.raises rfl

theorem State.handed_sheds (n : Nat) (po : Portion) (cancel : Bool) (c : Nat) (next : Option Nat) (s : State) :
    s.Sheds (s.handed n po cancel c next) := by
  obtain ⟨-, -, -, -, table, handed, -⟩ := State.handed_facts n po cancel c next s
  exact ⟨⟨_, _, handed⟩, s.callKept n po (callNamed cancel),
    fun x _ => s.callKept_length n po (callNamed cancel) x, congrArg SeatTable.undisplayed table⟩

/-- The new C is evaluated: a stop changed on the portion's route leaves the coach a route. -/
theorem State.handed_evaluates (own : s.portion = some po) (awake : s.link.rest = .awake)
    (stop : s.plan.stops[n]? = some r) (moves : s.callMoves n po cancel = some (c, some d)) :
    (s.handed n po cancel c (some d)).evaluates = true := by
  obtain ⟨-, running, -⟩ := State.callMoves_some moves
  obtain ⟨frame, appr, form, effect, -⟩ := State.handed_facts n po cancel c (some d) s
  have plan : (s.handed n po cancel c (some d)).plan = s.plan.setCall n po (callNamed cancel) :=
    (congrArg State.plan frame :)
  have portion : (s.handed n po cancel c (some d)).portion = some po :=
    (State.portion_congr (congrArg Formation.active form :) (congrArg State.unitId frame :)).trans own
  refine State.evaluates_iff.mpr ⟨?_, effect.raises.rest.trans awake, ?_, ?_⟩
  · rw [plan]
    exact running
  · rw [appr]
    rfl
  · have on : n ∈ (s.handed n po cancel c (some d)).coachRoute := by
      rw [State.coachRoute, portion]
      refine Plan.mem_route.mpr ?_
      rw [plan, Plan.callAt_setCall stop, if_pos rfl]
      cases cancel <;> nofun
    rw [State.hasRoute, Bool.not_eq_true', List.isEmpty_eq_false_iff]
    exact List.ne_nil_of_mem on

theorem State.called_comes (own : s.portion = some po) (awake : s.link.rest = .awake)
    (stop : s.plan.stops[n]? = some r) (moves : s.callMoves n po cancel = some (c, some d))
    (near : s.odo.position ≤ s.plan.lineAt d + 400) :
    let v := s.handed n po cancel c (some d)
    v.Comes d (v.stageEnd d .cruise) (s.called n po (callNamed cancel)) := by
  intro v
  obtain ⟨frame, appr, -, -, -, -, given, -⟩ := State.handed_facts n po cancel c (some d) s
  have evaluates := State.handed_evaluates own awake stop moves
  rw [State.called_moves moves]
  refine State.comes_given evaluates ?_ ?_ (given d rfl) ?_
  · rw [appr]
  · rw [appr]
    rfl
  · have plan : v.plan = s.plan.setCall n po (callNamed cancel) := (congrArg State.plan frame :)
    have odo : v.odo = s.odo := (congrArg State.odo frame :)
    show v.odo.position ≤ v.plan.lineAt d + 400
    rw [odo, plan, Plan.lineAt_setCall]
    exact near

/-- Without a next calling stop C is none, and no evaluation is made (R33, log entry 46). -/
theorem State.called_ends (moves : s.callMoves n po cancel = some (c, none)) :
    s.called n po (callNamed cancel) = s.handed n po cancel c none := by
  obtain ⟨-, appr, -⟩ := State.handed_facts n po cancel c none s
  rw [State.called_moves moves]
  refine if_neg fun evaluates => ?_
  obtain ⟨-, -, current, -⟩ := State.evaluates_iff.mp evaluates
  have none_ : (s.handed n po cancel c none).appr.current = none := by rw [appr]
  exact absurd (none_ ▸ current :) nofun

/-- The seats while the journey goes on (R99, R113). -/
theorem State.called_seats (own : s.portion = some po) (awake : s.link.rest = .awake)
    (stop : s.plan.stops[n]? = some r) 
    (near : ∀ c d, s.callMoves n po cancel = some (c, some d) → s.odo.position ≤ s.plan.lineAt d + 400)
    (going : (s.called n po (callNamed cancel)).plan.state ≠ .ended) :
    (s.called n po (callNamed cancel)).table.undisplayed
      = (s.table.keeping (s.callKept n po (callNamed cancel))).undisplayed
    ∧ s.HandedOn ((s.callChanged n po (callNamed cancel)).map Seat.number)
        ((s.callChanged n po (callNamed cancel)).map Seat.bay) (s.called n po (callNamed cancel)) := by
  cases moves : s.callMoves n po cancel with
  | none =>
    obtain ⟨-, -, table, handed, -⟩ := s.recalled_facts n po (callNamed cancel)
    rw [State.called_stays moves]
    exact ⟨congrArg SeatTable.undisplayed table, handed⟩
  | some x =>
    obtain ⟨c, next⟩ := x
    obtain ⟨-, -, -, -, table, handed, -⟩ := State.handed_facts n po cancel c next s
    cases next with
    | none =>
      rw [State.called_ends moves]
      exact ⟨congrArg SeatTable.undisplayed table, handed⟩
    | some d =>
      have comes := State.called_comes own awake stop moves (near c d moves)
      obtain ⟨table2, holds, raises⟩ := comes.running going
      exact ⟨table2.trans (congrArg SeatTable.undisplayed table), handed.raises holds raises rfl⟩

/-- The new C as the event leaves it (R33, R67, R70, R150). -/
theorem State.callShown_comes (own : s.portion = some po) (awake : s.link.rest = .awake)
    (stop : s.plan.stops[n]? = some r) (moves : s.callMoves n po cancel = some (c, some d))
    (near : s.odo.position ≤ s.plan.lineAt d + 400) :
    let t := (s.called n po (callNamed cancel)).callShown s
    let st := t.stageAfter d .cruise
    t.appr = { s.appr with current := some d, stage := some st, departureRun := 0, eta := t.minutesOfC }
    ∧ t.form = State.formAt { s with form := { s.form with arrival := none } } d st
    ∧ .stage d st false ∈ t.link.operations.events
    ∧ t.plan.state = (if st = .atPlatform ∧ (s.withCall n po (callNamed cancel)).coachCalls.getLast? = some d then .ended
        else .running)
    ∧ (t.plan.state = .ended → s.JourneyEnded t)
    ∧ (t.plan.state = .running → ∀ m ∈ t.seq.all, m.stop = some c → ∀ v, m.validity ≠ .stage v)
    ∧ ((∀ m ∈ s.seq.all, m.stop ≠ some c ∧ m.stop ≠ some d) → t.seq = t.seqPosted d st (s.seqTurned t)) := by
  intro t st
  let v := s.handed n po cancel c (some d)
  let w := s.called n po (callNamed cancel)
  obtain ⟨current, running, apart⟩ := State.callMoves_some moves
  obtain ⟨frame, appr, form, -, -, -, -, quiet, expired⟩ := State.handed_facts n po cancel c (some d) s
  have comes : v.Comes d (v.stageEnd d .cruise) w := State.called_comes own awake stop moves near
  obtain ⟨frameT, effectT, tableT, -⟩ := State.callShown_facts s w
  change { t with table := w.table, link := w.link, line := w.line } = w at frameT
  have odoW : w.odo = v.odo := by
    have evaluated := (v.evaluate_leaves (v.evaluate none) none).1
    rw [State.settle_self] at evaluated
    exact (congrArg State.odo (State.called_moves moves)).trans evaluated
  have ends : t.stageEnd = v.stageEnd := (congrArg State.stageEnd frameT :).trans (comes.stageEnd odoW)
  have st_eq : v.stageEnd d .cruise = st := by
    rw [← ends]
    exact if_neg nofun
  rw [st_eq] at comes
  have minutes : t.minutesOfC = w.minutesOfC := (congrArg State.minutesOfC frameT :)
  have apprT : t.appr = w.appr := (congrArg State.appr frameT :)
  have formT : t.form = w.form := (congrArg State.form frameT :)
  have planT : t.plan = w.plan := (congrArg State.plan frameT :)
  have seqT : t.seq = w.seq := (congrArg State.seq frameT :)
  have planV : v.plan = s.plan.setCall n po (callNamed cancel) := (congrArg State.plan frame :)
  have calls : v.coachCalls = (s.withCall n po (callNamed cancel)).coachCalls :=
    State.coachCalls_congr (congrArg Plan.stops planV) (congrArg Formation.active form :) (congrArg State.unitId frame :)
  refine ⟨?_, ?_, effectT.raises.operations rfl comes.event, ?_, fun ended => ?_, fun still m hm behind x stage => ?_,
    fun others => ?_⟩
  · rw [apprT, minutes, comes.appr, appr, ite_self]
  · have event : (v.plan.stops[d]?).map StopRecord.event = (s.plan.stops[d]?).map StopRecord.event := by
      rw [planV]
      exact Plan.setCall_field StopRecord.event (fun r => r.event_withCall po (callNamed cancel)) d
    rw [formT, comes.form, State.formAt, State.formAt, form, event]
  · rw [planT, comes.plan, calls, planV]
    exact congrArg (fun z => if st = .atPlatform ∧ (s.withCall n po (callNamed cancel)).coachCalls.getLast? = some d
      then PlanState.ended else z) running
  · have sheds := State.handed_sheds n po cancel c (some d) s
    exact (comes.ended (planT ▸ ended) s sheds).raises tableT (congrArg State.holds frameT :) effectT.raises rfl rfl
  · rw [seqT] at hm
    rcases comes.held (by rw [← planT, still]; nofun) m hm with here | ⟨l, hl, like⟩
    · exact apart d rfl (Option.some.inj (here.symm.trans behind))
    · exact expired l hl (like.1.symm.trans behind) x (like.2.symm.trans stage)
  · have seqV : v.seq = s.seq := quiet fun m hm => (others m hm).1
    have lead : v.form.lead = s.form.lead := (congrArg Formation.lead form :)
    have posted : t.seqPosted = w.seqPosted := State.seqPosted_congr planT formT (congrArg Approach.current apprT)
      (congrArg State.unitId frameT :) effectT.unmarked
    have retested : t.retested = w.retested := (congrArg State.retested frameT :)
    rw [seqT, comes.seq fun m hm => (others m (seqV ▸ hm)).2, posted, State.seqTurned, State.seqTurned, lead, seqV, formT,
      retested]

end Own
end Sys2Proof.Machine
end

section
/-!
Proof of the statement about Set Call, whole (R32 to R34).
-/
namespace Sys2Proof.Machine

/-- Set Call is taken while AWAKE only (R18). -/
theorem State.awake_of_setCall {s : State} {b : List Byte} (takes : s.Takes .operations 0x15 b) :
    s.link.rest = .awake := by
  cases rest : s.link.rest with
  | awake => rfl
  | resting =>
    have refused := (State.linkRefusal_known (k := 0x15) rfl s .operations b).2.1 (fun h => nomatch h.1) rest (by decide)
    exact absurd (refused.symm.trans takes.2) nofun

section Taken
variable {n : Nat} {po : Portion} {cancel : Bool} {r : StopRecord} {s : State}

/-- The panels that Set Call marks for another coach's portion (R34). -/
theorem State.changeCall_other_eq (stop : s.plan.stops[n]? = some r) (other : ¬ s.portion = some po) :
    s.changeCall n po (callNamed cancel) = { s with
      plan := { s.plan with stops := s.plan.stops.set n (r.withCall po (callNamed cancel)) }
      line := { s.line with panels := s.line.panels.map fun x =>
        { x with stale := x.stale || decide (x.kind = .doorMap) } } } := by
  rw [State.changeCall_other other]
  have plan : (s.withCall n po (callNamed cancel)).plan
      = { s.plan with stops := s.plan.stops.set n (r.withCall po (callNamed cancel)) } := Plan.setCall_eq stop
  have line := State.staleWhere_line (fun x => decide (x.kind = .doorMap)) (s.withCall n po (callNamed cancel))
  have shape : (s.withCall n po (callNamed cancel)).staleDoorMaps = { s with
      plan := (s.withCall n po (callNamed cancel)).plan
      line := ((s.withCall n po (callNamed cancel)).staleWhere fun x => decide (x.kind = .doorMap)).line } := rfl
  rw [shape, plan, line]
  rfl

/-- The replied state of an accepted change (R32, R33). -/
theorem setCall_accepted (stop : s.plan.stops[n]? = some r) (small : n < 48)
    (state : s.plan.state = .ready ∨ s.plan.state = .running)
    (former : r.callOf po = if cancel then .call else .cancelled)
    (last : ∀ l, s.appr.last = some l → l < n)
    (apart : ¬ (s.appr.current = some n ∧ s.appr.stage = some .atPlatform))
    (enough : cancel = true → 3 ≤ (s.plan.calls po).length
      ∧ ∀ l, s.appr.last = some l → ∃ m ∈ s.plan.calls po, l < m ∧ m ≠ n)
    (ahead : cancel = false → s.plan.state = .running → s.odo.position < r.line) :
    setCallBlock (callPayload n po cancel) s = done (s.changeCall n po (callNamed cancel))
      ((s.changeCall n po (callNamed cancel)).callReply (s.voidedBy n po (callNamed cancel))) := by
  have known : r.callOf po = .call ∨ r.callOf po = .cancelled := by
    rw [former]
    cases cancel
    · exact .inr rfl
    · exact .inl rfl
  have differs : ¬ r.callOf po = callNamed cancel := by
    rw [former]
    cases cancel <;> nofun
  rw [setCallBlock_form small stop state known, if_neg differs,
    if_neg (not_not_intro (State.setCallAllowed_of stop last apart enough ahead))]

end Taken

/-- Settles O23: the stop table first, then the seats, then C with its evaluation, then panels and displays. -/
theorem setCallChangesOneCallState : Obligations.SetCallChangesOneCallState := by
  intro s n po cancel r stop small state b takes
  let u := s.enter .operations 0x15 b
  have awake : u.link.rest = .awake := (State.awake_of_setCall takes : s.link.rest = .awake)
  refine ⟨fun held => ?_, fun former last apart enough ahead => ?_⟩
  · have known : r.callOf po = .call ∨ r.callOf po = .cancelled := by
      rw [held]
      cases cancel
      · exact .inl rfl
      · exact .inr rfl
    have block : setCallBlock b u = done u (u.callReply 0) :=
      (setCallBlock_form (s := u) small stop state known).trans (if_pos held)
    exact congrArg Host.Outcome.next (serve_reply takes.1 takes.2 block)
  · intro own stops after voids kept voided changed moved
    have block := setCall_accepted (s := u) stop small state former last apart enough ahead
    have run : exec (.setCall .operations b) s
        = .next ((u.changeCall n po (callNamed cancel)).answer .operations 0x15 .done
          ((u.changeCall n po (callNamed cancel)).callReply (u.voidedBy n po (callNamed cancel)))) :=
      congrArg Host.Outcome.next (serve_reply takes.1 takes.2 block)
    have stops_eq : (u.plan.setCall n po (callNamed cancel)).stops = stops := congrArg Plan.stops (Plan.setCall_eq stop)
    by_cases mine : s.portion = some po
    · have own_eq : own = true := decide_eq_true mine
      have after_eq : u.withCall n po (callNamed cancel) = { u with plan := { s.plan with stops := stops } } :=
        congrArg (fun p : Plan => { u with plan := p }) (Plan.setCall_eq stop)
      have effs : (u.withCall n po (callNamed cancel)).eff = after.eff := (congrArg State.eff after_eq :)
      have voids_eq : voids = after.callVoids true cancel :=
        (congrArg (fun o => after.callVoids o cancel) own_eq : after.callVoids own cancel = _)
      have kept_eq : kept = u.callKept n po (callNamed cancel) := by
        refine funext fun x => ?_
        rw [State.callKept_eq effs x]
        exact congrArg (fun f : Segment → Bool => x.segments.filter fun g => !f g) voids_eq
      have changed_eq : changed = u.callChanged n po (callNamed cancel) := by
        rw [State.callChanged_eq effs]
        exact (congrArg (fun o => s.table.seats.filter fun x => o
          && (decide ((x.segments.filter fun g => !after.callVoids o cancel g) ≠ x.segments)
            || x.segments.any fun g => !g.stranded
              && (decide (s.eff g.fromStop ≠ after.eff g.fromStop) || decide (s.eff g.toStop ≠ after.eff g.toStop))))
          own_eq :)
      have voided_eq : u.voidedBy n po (callNamed cancel) = voided := by
        rw [State.voidedBy_eq effs mine]
        exact congrArg (fun f => (s.table.seats.map fun x => (x.segments.filter f).length).sum) voids_eq.symm
      have calls : (u.withCall n po (callNamed cancel)).coachCalls = after.coachCalls :=
        (congrArg State.coachCalls after_eq :)
      have nextCall : (u.withCall n po (callNamed cancel)).nextCall = after.nextCall :=
        (congrArg State.nextCall after_eq :)
      have moved_eq : moved = u.callMoves n po cancel := by
        unfold State.callMoves
        simp only [moved, own_eq, true_and, nextCall]
        rfl
      let w := u.called n po (callNamed cancel)
      let t := w.callShown u
      have t_eq : u.changeCall n po (callNamed cancel) = t := State.changeCall_own (s := u) mine
      rw [t_eq, voided_eq] at run
      obtain ⟨stopsW, effectW, displays, frameW⟩ := State.called_facts (n := n) (po := po) (c := callNamed cancel) (s := u)
      obtain ⟨frameT, effectT, tableT, staleT⟩ := State.callShown_facts u w
      have effect : u.Effect callCodes t := effectW.trans (effectT.mono (by simp [callCodes]))
      have reformed := State.callShown_reformed u w displays
      have stateT : t.plan = w.plan := (congrArg State.plan frameT :)
      refine ⟨_, run, ?_, effect.raises.answers, ?_, effect.unmarked, fun h => absurd (own_eq.symm.trans h) nofun,
        fun _ => ⟨staleT, reformed, fun going near => ?_⟩, fun _ stays => ?_, fun c d moves near => ?_,
        fun c moves => ?_⟩
      · exact (congrArg Plan.stops stateT :).trans (stopsW.trans stops_eq)
      · exact (congrArg (fun x : State => { x with
          plan := s.plan, appr := s.appr, form := s.form, table := s.table, holds := s.holds, seq := s.seq
          link := s.link, line := s.line }) frameT :).trans (congrArg (fun x : State => { x with link := s.link }) frameW :)
      · obtain ⟨table, handed⟩ := State.called_seats (s := u) (cancel := cancel) mine awake stop
          (fun c d moves => near c d (moved_eq.trans moves)) (fun ended => going ((congrArg Plan.state stateT :).trans ended))
        have holds : t.holds = w.holds := (congrArg State.holds frameT :)
        have handedT := handed.raises holds effectT.raises rfl
        rw [kept_eq, changed_eq]
        exact ⟨tableT.trans table, handedT.answer _ _ _ _⟩
      · obtain ⟨state, appr, form, seq, raises⟩ := State.callShown_stays (s := u) (po := po) (moved_eq.symm.trans stays)
        exact ⟨state, appr, form, seq, raises.answered⟩
      · obtain ⟨appr, form, event, plan, ended, expired, seq⟩ :=
          State.callShown_comes (s := u) mine awake stop (moved_eq.symm.trans moves) near
        rw [calls] at plan
        exact ⟨appr, form, (State.answer_events t .operations .operations _ _ _).symm ▸ event, plan,
          fun done => (ended done).answer _ _ _ _, expired, seq⟩
      · have moves := moved_eq.symm.trans moves
        have w_eq : w = u.handed n po cancel c none := State.called_ends moves
        obtain ⟨current, running, -⟩ := State.callMoves_some moves
        obtain ⟨frame, appr, form, -, -, -, -, -, expired⟩ := State.handed_facts n po cancel c none u
        rw [← w_eq] at frame appr form expired
        have seqT : t.seq = w.seq := (congrArg State.seq frameT :)
        have planW : w.plan = u.plan.setCall n po (callNamed cancel) := (congrArg State.plan frame :)
        refine ⟨(congrArg State.appr frameT :).trans appr, (congrArg State.form frameT :).trans form, ?_,
          fun m hm => expired m (seqT ▸ hm)⟩
        exact (congrArg Plan.state (stateT.trans planW) :).trans running
    · have own_eq : own = false := decide_eq_false mine
      have moved_eq : moved = none := by
        simp only [moved, own_eq, Bool.false_eq_true, false_and, if_false]
        cases s.appr.current <;> rfl
      have voids_eq : voids = fun _ => false := funext fun g => by
        simp only [voids, own_eq, Bool.false_and]
      have voided_eq : u.voidedBy n po (callNamed cancel) = 0 := if_neg fun both => mine both.1
      have zero : voided = 0 := by
        simp only [voided, voids_eq, List.filter_false, List.length_nil, List.map_const', List.sum_replicate,
          smul_eq_mul, Nat.mul_zero]
      have same := State.changeCall_other_eq (s := u) (cancel := cancel) stop mine
      rw [same, voided_eq] at run
      refine ⟨_, run, rfl, ?_, rfl, ?_, fun _ => rfl, fun h => absurd (own_eq.symm.trans h) nofun,
        fun h => absurd (own_eq.symm.trans h) nofun, fun c d h => absurd (moved_eq.symm.trans h) nofun,
        fun c h => absurd (moved_eq.symm.trans h) nofun⟩
      · rw [zero]
        rfl
      · have unmarked := PanelLine.unmarked_staleWhere s fun x => decide (x.kind = .doorMap)
        rw [State.staleWhere_line] at unmarked
        exact unmarked

end Sys2Proof.Machine
end
